-- ==== Sys2Proof/Word.lean ====
section
/-! DEFINITION. The word types of the HZ-8 (R12, R16, R33): a scalar register holds 64 bits, an instruction word and a
vector lane 32, a vector register 512 (16 lanes), memory is bytes. -/

namespace Sys2Proof

/-- A scalar register, a task address or a system register (R12, R30). -/
abbrev Word := BitVec 64

/-- An instruction word, a literal or one vector lane (R16, R33). -/
abbrev W32 := BitVec 32

/-- A vector register of one cell: lane j in bits [32j+31:32j] (R62). -/
abbrev VReg := BitVec 512

/-- The unit of memory and towers. -/
abbrev Byte := BitVec 8

end Sys2Proof
end

