-- ==== Sys2Proof/Syntax.lean ====
section
/-! DEFINITION. The instructions of the HZ-8: one constructor for each row of spec/opcode_table.json. A word's
constructor holds the fields of its encoding (R38-R49), under the table's field names; a broadcast source is its own
type (R45), and a C word with FO = 1 carries its D word (R36). A row that no word encodes is an event of an agent of
the machine: its constructor holds what the rule leaves to the physical world or to the host. -/

namespace Sys2Proof

/-- The source S of a V broadcast word (R45): a constant c0-c31, a scalar s16-s31, or the literal word that follows. -/
inductive BSrc where
  | const (n : BitVec 5)
  | scalar (n : BitVec 4)
  | literal (w : W32)
deriving DecidableEq, Repr

/-- The three engine queues of a strand (R194). -/
inductive EngineQ where
  | V
  | D
  | C
deriving DecidableEq, Repr

/-- How a begun copy fails on data (R215). -/
inductive DataFault where
  /-- a rind does not match (0x0D) -/
  | rind
  /-- a ZB block beyond the declared ratio (0x0A) -/
  | expansion
  /-- an error response from a home (0x05) -/
  | error
deriving DecidableEq, Repr

/-- The header of a launch transport request (Table 22.4), less the constant magic: the tag is compared with the one the
hub computes (R394). -/
structure Header where
  version : Nat
  kind : Nat
  partition : Nat
  die : Nat
  session : Nat
  sequence : Nat
  tag : List Byte
deriving DecidableEq, Repr

/-- One change of the partition configuration by the SMP (R398). -/
inductive PartConfig where
  /-- PARTOF of a package core (die * 256 + core): owned by a partition or by none -/
  | core (n : Nat) (owner : Option Nat)
  /-- ROOT of a partition: the physical address of its level-1 table -/
  | root (part pa : Nat)
  /-- FHREC of a partition: the task address of its fault-handler record -/
  | handler (part : Nat) (record : Word)
  /-- TVEC and TPRIV of a partition's strands at dispatch (Table 1.4) -/
  | vector (part : Nat) (tvec tpriv : Word)
  /-- a far-domain window (Table 24.2) -/
  | window (w : Nat) (domain pkg : Nat)
  /-- a multicast group: its member packages (Table 24.2) -/
  | group (g : Nat) (members : List Nat)
deriving DecidableEq, Repr

/-- What a cold reset finds (R353, R388, R402, R413): the firmware stages with the measurement register each extends,
the number of the first stage whose signature fails (0: none), the package and domain number, the identity seed, the
settings of the time base, the Type 3 devices' capacities in bytes with the lanes negotiated, and the repairs. -/
structure BootImage where
  stages : List (Nat × List Byte)
  failing : Nat
  pkg : Nat
  domain : Nat
  seed : List Byte
  /-- Llyndan's certificate for the public key of the identity seed (R403) -/
  cert : List Byte
  ip6 : Bool
  ptpDomain : Nat
  devices : List Nat
  width : Nat
  /-- enumeration indexes of devices refused because they are not Type 3 (R388) -/
  refusedDevices : List Nat
  /-- package cells the cold-reset self-test fails (R353) -/
  failedCells : List Nat
  /-- tower banks (package cell * 16 + bank) whose STRONG a repair clears (R352) -/
  repairedBanks : List Nat
deriving DecidableEq, Repr

/-- What a remote package asks of a home of this package (R418). -/
inductive RemoteOp where
  | read (len : Nat)
  | write (data : List Byte)
  /-- a block of 256 bytes of a copy with its rind's CRC and address, and whether the page keeps rinds (R424) -/
  | block (data : List Byte) (crc : W32) (addr : BitVec 48) (keep : Bool)
  /-- an atomic of Table 14.2 with its operands -/
  | atomic (op : BitVec 4) (b e : Word)
deriving DecidableEq, Repr

/-- A request of another package (R418). -/
structure RemoteReq where
  source : Nat
  number : Nat
  pa : Nat
  op : RemoteOp
deriving DecidableEq, Repr

/-- The instructions and events (spec/opcode_table.json). -/
inductive Instr where
  /-- LUI (R81). -/
  | lui (d : BitVec 5) (i : BitVec 20)
  /-- FLI (R81). -/
  | fli (d : BitVec 5) (i : BitVec 20)
  /-- ADDPC (R81). -/
  | addpc (d : BitVec 5) (i : BitVec 20)
  /-- J (R91). -/
  | j (i : BitVec 20)
  /-- CALL (R93). -/
  | call (i : BitVec 20)
  /-- REP (R97). -/
  | rep (c : BitVec 2) (b : BitVec 2) (a : BitVec 2) (n : BitVec 6)
  /-- LOOPB (R53). -/
  | loopb (r : BitVec 5) (v : BitVec 3) (d : BitVec 3) (c : BitVec 3) (l : BitVec 8)
  /-- ADD (R78). -/
  | add (d : BitVec 5) (a : BitVec 5) (b : BitVec 5)
  /-- SUB (R78). -/
  | sub (d : BitVec 5) (a : BitVec 5) (b : BitVec 5)
  /-- MUL (R78). -/
  | mul (d : BitVec 5) (a : BitVec 5) (b : BitVec 5)
  /-- MULH (R78). -/
  | mulh (d : BitVec 5) (a : BitVec 5) (b : BitVec 5)
  /-- MULHN (R78). -/
  | mulhn (d : BitVec 5) (a : BitVec 5) (b : BitVec 5)
  /-- DIV (R79). -/
  | div (d : BitVec 5) (a : BitVec 5) (b : BitVec 5)
  /-- DIVN (R79). -/
  | divn (d : BitVec 5) (a : BitVec 5) (b : BitVec 5)
  /-- REM (R79). -/
  | rem (d : BitVec 5) (a : BitVec 5) (b : BitVec 5)
  /-- REMN (R79). -/
  | remn (d : BitVec 5) (a : BitVec 5) (b : BitVec 5)
  /-- AND (R78). -/
  | and (d : BitVec 5) (a : BitVec 5) (b : BitVec 5)
  /-- OR (R78). -/
  | or (d : BitVec 5) (a : BitVec 5) (b : BitVec 5)
  /-- XOR (R78). -/
  | xor (d : BitVec 5) (a : BitVec 5) (b : BitVec 5)
  /-- ANDN (R78). -/
  | andn (d : BitVec 5) (a : BitVec 5) (b : BitVec 5)
  /-- SHL (R78). -/
  | shl (d : BitVec 5) (a : BitVec 5) (b : BitVec 5)
  /-- SHR (R78). -/
  | shr (d : BitVec 5) (a : BitVec 5) (b : BitVec 5)
  /-- SRA (R78). -/
  | sra (d : BitVec 5) (a : BitVec 5) (b : BitVec 5)
  /-- MIN (R78). -/
  | min (d : BitVec 5) (a : BitVec 5) (b : BitVec 5)
  /-- MINN (R78). -/
  | minn (d : BitVec 5) (a : BitVec 5) (b : BitVec 5)
  /-- MAX (R78). -/
  | max (d : BitVec 5) (a : BitVec 5) (b : BitVec 5)
  /-- MAXN (R78). -/
  | maxn (d : BitVec 5) (a : BitVec 5) (b : BitVec 5)
  /-- SEQ (R78). -/
  | seq (d : BitVec 5) (a : BitVec 5) (b : BitVec 5)
  /-- SLT (R78). -/
  | slt (d : BitVec 5) (a : BitVec 5) (b : BitVec 5)
  /-- SLTN (R78). -/
  | sltn (d : BitVec 5) (a : BitVec 5) (b : BitVec 5)
  /-- CLZ (R78). -/
  | clz (d : BitVec 5) (a : BitVec 5)
  /-- CTZ (R78). -/
  | ctz (d : BitVec 5) (a : BitVec 5)
  /-- POPC (R78). -/
  | popc (d : BitVec 5) (a : BitVec 5)
  /-- ADDW (R78). -/
  | addw (d : BitVec 5) (a : BitVec 5) (b : BitVec 5)
  /-- SUBW (R78). -/
  | subw (d : BitVec 5) (a : BitVec 5) (b : BitVec 5)
  /-- MULW (R78). -/
  | mulw (d : BitVec 5) (a : BitVec 5) (b : BitVec 5)
  /-- ADDI (R80). -/
  | addi (d : BitVec 5) (a : BitVec 5) (i : BitVec 14)
  /-- ANDI (R80). -/
  | andi (d : BitVec 5) (a : BitVec 5) (i : BitVec 14)
  /-- ORI (R80). -/
  | ori (d : BitVec 5) (a : BitVec 5) (i : BitVec 14)
  /-- XORI (R80). -/
  | xori (d : BitVec 5) (a : BitVec 5) (i : BitVec 14)
  /-- SHLI (R80). -/
  | shli (d : BitVec 5) (a : BitVec 5) (n : BitVec 6)
  /-- SHRI (R80). -/
  | shri (d : BitVec 5) (a : BitVec 5) (n : BitVec 6)
  /-- SRAI (R80). -/
  | srai (d : BitVec 5) (a : BitVec 5) (n : BitVec 6)
  /-- SLTI (R80). -/
  | slti (d : BitVec 5) (a : BitVec 5) (i : BitVec 14)
  /-- SLTNI (R80). -/
  | sltni (d : BitVec 5) (a : BitVec 5) (i : BitVec 14)
  /-- LD (R87). -/
  | ld (d : BitVec 5) (a : BitVec 5) (z : BitVec 3) (o : BitVec 11)
  /-- ST (R87). -/
  | st (s : BitVec 5) (a : BitVec 5) (z : BitVec 3) (o : BitVec 11)
  /-- AMO_ADD (R266). -/
  | amoAdd (d : BitVec 5) (a : BitVec 5) (b : BitVec 5) (c : BitVec 3) (r : BitVec 2)
  /-- AMO_AND (R266). -/
  | amoAnd (d : BitVec 5) (a : BitVec 5) (b : BitVec 5) (c : BitVec 3) (r : BitVec 2)
  /-- AMO_OR (R266). -/
  | amoOr (d : BitVec 5) (a : BitVec 5) (b : BitVec 5) (c : BitVec 3) (r : BitVec 2)
  /-- AMO_XOR (R266). -/
  | amoXor (d : BitVec 5) (a : BitVec 5) (b : BitVec 5) (c : BitVec 3) (r : BitVec 2)
  /-- AMO_MIN (R266). -/
  | amoMin (d : BitVec 5) (a : BitVec 5) (b : BitVec 5) (c : BitVec 3) (r : BitVec 2)
  /-- AMO_MAX (R266). -/
  | amoMax (d : BitVec 5) (a : BitVec 5) (b : BitVec 5) (c : BitVec 3) (r : BitVec 2)
  /-- AMO_MINN (R266). -/
  | amoMinn (d : BitVec 5) (a : BitVec 5) (b : BitVec 5) (c : BitVec 3) (r : BitVec 2)
  /-- AMO_MAXN (R266). -/
  | amoMaxn (d : BitVec 5) (a : BitVec 5) (b : BitVec 5) (c : BitVec 3) (r : BitVec 2)
  /-- AMO_SWAP (R266). -/
  | amoSwap (d : BitVec 5) (a : BitVec 5) (b : BitVec 5) (c : BitVec 3) (r : BitVec 2)
  /-- AMO_CAS (R266). -/
  | amoCas (d : BitVec 5) (a : BitVec 5) (b : BitVec 5) (c : BitVec 3) (r : BitVec 2)
  /-- AMO_FADD32 (R266). -/
  | amoFadd32 (d : BitVec 5) (a : BitVec 5) (b : BitVec 5) (c : BitVec 3) (r : BitVec 2)
  /-- AMO_ADDW (R266). -/
  | amoAddw (d : BitVec 5) (a : BitVec 5) (b : BitVec 5) (c : BitVec 3) (r : BitVec 2)
  /-- AMO_CASW (R266). -/
  | amoCasw (d : BitVec 5) (a : BitVec 5) (b : BitVec 5) (c : BitVec 3) (r : BitVec 2)
  /-- AMO_SWAPW (R266). -/
  | amoSwapw (d : BitVec 5) (a : BitVec 5) (b : BitVec 5) (c : BitVec 3) (r : BitVec 2)
  /-- BEQ (R90). -/
  | beq (a : BitVec 5) (b : BitVec 5) (i : BitVec 14)
  /-- BNE (R90). -/
  | bne (a : BitVec 5) (b : BitVec 5) (i : BitVec 14)
  /-- BLT (R90). -/
  | blt (a : BitVec 5) (b : BitVec 5) (i : BitVec 14)
  /-- BGE (R90). -/
  | bge (a : BitVec 5) (b : BitVec 5) (i : BitVec 14)
  /-- BLTN (R90). -/
  | bltn (a : BitVec 5) (b : BitVec 5) (i : BitVec 14)
  /-- BGEN (R90). -/
  | bgen (a : BitVec 5) (b : BitVec 5) (i : BitVec 14)
  /-- JR (R91). -/
  | jr (t : BitVec 5)
  /-- CALLR (R93). -/
  | callr (t : BitVec 5)
  /-- RET (R95). -/
  | ret
  /-- LIT (R82). -/
  | lit (d : BitVec 5) (lit : W32)
  /-- LITN (R82). -/
  | litn (d : BitVec 5) (lit : W32)
  /-- LITH (R82). -/
  | lith (d : BitVec 5) (lit : W32)
  /-- GSET (R99). -/
  | gset (s : BitVec 3) (a : BitVec 5) (b : BitVec 5) (c : BitVec 3)
  /-- GSET_UNRES (R99). -/
  | gsetUnres (s : BitVec 3)
  /-- TKP (R102). -/
  | tkp (c : BitVec 3) (n : BitVec 5)
  /-- TKW (R102). -/
  | tkw (c : BitVec 3) (n : BitVec 5)
  /-- TRAP (R172). -/
  | trap (n : BitVec 10)
  /-- ERET_RESUME (R171). -/
  | eretResume
  /-- ERET_DISCARD (R171). -/
  | eretDiscard
  /-- ERET_END (R171). -/
  | eretEnd
  /-- SRD (R173). -/
  | srd (d : BitVec 5) (i : BitVec 10)
  /-- SWR (R173). -/
  | swr (s : BitVec 5) (i : BitVec 10)
  /-- FENCE (R289). -/
  | fence (k : BitVec 2) (c : BitVec 3)
  /-- NOP (R174). -/
  | nop
  /-- REFD_DEFER (R347). -/
  | refdDefer (s : BitVec 5)
  /-- REFD_RELEASE (R347). -/
  | refdRelease (s : BitVec 5)
  /-- REFD_REFRESH_NOW (R347). -/
  | refdRefreshNow (s : BitVec 5)
  /-- INVAL (R291). -/
  | inval (s : BitVec 5)
  /-- WFE (R174). -/
  | wfe
  /-- FORK (R187). -/
  | fork (a : BitVec 5)
  /-- JOIN (R189). -/
  | join
  /-- SYNCS (R192). -/
  | syncs (n : BitVec 3)
  /-- SYNCW (R192). -/
  | syncw (n : BitVec 3)
  /-- SYNCC (R192). -/
  | syncc (n : BitVec 3)
  /-- FID (R190). -/
  | fid (d : BitVec 5)
  /-- SPAWN (R321). -/
  | spawn (d : BitVec 5) (s : BitVec 5)
  /-- SIGNAL (R321). -/
  | signal (s : BitVec 5)
  /-- TEND (R323). -/
  | tend
  /-- BAR (R274). -/
  | bar
  /-- BARW (R274). -/
  | barw (d : BitVec 5) (s : BitVec 5)
  /-- BARA (R274). -/
  | bara
  /-- YIELD (R325). -/
  | yield
  /-- WEAR (R325). -/
  | wear (d : BitVec 5)
  /-- ENTER (R94). -/
  | enter (v : BitVec 2)
  /-- CB (R83). -/
  | cb (d : BitVec 5) (n : BitVec 8)
  /-- LOOPS (R96). -/
  | loops (r : BitVec 5) (l : BitVec 14)
  /-- VADD (R118). -/
  | vadd (t : BitVec 4) (c : BitVec 4) (d : BitVec 4) (a : BitVec 4) (b : BitVec 4) (l : BitVec 2) (y : BitVec 2)
  /-- VADD_BCAST (R118). -/
  | vaddBcast (t : BitVec 4) (c : BitVec 4) (d : BitVec 4) (a : BitVec 4) (s : BSrc)
  /-- VSUB (R118). -/
  | vsub (t : BitVec 4) (c : BitVec 4) (d : BitVec 4) (a : BitVec 4) (b : BitVec 4) (l : BitVec 2) (y : BitVec 2)
  /-- VSUB_BCAST (R118). -/
  | vsubBcast (t : BitVec 4) (c : BitVec 4) (d : BitVec 4) (a : BitVec 4) (s : BSrc)
  /-- VMUL (R118). -/
  | vmul (t : BitVec 4) (c : BitVec 4) (d : BitVec 4) (a : BitVec 4) (b : BitVec 4) (l : BitVec 2) (y : BitVec 2)
  /-- VMUL_BCAST (R118). -/
  | vmulBcast (t : BitVec 4) (c : BitVec 4) (d : BitVec 4) (a : BitVec 4) (s : BSrc)
  /-- VMULH (R118). -/
  | vmulh (t : BitVec 4) (c : BitVec 4) (d : BitVec 4) (a : BitVec 4) (b : BitVec 4) (l : BitVec 2) (y : BitVec 2)
  /-- VMULH_BCAST (R118). -/
  | vmulhBcast (t : BitVec 4) (c : BitVec 4) (d : BitVec 4) (a : BitVec 4) (s : BSrc)
  /-- VMULHN (R118). -/
  | vmulhn (t : BitVec 4) (c : BitVec 4) (d : BitVec 4) (a : BitVec 4) (b : BitVec 4) (l : BitVec 2) (y : BitVec 2)
  /-- VMULHN_BCAST (R118). -/
  | vmulhnBcast (t : BitVec 4) (c : BitVec 4) (d : BitVec 4) (a : BitVec 4) (s : BSrc)
  /-- VMAD (R118). -/
  | vmad (t : BitVec 4) (c : BitVec 4) (d : BitVec 4) (a : BitVec 4) (b : BitVec 4) (l : BitVec 2) (y : BitVec 2)
  /-- VMAD_BCAST (R118). -/
  | vmadBcast (t : BitVec 4) (c : BitVec 4) (d : BitVec 4) (a : BitVec 4) (s : BSrc)
  /-- VADDS (R118). -/
  | vadds (t : BitVec 4) (c : BitVec 4) (d : BitVec 4) (a : BitVec 4) (b : BitVec 4) (l : BitVec 2) (y : BitVec 2)
  /-- VADDS_BCAST (R118). -/
  | vaddsBcast (t : BitVec 4) (c : BitVec 4) (d : BitVec 4) (a : BitVec 4) (s : BSrc)
  /-- VSUBS (R118). -/
  | vsubs (t : BitVec 4) (c : BitVec 4) (d : BitVec 4) (a : BitVec 4) (b : BitVec 4) (l : BitVec 2) (y : BitVec 2)
  /-- VSUBS_BCAST (R118). -/
  | vsubsBcast (t : BitVec 4) (c : BitVec 4) (d : BitVec 4) (a : BitVec 4) (s : BSrc)
  /-- VADDSN (R118). -/
  | vaddsn (t : BitVec 4) (c : BitVec 4) (d : BitVec 4) (a : BitVec 4) (b : BitVec 4) (l : BitVec 2) (y : BitVec 2)
  /-- VADDSN_BCAST (R118). -/
  | vaddsnBcast (t : BitVec 4) (c : BitVec 4) (d : BitVec 4) (a : BitVec 4) (s : BSrc)
  /-- VSUBSN (R118). -/
  | vsubsn (t : BitVec 4) (c : BitVec 4) (d : BitVec 4) (a : BitVec 4) (b : BitVec 4) (l : BitVec 2) (y : BitVec 2)
  /-- VSUBSN_BCAST (R118). -/
  | vsubsnBcast (t : BitVec 4) (c : BitVec 4) (d : BitVec 4) (a : BitVec 4) (s : BSrc)
  /-- VMIN (R118). -/
  | vmin (t : BitVec 4) (c : BitVec 4) (d : BitVec 4) (a : BitVec 4) (b : BitVec 4) (l : BitVec 2) (y : BitVec 2)
  /-- VMIN_BCAST (R118). -/
  | vminBcast (t : BitVec 4) (c : BitVec 4) (d : BitVec 4) (a : BitVec 4) (s : BSrc)
  /-- VMAX (R118). -/
  | vmax (t : BitVec 4) (c : BitVec 4) (d : BitVec 4) (a : BitVec 4) (b : BitVec 4) (l : BitVec 2) (y : BitVec 2)
  /-- VMAX_BCAST (R118). -/
  | vmaxBcast (t : BitVec 4) (c : BitVec 4) (d : BitVec 4) (a : BitVec 4) (s : BSrc)
  /-- VMINN (R118). -/
  | vminn (t : BitVec 4) (c : BitVec 4) (d : BitVec 4) (a : BitVec 4) (b : BitVec 4) (l : BitVec 2) (y : BitVec 2)
  /-- VMINN_BCAST (R118). -/
  | vminnBcast (t : BitVec 4) (c : BitVec 4) (d : BitVec 4) (a : BitVec 4) (s : BSrc)
  /-- VMAXN (R118). -/
  | vmaxn (t : BitVec 4) (c : BitVec 4) (d : BitVec 4) (a : BitVec 4) (b : BitVec 4) (l : BitVec 2) (y : BitVec 2)
  /-- VMAXN_BCAST (R118). -/
  | vmaxnBcast (t : BitVec 4) (c : BitVec 4) (d : BitVec 4) (a : BitVec 4) (s : BSrc)
  /-- VABS (R118). -/
  | vabs (t : BitVec 4) (c : BitVec 4) (d : BitVec 4) (a : BitVec 4) (l : BitVec 2) (y : BitVec 2)
  /-- VAND (R118). -/
  | vand (t : BitVec 4) (c : BitVec 4) (d : BitVec 4) (a : BitVec 4) (b : BitVec 4) (l : BitVec 2) (y : BitVec 2)
  /-- VAND_BCAST (R118). -/
  | vandBcast (t : BitVec 4) (c : BitVec 4) (d : BitVec 4) (a : BitVec 4) (s : BSrc)
  /-- VOR (R118). -/
  | vor (t : BitVec 4) (c : BitVec 4) (d : BitVec 4) (a : BitVec 4) (b : BitVec 4) (l : BitVec 2) (y : BitVec 2)
  /-- VOR_BCAST (R118). -/
  | vorBcast (t : BitVec 4) (c : BitVec 4) (d : BitVec 4) (a : BitVec 4) (s : BSrc)
  /-- VXOR (R118). -/
  | vxor (t : BitVec 4) (c : BitVec 4) (d : BitVec 4) (a : BitVec 4) (b : BitVec 4) (l : BitVec 2) (y : BitVec 2)
  /-- VXOR_BCAST (R118). -/
  | vxorBcast (t : BitVec 4) (c : BitVec 4) (d : BitVec 4) (a : BitVec 4) (s : BSrc)
  /-- VANDN (R118). -/
  | vandn (t : BitVec 4) (c : BitVec 4) (d : BitVec 4) (a : BitVec 4) (b : BitVec 4) (l : BitVec 2) (y : BitVec 2)
  /-- VANDN_BCAST (R118). -/
  | vandnBcast (t : BitVec 4) (c : BitVec 4) (d : BitVec 4) (a : BitVec 4) (s : BSrc)
  /-- VSHL (R118). -/
  | vshl (t : BitVec 4) (c : BitVec 4) (d : BitVec 4) (a : BitVec 4) (b : BitVec 4) (l : BitVec 2) (y : BitVec 2)
  /-- VSHL_BCAST (R118). -/
  | vshlBcast (t : BitVec 4) (c : BitVec 4) (d : BitVec 4) (a : BitVec 4) (s : BSrc)
  /-- VSHR (R118). -/
  | vshr (t : BitVec 4) (c : BitVec 4) (d : BitVec 4) (a : BitVec 4) (b : BitVec 4) (l : BitVec 2) (y : BitVec 2)
  /-- VSHR_BCAST (R118). -/
  | vshrBcast (t : BitVec 4) (c : BitVec 4) (d : BitVec 4) (a : BitVec 4) (s : BSrc)
  /-- VSRA (R118). -/
  | vsra (t : BitVec 4) (c : BitVec 4) (d : BitVec 4) (a : BitVec 4) (b : BitVec 4) (l : BitVec 2) (y : BitVec 2)
  /-- VSRA_BCAST (R118). -/
  | vsraBcast (t : BitVec 4) (c : BitVec 4) (d : BitVec 4) (a : BitVec 4) (s : BSrc)
  /-- VCLZ (R118). -/
  | vclz (t : BitVec 4) (c : BitVec 4) (d : BitVec 4) (a : BitVec 4) (l : BitVec 2) (y : BitVec 2)
  /-- VPOPC (R118). -/
  | vpopc (t : BitVec 4) (c : BitVec 4) (d : BitVec 4) (a : BitVec 4) (l : BitVec 2) (y : BitVec 2)
  /-- VCMP (R122). -/
  | vcmp (t : BitVec 4) (c : BitVec 4) (d : BitVec 4) (a : BitVec 4) (b : BitVec 4) (l : BitVec 2) (y : BitVec 2)
  /-- VCMPN (R122). -/
  | vcmpn (t : BitVec 4) (c : BitVec 4) (d : BitVec 4) (a : BitVec 4) (b : BitVec 4) (l : BitVec 2) (y : BitVec 2)
  /-- FADD (R119). -/
  | fadd (t : BitVec 4) (c : BitVec 4) (d : BitVec 4) (a : BitVec 4) (b : BitVec 4) (l : BitVec 2) (y : BitVec 2)
  /-- FADD_BCAST (R119). -/
  | faddBcast (t : BitVec 4) (c : BitVec 4) (d : BitVec 4) (a : BitVec 4) (s : BSrc)
  /-- FSUB (R119). -/
  | fsub (t : BitVec 4) (c : BitVec 4) (d : BitVec 4) (a : BitVec 4) (b : BitVec 4) (l : BitVec 2) (y : BitVec 2)
  /-- FSUB_BCAST (R119). -/
  | fsubBcast (t : BitVec 4) (c : BitVec 4) (d : BitVec 4) (a : BitVec 4) (s : BSrc)
  /-- FMUL (R119). -/
  | fmul (t : BitVec 4) (c : BitVec 4) (d : BitVec 4) (a : BitVec 4) (b : BitVec 4) (l : BitVec 2) (y : BitVec 2)
  /-- FMUL_BCAST (R119). -/
  | fmulBcast (t : BitVec 4) (c : BitVec 4) (d : BitVec 4) (a : BitVec 4) (s : BSrc)
  /-- FFMA (R119). -/
  | ffma (t : BitVec 4) (c : BitVec 4) (d : BitVec 4) (a : BitVec 4) (b : BitVec 4) (l : BitVec 2) (y : BitVec 2)
  /-- FFMA_BCAST (R119). -/
  | ffmaBcast (t : BitVec 4) (c : BitVec 4) (d : BitVec 4) (a : BitVec 4) (s : BSrc)
  /-- FFMS (R119). -/
  | ffms (t : BitVec 4) (c : BitVec 4) (d : BitVec 4) (a : BitVec 4) (b : BitVec 4) (l : BitVec 2) (y : BitVec 2)
  /-- FFMS_BCAST (R119). -/
  | ffmsBcast (t : BitVec 4) (c : BitVec 4) (d : BitVec 4) (a : BitVec 4) (s : BSrc)
  /-- FMIN (R119). -/
  | fmin (t : BitVec 4) (c : BitVec 4) (d : BitVec 4) (a : BitVec 4) (b : BitVec 4) (l : BitVec 2) (y : BitVec 2)
  /-- FMIN_BCAST (R119). -/
  | fminBcast (t : BitVec 4) (c : BitVec 4) (d : BitVec 4) (a : BitVec 4) (s : BSrc)
  /-- FMAX (R119). -/
  | fmax (t : BitVec 4) (c : BitVec 4) (d : BitVec 4) (a : BitVec 4) (b : BitVec 4) (l : BitVec 2) (y : BitVec 2)
  /-- FMAX_BCAST (R119). -/
  | fmaxBcast (t : BitVec 4) (c : BitVec 4) (d : BitVec 4) (a : BitVec 4) (s : BSrc)
  /-- FABS (R119). -/
  | fabs (t : BitVec 4) (c : BitVec 4) (d : BitVec 4) (a : BitVec 4) (l : BitVec 2) (y : BitVec 2)
  /-- FNEG (R119). -/
  | fneg (t : BitVec 4) (c : BitVec 4) (d : BitVec 4) (a : BitVec 4) (l : BitVec 2) (y : BitVec 2)
  /-- FRCP (R120). -/
  | frcp (t : BitVec 4) (c : BitVec 4) (d : BitVec 4) (a : BitVec 4) (l : BitVec 2) (y : BitVec 2)
  /-- FRSQ (R120). -/
  | frsq (t : BitVec 4) (c : BitVec 4) (d : BitVec 4) (a : BitVec 4) (l : BitVec 2) (y : BitVec 2)
  /-- FEXP2 (R120). -/
  | fexp2 (t : BitVec 4) (c : BitVec 4) (d : BitVec 4) (a : BitVec 4) (l : BitVec 2) (y : BitVec 2)
  /-- FLOG2 (R120). -/
  | flog2 (t : BitVec 4) (c : BitVec 4) (d : BitVec 4) (a : BitVec 4) (l : BitVec 2) (y : BitVec 2)
  /-- FCMP (R122). -/
  | fcmp (t : BitVec 4) (c : BitVec 4) (d : BitVec 4) (a : BitVec 4) (b : BitVec 4) (l : BitVec 2) (y : BitVec 2)
  /-- FCLASS (R121). -/
  | fclass (t : BitVec 4) (c : BitVec 4) (d : BitVec 4) (a : BitVec 4) (l : BitVec 2) (y : BitVec 2)
  /-- VCVT (R124). -/
  | vcvt (t : BitVec 4) (c : BitVec 4) (d : BitVec 4) (a : BitVec 4) (b : BitVec 4) (l : BitVec 2)
  /-- VSCALE (R125). -/
  | vscale (t : BitVec 4) (c : BitVec 4) (d : BitVec 4) (a : BitVec 4) (b : BitVec 4) (l : BitVec 2) (y : BitVec 2)
  /-- VQPACK (R126). -/
  | vqpack (t : BitVec 4) (c : BitVec 4) (d : BitVec 4) (a : BitVec 4) (b : BitVec 4) (l : BitVec 2)
  /-- VQUNPK (R126). -/
  | vqunpk (t : BitVec 4) (c : BitVec 4) (d : BitVec 4) (a : BitVec 4) (b : BitVec 4) (l : BitVec 2)
  /-- VSEL (R127). -/
  | vsel (t : BitVec 4) (c : BitVec 4) (d : BitVec 4) (a : BitVec 4) (b : BitVec 4) (l : BitVec 2)
  /-- VPERM (R127). -/
  | vperm (t : BitVec 4) (c : BitVec 4) (d : BitVec 4) (a : BitVec 4) (b : BitVec 4) (l : BitVec 2) (y : BitVec 2)
  /-- VBCASTS (R127). -/
  | vbcasts (t : BitVec 4) (c : BitVec 4) (d : BitVec 4) (a : BitVec 4) (b : BitVec 4) (l : BitVec 2)
  /-- VREDADD (R128). -/
  | vredadd (t : BitVec 4) (c : BitVec 4) (d : BitVec 4) (a : BitVec 4) (b : BitVec 4) (l : BitVec 2) (y : BitVec 2)
  /-- VREDMAX (R128). -/
  | vredmax (t : BitVec 4) (c : BitVec 4) (d : BitVec 4) (a : BitVec 4) (b : BitVec 4) (l : BitVec 2) (y : BitVec 2)
  /-- VSHF (R130). -/
  | vshf (t : BitVec 4) (c : BitVec 4) (d : BitVec 4) (a : BitVec 4) (b : BitVec 2) (l : BitVec 2)
  /-- VXTR (R129). -/
  | vxtr (t : BitVec 4) (c : BitVec 4) (a : BitVec 4) (b : BitVec 4) (l : BitVec 2)
  /-- PLOG (R123). -/
  | plog (t : BitVec 4) (c : BitVec 4) (d : BitVec 4) (a : BitVec 4) (b : BitVec 4) (l : BitVec 2)
  /-- PSET (R123). -/
  | pset (t : BitVec 4) (c : BitVec 4) (d : BitVec 4) (a : BitVec 4) (b : BitVec 4) (l : BitVec 2)
  /-- PTST (R129). -/
  | ptst (t : BitVec 4) (c : BitVec 4) (a : BitVec 4)
  /-- TLD (R131). -/
  | tld (t : BitVec 4) (c : BitVec 4) (d : BitVec 4) (a : BitVec 4) (b : BitVec 4) (l : BitVec 2)
  /-- TST (R131). -/
  | tst (t : BitVec 4) (c : BitVec 4) (d : BitVec 4) (a : BitVec 4) (b : BitVec 4) (l : BitVec 2)
  /-- TLDX (R132). -/
  | tldx (t : BitVec 4) (c : BitVec 4) (d : BitVec 4) (a : BitVec 4) (b : BitVec 4) (l : BitVec 2) (y : BitVec 2)
  /-- TSTX (R132). -/
  | tstx (t : BitVec 4) (c : BitVec 4) (d : BitVec 4) (a : BitVec 4) (b : BitVec 4) (l : BitVec 2) (y : BitVec 2)
  /-- GLD (R135). -/
  | gld (t : BitVec 4) (c : BitVec 4) (d : BitVec 4) (a : BitVec 4) (b : BitVec 4) (y : BitVec 2)
  /-- GST (R136). -/
  | gst (t : BitVec 4) (c : BitVec 4) (d : BitVec 4) (a : BitVec 4) (b : BitVec 4) (y : BitVec 2)
  /-- GLDP (R135). -/
  | gldp (t : BitVec 4) (c : BitVec 4) (d : BitVec 4) (a : BitVec 4) (b : BitVec 4) (y : BitVec 2)
  /-- GAMO_ADD (R137). -/
  | gamoAdd (t : BitVec 4) (c : BitVec 4) (d : BitVec 4) (a : BitVec 4) (b : BitVec 4) (y : BitVec 2)
  /-- GAMO_MIN (R137). -/
  | gamoMin (t : BitVec 4) (c : BitVec 4) (d : BitVec 4) (a : BitVec 4) (b : BitVec 4)
  /-- GAMO_MAX (R137). -/
  | gamoMax (t : BitVec 4) (c : BitVec 4) (d : BitVec 4) (a : BitVec 4) (b : BitVec 4)
  /-- GAMO_SWAP (R137). -/
  | gamoSwap (t : BitVec 4) (c : BitVec 4) (d : BitVec 4) (a : BitVec 4) (b : BitVec 4)
  /-- VNOP (R138). -/
  | vnop (t : BitVec 4) (c : BitVec 4)
  /-- VFENCE (R138). -/
  | vfence (t : BitVec 4) (c : BitVec 4)
  /-- TCFG (R144). -/
  | tcfg (t : BitVec 4) (x : BitVec 1) (g : BitVec 3) (h : BitVec 4) (k : BitVec 2)
  /-- TZERO (R149). -/
  | tzero (t : BitVec 4) (x : BitVec 1) (g : BitVec 3) (a : BitVec 4)
  /-- DOT (R150). -/
  | dot (t : BitVec 4) (x : BitVec 1) (g : BitVec 3) (c : BitVec 4) (a : BitVec 6) (b : BitVec 6) (s : BitVec 1)
  /-- DOTC (R151). -/
  | dotc (t : BitVec 4) (x : BitVec 1) (g : BitVec 3) (c : BitVec 4) (a : BitVec 4) (z : BitVec 2) (b : BitVec 6) (s : BitVec 1)
  /-- SBPPT (R157). -/
  | sbppt (t : BitVec 4) (x : BitVec 1) (g : BitVec 3) (p : BitVec 2) (w : BitVec 6) (r : BitVec 4)
  /-- SBPSC (R158). -/
  | sbpsc (t : BitVec 4) (x : BitVec 1) (g : BitVec 3) (p : BitVec 2) (a : BitVec 6) (s : BitVec 1)
  /-- SBPMA (R159). -/
  | sbpma (t : BitVec 4) (x : BitVec 1) (g : BitVec 3) (c : BitVec 4) (p : BitVec 2) (r : BitVec 4)
  /-- SBPD (R160). -/
  | sbpd (t : BitVec 4) (x : BitVec 1) (g : BitVec 3) (c : BitVec 4) (w : BitVec 6) (a : BitVec 6) (s : BitVec 1)
  /-- TOUT (R152). -/
  | tout (t : BitVec 4) (x : BitVec 1) (g : BitVec 3) (c : BitVec 4) (a : BitVec 6) (f : BitVec 4) (e : BitVec 3)
  /-- TIN (R153). -/
  | tin (t : BitVec 4) (x : BitVec 1) (g : BitVec 3) (c : BitVec 4) (a : BitVec 6) (f : BitVec 4)
  /-- FMTW (R147). -/
  | fmtw (t : BitVec 4) (x : BitVec 1) (g : BitVec 3) (n : BitVec 4) (a : BitVec 4) (b : BitVec 4) (o : BitVec 4) (c : BitVec 1)
  /-- TDEF (R208). -/
  | tdef (t : BitVec 4) (g : BitVec 3) (l : BitVec 6) (a : BitVec 4)
  /-- CPY (R220). -/
  | cpy (t : BitVec 4) (f : Option W32) (g : BitVec 3) (l : BitVec 6) (a : BitVec 4) (b : BitVec 4) (d : BitVec 1) (p : BitVec 2)
  /-- CPYB (R221). -/
  | cpyb (t : BitVec 4) (f : Option W32) (g : BitVec 3) (l : BitVec 6) (a : BitVec 4) (b : BitVec 4) (p : BitVec 2)
  /-- CPYX (R222). -/
  | cpyx (t : BitVec 4) (f : Option W32) (g : BitVec 3) (l : BitVec 6) (a : BitVec 4) (b : BitVec 4)
  /-- CPYR (R421). -/
  | cpyr (t : BitVec 4) (f : Option W32) (g : BitVec 3) (l : BitVec 6) (a : BitVec 4) (b : BitVec 4) (d : BitVec 1) (p : BitVec 2)
  /-- CPYE (R227). -/
  | cpye (t : BitVec 4) (f : Option W32) (g : BitVec 3) (a : BitVec 4) (b : BitVec 4) (c : BitVec 4) (h : BitVec 2) (p : BitVec 2) (d : BitVec 1)
  /-- TREL (R211). -/
  | trel (t : BitVec 4) (g : BitVec 3) (l : BitVec 6)
  /-- QBIND (R231). -/
  | qbind (t : BitVec 4) (g : BitVec 3) (q : BitVec 2) (a : BitVec 4) (b : BitVec 4) (c : BitVec 4)
  /-- QUNB (R233). -/
  | qunb (t : BitVec 4) (g : BitVec 3) (q : BitVec 2)
  /-- QFENCE (R230). -/
  | qfence (t : BitVec 4) (g : BitVec 3) (m : BitVec 4) (s : BitVec 3)
  /-- VLOG_CLAIM (R433). -/
  | vlogClaim (d : BitVec 5)
  /-- MB_READ (R29). -/
  | mbRead (d : BitVec 5)
  /-- ENGINE_STATE_WRITE (R29). -/
  | engineStateWrite (i : BitVec 10) (s : BitVec 5)
  /-- CBASE_WRITE (R83). -/
  | cbaseWrite (s : BitVec 5)
  /-- FQHEAD_CLAIM (R303). -/
  | fqheadClaim (d : BitVec 5)
  /-- FQ_COMPLETE_RESUME (R306). -/
  | fqCompleteResume (s : BitVec 5)
  /-- FQ_COMPLETE_FAULT (R306). -/
  | fqCompleteFault (s : BitVec 5)
  /-- FQ_COMPLETE_KILL (R306). -/
  | fqCompleteKill (s : BitVec 5)
  /-- FQSTAT_WRITE (R303). -/
  | fqstatWrite (s : BitVec 5)
  /-- REGISTER_WRITE (R27). -/
  | registerWrite (i : BitVec 10) (s : BitVec 5)
  /-- CREQ_ACK (R351). -/
  | creqAck (cell bank : Nat)
  /-- UNISO (R392). -/
  | uniso (same : Bool)
  /-- CONTROL_BLOCK_WRITE (R357). -/
  | controlBlockWrite (off : Nat) (v : BitVec 64)
  /-- SPILL_TRANSFER (R14). -/
  | spillTransfer
  /-- V_ISSUE (R108). -/
  | vIssue (gap : Nat)
  /-- V_PERFORMED (R114). -/
  | vPerformed
  /-- D_PERFORMED (R139). -/
  | dPerformed
  /-- COPY_BEGIN (R215). -/
  | copyBegin
  /-- COPY_PERFORMED (R213). -/
  | copyPerformed
  /-- COPY_DATA_FAULT (R215). -/
  | copyDataFault (k : DataFault) (landed : Nat)
  /-- COMMAND_DISCARD (R199). -/
  | commandDiscard (q : EngineQ)
  /-- GUARD_RESOLUTION_VISIBLE (R101). -/
  | guardResolutionVisible
  /-- LOOPB_ITERATION (R201). -/
  | loopbIteration (q : EngineQ)
  /-- STREAM_GROUP_DECODE (R232). -/
  | streamGroupDecode (q : BitVec 2)
  /-- GATHER (R221). -/
  | gather
  /-- GATHER_PARTNER_TIMEOUT (R221). -/
  | gatherPartnerTimeout
  /-- TOKEN_WATCHDOG (R198). -/
  | tokenWatchdog (q : EngineQ)
  /-- TKW_WATCHDOG (R105). -/
  | tkwWatchdog
  /-- TILE_WAIT_WATCHDOG (R142). -/
  | tileWaitWatchdog
  /-- WFE_TIMEOUT (R174). -/
  | wfeTimeout
  /-- TRAP_ENTRY (R167). -/
  | trapEntry
  /-- CHECKER_MISMATCH (R205). -/
  | checkerMismatch
  /-- CHECKER_TIMEOUT (R205). -/
  | checkerTimeout
  /-- D_POISON_CONSUMED (R238). -/
  | dPoisonConsumed
  /-- WINDOW_ROLLBACK (R238). -/
  | windowRollback
  /-- TILE_REFETCH (R239). -/
  | tileRefetch
  /-- PAGE_WALK (R296). -/
  | pageWalk (cluster part va : Nat)
  /-- HELD_FAULT_POST (R305). -/
  | heldFaultPost (cluster : Nat)
  /-- HANDLER_SIGNAL (R436). -/
  | handlerSignal (part : Nat)
  /-- OUTBOUND_DRAIN (R282). -/
  | outboundDrain (die core n : Nat)
  /-- HOME_WRITE_MERGE (R264). -/
  | homeWriteMerge (home : Nat)
  /-- HOME_ATOMIC (R266). -/
  | homeAtomic (n : Nat)
  /-- ROUTER_MERGE (R269). -/
  | routerMerge (m n : Nat)
  /-- MERGED_REPLY_SPLIT (R270). -/
  | mergedReplySplit
  /-- BARRIER_ARRIVAL (R275). -/
  | barrierArrival
  /-- BARW_LIMIT_EXPIRY (R277). -/
  | barwLimitExpiry
  /-- INVAL_MARKER (R292). -/
  | invalMarker
  /-- SCHEDULER_DECISION (R328). -/
  | schedulerDecision (die part : Nat)
  /-- DISPATCH_COMPLETE (R332). -/
  | dispatchComplete
  /-- START_REACHED (R326). -/
  | startReached (n : Nat)
  /-- DEADLINE_MISS (R327). -/
  | deadlineMiss (n : Nat)
  /-- PRESS_SAVE (R336). -/
  | pressSave
  /-- PRESS_SAVE_DONE (R336). -/
  | pressSaveDone
  /-- STRESS_UPDATE (R354). -/
  | stressUpdate (die core : Nat) (bti em : BitVec 16)
  /-- LIFETIME_RECORD_WRITE (R354). -/
  | lifetimeRecordWrite
  /-- CALENDAR_SLOT (R341). -/
  | calendarSlot (channel slot : Nat)
  /-- BURST_LAND (R341, R386): the errors the array's ECC corrects, and the 32-byte units of the burst beyond correction. -/
  | burstLand (corrected : Nat) (bad : List Nat)
  /-- HBM_LINK_CRC_FAIL (R342). -/
  | hbmLinkCrcFail (n : Nat)
  /-- CHANNEL_RETRAIN_DONE (R387). -/
  | channelRetrainDone (channel : Nat) (ok : Bool)
  /-- REFRESH_DUE (R346). -/
  | refreshDue (cell bank : Nat)
  /-- REFRESH_BURST (R346). -/
  | refreshBurst (cell bank corrected : Nat) (bad : List Nat)
  /-- REFRESH_GUARD (R348). -/
  | refreshGuard (cell bank : Nat)
  /-- CELL_REMAP (R353). -/
  | cellRemap (die core cell : Nat)
  /-- D2D_FLIT_CRC_FAIL (R384). -/
  | d2dFlitCrcFail
  /-- D2D_RETRAIN_DONE (R384). -/
  | d2dRetrainDone (ok : Bool)
  /-- EXPANDER_POISON_RESPONSE (R390). -/
  | expanderPoisonResponse (n : Nat)
  /-- EXPANDER_TIMEOUT (R391). -/
  | expanderTimeout (n : Nat)
  /-- WRITE (R394). The operands of the six requests are their payload's bytes, cut into the fields of Table 22.5; a payload that is
  shorter than its fields leaves the last of them short (status 13). -/
  | write (h : Header) (va len data : List Byte)
  /-- READ (R394). -/
  | read (h : Header) (va len : List Byte)
  /-- LAUNCH (R395). -/
  | launch (h : Header) (va image : List Byte)
  /-- LOAD (R363). -/
  | load (h : Header) (va len : List Byte)
  /-- UNLOAD (R367). -/
  | unload (h : Header) (handle : List Byte)
  /-- TRANSPORT_SIGNAL (R394). -/
  | transportSignal (h : Header) (va : List Byte)
  /-- SEQUENCE_GAP_TIMEOUT (R396). -/
  | sequenceGapTimeout (session : Nat)
  /-- SESSION_OPEN (R397). -/
  | sessionOpen (session part : Nat) (chain : List Byte)
  /-- PARTITION_CONFIGURE (R398). -/
  | partitionConfigure (c : PartConfig)
  /-- PARTITION_RESET (R399). -/
  | partitionReset (part : Nat)
  /-- WARM_RESET (R400). -/
  | warmReset
  /-- COLD_RESET (R400). -/
  | coldReset (b : BootImage)
  /-- QUOTE (R403). -/
  | quote (nonce : List Byte)
  /-- GOVERNOR_STEP (R404). -/
  | governorStep (power : Nat) (tj : Nat)
  /-- THERMAL_TRIP (R405). -/
  | thermalTrip
  /-- REMOTE_REQUEST (R418). -/
  | remoteRequest (r : RemoteReq)
  /-- SCALEUP_LINK_CRC_FAIL (R420). -/
  | scaleupLinkCrcFail (link : Nat)
  /-- SCALEUP_RETRAIN_DONE (R420). -/
  | scaleupRetrainDone (link : Nat) (ok : Bool)
  /-- REACHABILITY_CHANGE (R419). -/
  | reachabilityChange (pkg : Nat) (up : Bool)
  /-- FABRIC_ARRIVAL_MSG (R428). -/
  | fabricArrivalMsg (dom : Nat) (pkg n : Nat)
  /-- FABRIC_RELEASE_MSG (R428). -/
  | fabricReleaseMsg (dom : Nat)
  /-- PTP_MESSAGE (R425). -/
  | ptpMessage (grand : Nat) (offset : Int)
  /-- HOLDOVER (R426). -/
  | holdover
  /-- LOAD_VALUE_RETURN (R87). -/
  | loadValueReturn (n : Nat)
  /-- POWER_FAILURE (R354). -/
  | powerFailure
  /-- SWITCH_FAILURE (R420). -/
  | switchFailure (sw : Nat)
  /-- PREEMPT_REQUEST (R331). -/
  | preemptRequest
  /-- MEASUREMENT_EXTEND (R402). -/
  | measurementExtend (reg : Nat) (digest : List Byte)
deriving DecidableEq, Repr

end Sys2Proof
end

