-- ==== Sys2Proof/WellFormed.lean ====
section
/-! DEFINITION. Which terms of `Instr` the encoding admits (R38-R51): the ranges of the fields that R34 checks at decode.
The reasons a word is rejected have names here. -/

namespace Sys2Proof

/-- Why a word is no instruction (R34). -/
inductive Reject where
  /-- a reserved value, or a rule of chapter 2 that names fault 0x01: the strand takes fault 0x01 -/
  | illegal
  /-- a non-zero bit in a field that must be zero: the strand takes fault 0x02 -/
  | reservedBits
  /-- fewer bytes than the instruction has: only `decodeBytes` says so, on a list that ends -/
  | truncated
deriving DecidableEq, Repr

/-- Format codes of a TOUT, TIN or out field: 0-8 and 10 (R47, Table 2.6). -/
def fmtOut (f : BitVec 4) : Bool := f < 9 || f == 10

/-- Format codes of an A or B field: 0-9 (R47, Table 2.6). -/
def fmtIn (f : BitVec 4) : Bool := f < 10

/-- R36: a carried word is a word of class D. -/
def carriedClass (f : Option W32) : Bool :=
  match f with
  | none => true
  | some w => w.extractLsb' 30 2 == 2

/-- The fields of the instruction lie in the ranges its encoding admits. A carried D word's own fields are checked where
it is decoded (`decodeCarried`). -/
def Instr.wf : Instr → Bool
  | .lui _ _ => true
  | .fli _ _ => true
  | .addpc _ _ => true
  | .j _ => true
  | .call _ => true
  | .rep _ _ _ _ => true
  | .loopb _ _ _ _ l => l != 0
  | .add d a b => !(d == 0 && a == 0 && b == 0)
  | .sub _ _ _ => true
  | .mul _ _ _ => true
  | .mulh _ _ _ => true
  | .mulhn _ _ _ => true
  | .div _ _ _ => true
  | .divn _ _ _ => true
  | .rem _ _ _ => true
  | .remn _ _ _ => true
  | .and _ _ _ => true
  | .or _ _ _ => true
  | .xor _ _ _ => true
  | .andn _ _ _ => true
  | .shl _ _ _ => true
  | .shr _ _ _ => true
  | .sra _ _ _ => true
  | .min _ _ _ => true
  | .minn _ _ _ => true
  | .max _ _ _ => true
  | .maxn _ _ _ => true
  | .seq _ _ _ => true
  | .slt _ _ _ => true
  | .sltn _ _ _ => true
  | .clz _ _ => true
  | .ctz _ _ => true
  | .popc _ _ => true
  | .addw _ _ _ => true
  | .subw _ _ _ => true
  | .mulw _ _ _ => true
  | .addi _ _ _ => true
  | .andi _ _ _ => true
  | .ori _ _ _ => true
  | .xori _ _ _ => true
  | .shli _ _ _ => true
  | .shri _ _ _ => true
  | .srai _ _ _ => true
  | .slti _ _ _ => true
  | .sltni _ _ _ => true
  | .ld _ _ z _ => z != 7
  | .st _ _ z _ => z < 4
  | .amoAdd _ _ _ c _ => c != 7
  | .amoAnd _ _ _ c _ => c != 7
  | .amoOr _ _ _ c _ => c != 7
  | .amoXor _ _ _ c _ => c != 7
  | .amoMin _ _ _ c _ => c != 7
  | .amoMax _ _ _ c _ => c != 7
  | .amoMinn _ _ _ c _ => c != 7
  | .amoMaxn _ _ _ c _ => c != 7
  | .amoSwap _ _ _ c _ => c != 7
  | .amoCas _ _ _ c _ => c != 7
  | .amoFadd32 _ _ _ c _ => c != 7
  | .amoAddw _ _ _ c _ => c != 7
  | .amoCasw _ _ _ c _ => c != 7
  | .amoSwapw _ _ _ c _ => c != 7
  | .beq _ _ _ => true
  | .bne _ _ _ => true
  | .blt _ _ _ => true
  | .bge _ _ _ => true
  | .bltn _ _ _ => true
  | .bgen _ _ _ => true
  | .jr _ => true
  | .callr _ => true
  | .ret => true
  | .lit _ _ => true
  | .litn _ _ => true
  | .lith _ _ => true
  | .gset s _ b c => s != 0 && c != 7 && (c != 6 || b == 0)
  | .gsetUnres s => s != 0
  | .tkp c n => c < 6 && n != 0 && n < 16
  | .tkw c n => c < 6 && n != 0 && n < 16
  | .trap _ => true
  | .eretResume => true
  | .eretDiscard => true
  | .eretEnd => true
  | .srd _ _ => true
  | .swr _ _ => true
  | .fence k c => k != 3 && c != 7
  | .nop => true
  | .refdDefer _ => true
  | .refdRelease _ => true
  | .refdRefreshNow _ => true
  | .inval _ => true
  | .wfe => true
  | .fork _ => true
  | .join => true
  | .syncs _ => true
  | .syncw _ => true
  | .syncc _ => true
  | .fid _ => true
  | .spawn _ _ => true
  | .signal _ => true
  | .tend => true
  | .bar => true
  | .barw _ _ => true
  | .bara => true
  | .yield => true
  | .wear _ => true
  | .enter v => v != 3
  | .cb _ _ => true
  | .loops _ l => l != 0
  | .vadd _ _ _ _ _ _ y => y != 3
  | .vaddBcast _ _ _ _ _ => true
  | .vsub _ _ _ _ _ _ y => y != 3
  | .vsubBcast _ _ _ _ _ => true
  | .vmul _ _ _ _ _ _ y => y != 3
  | .vmulBcast _ _ _ _ _ => true
  | .vmulh _ _ _ _ _ _ y => y != 3
  | .vmulhBcast _ _ _ _ _ => true
  | .vmulhn _ _ _ _ _ _ y => y != 3
  | .vmulhnBcast _ _ _ _ _ => true
  | .vmad _ _ _ _ _ _ y => y != 3
  | .vmadBcast _ _ _ _ _ => true
  | .vadds _ _ _ _ _ _ y => y != 3
  | .vaddsBcast _ _ _ _ _ => true
  | .vsubs _ _ _ _ _ _ y => y != 3
  | .vsubsBcast _ _ _ _ _ => true
  | .vaddsn _ _ _ _ _ _ y => y != 3
  | .vaddsnBcast _ _ _ _ _ => true
  | .vsubsn _ _ _ _ _ _ y => y != 3
  | .vsubsnBcast _ _ _ _ _ => true
  | .vmin _ _ _ _ _ _ y => y != 3
  | .vminBcast _ _ _ _ _ => true
  | .vmax _ _ _ _ _ _ y => y != 3
  | .vmaxBcast _ _ _ _ _ => true
  | .vminn _ _ _ _ _ _ y => y != 3
  | .vminnBcast _ _ _ _ _ => true
  | .vmaxn _ _ _ _ _ _ y => y != 3
  | .vmaxnBcast _ _ _ _ _ => true
  | .vabs _ _ _ _ _ y => y != 3
  | .vand _ _ _ _ _ _ y => y != 3
  | .vandBcast _ _ _ _ _ => true
  | .vor _ _ _ _ _ _ y => y != 3
  | .vorBcast _ _ _ _ _ => true
  | .vxor _ _ _ _ _ _ y => y != 3
  | .vxorBcast _ _ _ _ _ => true
  | .vandn _ _ _ _ _ _ y => y != 3
  | .vandnBcast _ _ _ _ _ => true
  | .vshl _ _ _ _ _ _ y => y != 3
  | .vshlBcast _ _ _ _ _ => true
  | .vshr _ _ _ _ _ _ y => y != 3
  | .vshrBcast _ _ _ _ _ => true
  | .vsra _ _ _ _ _ _ y => y != 3
  | .vsraBcast _ _ _ _ _ => true
  | .vclz _ _ _ _ _ y => y != 3
  | .vpopc _ _ _ _ _ y => y != 3
  | .vcmp _ _ d _ _ _ y => d < 12 && y != 3
  | .vcmpn _ _ d _ _ _ y => d < 12 && y != 3
  | .fadd _ _ _ _ _ _ y => y != 3
  | .faddBcast _ _ _ _ _ => true
  | .fsub _ _ _ _ _ _ y => y != 3
  | .fsubBcast _ _ _ _ _ => true
  | .fmul _ _ _ _ _ _ y => y != 3
  | .fmulBcast _ _ _ _ _ => true
  | .ffma _ _ _ _ _ _ y => y != 3
  | .ffmaBcast _ _ _ _ _ => true
  | .ffms _ _ _ _ _ _ y => y != 3
  | .ffmsBcast _ _ _ _ _ => true
  | .fmin _ _ _ _ _ _ y => y != 3
  | .fminBcast _ _ _ _ _ => true
  | .fmax _ _ _ _ _ _ y => y != 3
  | .fmaxBcast _ _ _ _ _ => true
  | .fabs _ _ _ _ _ y => y != 3
  | .fneg _ _ _ _ _ y => y != 3
  | .frcp _ _ _ _ _ y => y != 3
  | .frsq _ _ _ _ _ y => y != 3
  | .fexp2 _ _ _ _ _ y => y != 3
  | .flog2 _ _ _ _ _ y => y != 3
  | .fcmp _ _ d _ _ _ y => d < 12 && y != 3
  | .fclass _ _ _ _ _ y => y != 3
  | .vcvt _ _ _ _ b _ => b < 13
  | .vscale _ _ _ _ _ _ y => y != 3
  | .vqpack _ _ _ _ b _ => b < 3
  | .vqunpk _ _ _ _ b _ => b < 3
  | .vsel _ _ _ _ b _ => b < 12
  | .vperm _ _ _ _ _ _ y => y != 3
  | .vbcasts _ _ _ _ _ _ => true
  | .vredadd _ _ _ _ b _ y => b < 2 && y < 2
  | .vredmax _ _ _ _ b _ y => b < 2 && y < 2
  | .vshf _ _ _ _ _ _ => true
  | .vxtr _ _ _ _ _ => true
  | .plog _ _ d a b _ => d < 12 && a < 12 && b < 12
  | .pset _ _ d a b _ => d < 12 && a < 4 && (a > 1 || b == 0)
  | .ptst _ _ a => a < 12
  | .tld _ _ _ _ _ _ => true
  | .tst _ _ _ _ _ _ => true
  | .tldx _ _ _ _ _ _ y => y != 3
  | .tstx _ _ _ _ _ _ y => y != 3
  | .gld _ _ _ _ _ y => y != 3
  | .gst _ _ _ _ _ y => y != 3
  | .gldp _ _ _ _ _ y => y != 3
  | .gamoAdd _ _ _ _ _ y => y < 2
  | .gamoMin _ _ _ _ _ => true
  | .gamoMax _ _ _ _ _ => true
  | .gamoSwap _ _ _ _ _ => true
  | .vnop _ _ => true
  | .vfence _ _ => true
  | .tcfg _ _ _ h _ => h < 4
  | .tzero _ _ _ _ => true
  | .dot _ _ _ _ _ _ _ => true
  | .dotc _ _ _ _ _ _ _ _ => true
  | .sbppt _ _ _ _ _ _ => true
  | .sbpsc _ _ _ _ _ _ => true
  | .sbpma _ _ _ _ _ _ => true
  | .sbpd _ _ _ _ _ _ _ => true
  | .tout _ _ _ _ _ f e => fmtOut f && e < 4
  | .tin _ _ _ _ _ f => fmtOut f
  | .fmtw _ _ _ _ a b o _ => fmtIn a && fmtIn b && fmtOut o
  | .tdef _ _ _ _ => true
  | .cpy _ f _ _ _ _ _ p => p != 3 && carriedClass f
  | .cpyb _ f _ _ _ _ p => p != 3 && carriedClass f
  | .cpyx _ f _ _ _ _ => carriedClass f
  | .cpyr _ f _ _ _ _ _ p => p != 3 && carriedClass f
  | .cpye _ f _ _ _ _ _ p _ => p != 3 && carriedClass f
  | .trel _ _ _ => true
  | .qbind _ _ _ _ _ _ => true
  | .qunb _ _ _ => true
  | .qfence _ _ m s => m != 0 && s != 7
  | .vlogClaim _ => true
  | .mbRead _ => true
  | .engineStateWrite _ _ => true
  | .cbaseWrite _ => true
  | .fqheadClaim _ => true
  | .fqCompleteResume _ => true
  | .fqCompleteFault _ => true
  | .fqCompleteKill _ => true
  | .fqstatWrite _ => true
  | .registerWrite _ _ => true
  | .creqAck _ _ => true
  | .uniso _ => true
  | .controlBlockWrite _ _ => true
  | .spillTransfer => true
  | .vIssue _ => true
  | .vPerformed => true
  | .dPerformed => true
  | .copyBegin => true
  | .copyPerformed => true
  | .copyDataFault _ _ => true
  | .commandDiscard _ => true
  | .guardResolutionVisible => true
  | .loopbIteration _ => true
  | .streamGroupDecode _ => true
  | .gather => true
  | .gatherPartnerTimeout => true
  | .tokenWatchdog _ => true
  | .tkwWatchdog => true
  | .tileWaitWatchdog => true
  | .wfeTimeout => true
  | .trapEntry => true
  | .checkerMismatch => true
  | .checkerTimeout => true
  | .dPoisonConsumed => true
  | .windowRollback => true
  | .tileRefetch => true
  | .pageWalk _ _ _ => true
  | .heldFaultPost _ => true
  | .handlerSignal _ => true
  | .outboundDrain _ _ _ => true
  | .homeWriteMerge _ => true
  | .homeAtomic _ => true
  | .routerMerge _ _ => true
  | .mergedReplySplit => true
  | .barrierArrival => true
  | .barwLimitExpiry => true
  | .invalMarker => true
  | .schedulerDecision _ _ => true
  | .dispatchComplete => true
  | .startReached _ => true
  | .deadlineMiss _ => true
  | .pressSave => true
  | .pressSaveDone => true
  | .stressUpdate _ _ _ _ => true
  | .lifetimeRecordWrite => true
  | .calendarSlot _ _ => true
  | .burstLand _ _ => true
  | .hbmLinkCrcFail _ => true
  | .channelRetrainDone _ _ => true
  | .refreshDue _ _ => true
  | .refreshBurst _ _ _ _ => true
  | .refreshGuard _ _ => true
  | .cellRemap _ _ _ => true
  | .d2dFlitCrcFail => true
  | .d2dRetrainDone _ => true
  | .expanderPoisonResponse _ => true
  | .expanderTimeout _ => true
  | .write _ _ _ _ => true
  | .read _ _ _ => true
  | .launch _ _ _ => true
  | .load _ _ _ => true
  | .unload _ _ => true
  | .transportSignal _ _ => true
  | .sequenceGapTimeout _ => true
  | .sessionOpen _ _ _ => true
  | .partitionConfigure _ => true
  | .partitionReset _ => true
  | .warmReset => true
  | .coldReset _ => true
  | .quote _ => true
  | .governorStep _ _ => true
  | .thermalTrip => true
  | .remoteRequest _ => true
  | .scaleupLinkCrcFail _ => true
  | .scaleupRetrainDone _ _ => true
  | .reachabilityChange _ _ => true
  | .fabricArrivalMsg _ _ _ => true
  | .fabricReleaseMsg _ => true
  | .ptpMessage _ _ => true
  | .holdover => true
  | .loadValueReturn _ => true
  | .powerFailure => true
  | .switchFailure _ => true
  | .preemptRequest => true
  | .measurementExtend _ _ => true

end Sys2Proof
end

