-- ==== Sys2Proof/Decode.lean ====
section
/-! DEFINITION. Decoding (R33-R51): total on any two words, and on any bytes; a word that is no instruction is rejected
by the name of the rule it breaks, in the order of R34 (a reserved value before a non-zero zero field). The third check
of R34, the privilege of the form, and fault 0x13 depend on the strand and are made where the word is executed. After
the decoder, an encoder from the same tables. -/

namespace Sys2Proof

/-- The field of n bits at bit lo of a word, or of a field of one. -/
def fld {m : Nat} (w : BitVec m) (lo n : Nat) : BitVec n := w.extractLsb' lo n

/-- R34: a reserved value raises 0x01 before a non-zero zero field raises 0x02. -/
def accept (bad01 bad02 : Bool) (i : Instr) : Except Reject Instr :=
  if bad01 then .error .illegal else if bad02 then .error .reservedBits else .ok i

/-- The functions of sop 0 (Table 2.4); the word of zeros is no instruction (R41). -/
def decodeAlu (fn : BitVec 9) (d a b : BitVec 5) : Except Reject Instr :=
  match fn.toNat with
  | 0 => accept (d == 0 && a == 0 && b == 0) false (.add d a b)
  | 1 => .ok (.sub d a b)
  | 2 => .ok (.mul d a b)
  | 3 => .ok (.mulh d a b)
  | 4 => .ok (.mulhn d a b)
  | 5 => .ok (.div d a b)
  | 6 => .ok (.divn d a b)
  | 7 => .ok (.rem d a b)
  | 8 => .ok (.remn d a b)
  | 9 => .ok (.and d a b)
  | 10 => .ok (.or d a b)
  | 11 => .ok (.xor d a b)
  | 12 => .ok (.andn d a b)
  | 13 => .ok (.shl d a b)
  | 14 => .ok (.shr d a b)
  | 15 => .ok (.sra d a b)
  | 16 => .ok (.min d a b)
  | 17 => .ok (.minn d a b)
  | 18 => .ok (.max d a b)
  | 19 => .ok (.maxn d a b)
  | 20 => .ok (.seq d a b)
  | 21 => .ok (.slt d a b)
  | 22 => .ok (.sltn d a b)
  | 23 => accept false (b != 0) (.clz d a)
  | 24 => accept false (b != 0) (.ctz d a)
  | 25 => accept false (b != 0) (.popc d a)
  | 26 => .ok (.addw d a b)
  | 27 => .ok (.subw d a b)
  | 28 => .ok (.mulw d a b)
  | _ => .error .illegal

/-- The system words, sop 21 (Table 2.4). -/
def decodeSys (fn : BitVec 4) (ra rb : BitVec 5) (op : BitVec 10) : Except Reject Instr :=
  match fn.toNat with
  | 0 => accept false (ra != 0 || rb != 0) (.trap op)
  | 1 => accept false (ra != 0 || rb != 0 || op != 0) .eretResume
  | 2 => accept false (rb != 0) (.srd ra op)
  | 3 => accept false (ra != 0) (.swr rb op)
  | 4 => accept (fld op 3 2 == 3 || fld op 0 3 == 7) (ra != 0 || rb != 0 || fld op 5 5 != 0) (.fence (fld op 3 2) (fld op 0 3))
  | 5 => accept false (ra != 0 || rb != 0 || op != 0) .nop
  | 6 => accept false (ra != 0 || op != 0) (.refdDefer rb)
  | 7 => accept false (ra != 0 || op != 0) (.inval rb)
  | 8 => accept false (ra != 0 || rb != 0 || op != 0) .wfe
  | _ => .error .illegal

/-- The field-control words, sop 22 (Table 2.4, Table 9.2). -/
def decodeField (fn : BitVec 4) (ra rb : BitVec 5) (op : BitVec 10) : Except Reject Instr :=
  let hi := fld op 3 7
  let n := fld op 0 3
  match fn.toNat with
  | 0 => accept false (ra != 0 || hi != 0 || n != 0) (.fork rb)
  | 1 => accept false (ra != 0 || rb != 0 || hi != 0 || n != 0) .join
  | 2 => accept false (ra != 0 || rb != 0 || hi != 0) (.syncs n)
  | 3 => accept false (ra != 0 || rb != 0 || hi != 0) (.syncw n)
  | 4 => accept false (ra != 0 || rb != 0 || hi != 0) (.syncc n)
  | 5 => accept false (rb != 0 || hi != 0 || n != 0) (.fid ra)
  | _ => .error .illegal

/-- The task words, sop 23 (Table 2.4, Table 18.4). -/
def decodeTask (fn : BitVec 4) (ra rb : BitVec 5) (op : BitVec 10) : Except Reject Instr :=
  let low := op != 0
  match fn.toNat with
  | 0 => accept false low (.spawn ra rb)
  | 1 => accept false (ra != 0 || low) (.signal rb)
  | 2 => accept false (ra != 0 || rb != 0 || low) .tend
  | 3 => accept false (ra != 0 || rb != 0 || low) .bar
  | 4 => accept false low (.barw ra rb)
  | 5 => accept false (ra != 0 || rb != 0 || low) .bara
  | 6 => accept false (ra != 0 || rb != 0 || low) .yield
  | 7 => accept false (rb != 0 || low) (.wear ra)
  | _ => .error .illegal

/-- AMO, sop 10 (Table 2.3, R265). -/
def decodeAmo (op : BitVec 4) (d a b : BitVec 5) (c : BitVec 3) (r : BitVec 2) : Except Reject Instr :=
  match op.toNat with
  | 0 => accept (c == 7) false (.amoAdd d a b c r)
  | 1 => accept (c == 7) false (.amoAnd d a b c r)
  | 2 => accept (c == 7) false (.amoOr d a b c r)
  | 3 => accept (c == 7) false (.amoXor d a b c r)
  | 4 => accept (c == 7) false (.amoMin d a b c r)
  | 5 => accept (c == 7) false (.amoMax d a b c r)
  | 6 => accept (c == 7) false (.amoMinn d a b c r)
  | 7 => accept (c == 7) false (.amoMaxn d a b c r)
  | 8 => accept (c == 7) false (.amoSwap d a b c r)
  | 9 => accept (c == 7) false (.amoCas d a b c r)
  | 10 => accept (c == 7) false (.amoFadd32 d a b c r)
  | 11 => accept (c == 7) false (.amoAddw d a b c r)
  | 12 => accept (c == 7) false (.amoCasw d a b c r)
  | 13 => accept (c == 7) false (.amoSwapw d a b c r)
  | _ => .error .illegal

/-- The short scalar forms (R39); l is the word that follows (R36). -/
def decodeShort (sop ra rb : BitVec 5) (i : BitVec 14) (l : W32) : Except Reject Instr :=
  match sop.toNat with
  | 0 => decodeAlu (fld i 0 9) ra rb (fld i 9 5)
  | 1 => .ok (.addi ra rb i)
  | 2 => .ok (.andi ra rb i)
  | 3 => .ok (.ori ra rb i)
  | 4 => .ok (.xori ra rb i)
  | 5 =>
    match (fld i 12 2).toNat with
    | 0 => accept false (fld i 6 6 != 0) (.shli ra rb (fld i 0 6))
    | 1 => accept false (fld i 6 6 != 0) (.shri ra rb (fld i 0 6))
    | 2 => accept false (fld i 6 6 != 0) (.srai ra rb (fld i 0 6))
    | _ => .error .illegal
  | 6 => .ok (.slti ra rb i)
  | 7 => .ok (.sltni ra rb i)
  | 8 => accept (fld i 11 3 == 7) false (.ld ra rb (fld i 11 3) (fld i 0 11))
  | 9 => accept (fld i 11 3 >= 4) false (.st ra rb (fld i 11 3) (fld i 0 11))
  | 10 => decodeAmo (fld i 5 4) ra rb (fld i 9 5) (fld i 2 3) (fld i 0 2)
  | 11 => .ok (.beq ra rb i)
  | 12 => .ok (.bne ra rb i)
  | 13 => .ok (.blt ra rb i)
  | 14 => .ok (.bge ra rb i)
  | 15 => .ok (.bltn ra rb i)
  | 16 => .ok (.bgen ra rb i)
  | 17 =>
    match i.toNat with
    | 0 => accept false (ra != 0) (.jr rb)
    | 1 => accept false (ra != 0) (.callr rb)
    | 2 => accept false (ra != 0 || rb != 0) .ret
    | _ => .error .illegal
  | 18 =>
    match i.toNat with
    | 0 => accept false (rb != 0) (.lit ra l)
    | 1 => accept false (rb != 0) (.litn ra l)
    | 2 => accept false (rb != 0) (.lith ra l)
    | _ => .error .illegal
  | 19 =>
    let s := fld ra 2 3
    let b := fld i 9 5
    let c := fld i 6 3
    let z := fld ra 0 2 != 0 || fld i 0 6 != 0
    if c == 7 then accept (s == 0) (z || rb != 0 || b != 0) (.gsetUnres s)
    else accept (s == 0) (z || (c == 6 && b != 0)) (.gset s rb b c)
  | 20 =>
    let bad := fld ra 2 3 >= 6 || rb == 0 || rb >= 16
    match i.toNat with
    | 0 => accept bad (fld ra 0 2 != 0) (.tkp (fld ra 2 3) rb)
    | 1 => accept bad (fld ra 0 2 != 0) (.tkw (fld ra 2 3) rb)
    | _ => .error .illegal
  | 21 => decodeSys (fld i 10 4) ra rb (fld i 0 10)
  | 22 => decodeField (fld i 10 4) ra rb (fld i 0 10)
  | 23 => decodeTask (fld i 10 4) ra rb (fld i 0 10)
  | 24 => accept (fld i 0 2 == 3) (ra != 0 || rb != 0 || fld i 2 12 != 0) (.enter (fld i 0 2))
  | 25 => accept false (rb != 0 || fld i 8 6 != 0) (.cb ra (fld i 0 8))
  | 26 => accept (i == 0) (rb != 0) (.loops ra i)
  | _ => .error .illegal

/-- The long scalar forms (R38). -/
def decodeLong (lop : BitVec 4) (d : BitVec 5) (i : BitVec 20) : Except Reject Instr :=
  match lop.toNat with
  | 0 => .ok (.lui d i)
  | 1 => .ok (.fli d i)
  | 2 => .ok (.addpc d i)
  | 3 => accept false (d != 0) (.j i)
  | 4 => accept false (d != 0) (.call i)
  | 5 => accept false (d != 0 || fld i 12 8 != 0) (.rep (fld i 10 2) (fld i 8 2) (fld i 6 2) (fld i 0 6))
  | 6 => accept (fld i 0 8 == 0) (fld i 17 3 != 0) (.loopb d (fld i 14 3) (fld i 11 3) (fld i 8 3) (fld i 0 8))
  | _ => .error .illegal

/-- The source S of a broadcast word with its literal l (R45); 49-63 are reserved. -/
def decodeSource (s : BitVec 6) (l : W32) : Option BSrc :=
  if s < 32 then some (.const (s.extractLsb' 0 5))
  else if s < 48 then some (.scalar (s.extractLsb' 0 4))
  else if s == 48 then some (.literal l)
  else none

/-- The vector forms other than broadcast: TY is 0-2 (R46, Table 2.5). -/
def decodeVector (op : BitVec 6) (t c d a b : BitVec 4) (l y : BitVec 2) : Except Reject Instr :=
  match op.toNat with
  | 0 => .ok (.vadd t c d a b l y)
  | 1 => .ok (.vsub t c d a b l y)
  | 2 => .ok (.vmul t c d a b l y)
  | 3 => .ok (.vmulh t c d a b l y)
  | 4 => .ok (.vmulhn t c d a b l y)
  | 5 => .ok (.vmad t c d a b l y)
  | 6 => .ok (.vadds t c d a b l y)
  | 7 => .ok (.vsubs t c d a b l y)
  | 8 => .ok (.vaddsn t c d a b l y)
  | 9 => .ok (.vsubsn t c d a b l y)
  | 10 => .ok (.vmin t c d a b l y)
  | 11 => .ok (.vmax t c d a b l y)
  | 12 => .ok (.vminn t c d a b l y)
  | 13 => .ok (.vmaxn t c d a b l y)
  | 14 => accept false (b != 0) (.vabs t c d a l y)
  | 15 => .ok (.vand t c d a b l y)
  | 16 => .ok (.vor t c d a b l y)
  | 17 => .ok (.vxor t c d a b l y)
  | 18 => .ok (.vandn t c d a b l y)
  | 19 => .ok (.vshl t c d a b l y)
  | 20 => .ok (.vshr t c d a b l y)
  | 21 => .ok (.vsra t c d a b l y)
  | 22 => accept false (b != 0) (.vclz t c d a l y)
  | 23 => accept false (b != 0) (.vpopc t c d a l y)
  | 24 => accept (d > 11) false (.vcmp t c d a b l y)
  | 25 => accept (d > 11) false (.vcmpn t c d a b l y)
  | 26 => .ok (.fadd t c d a b l y)
  | 27 => .ok (.fsub t c d a b l y)
  | 28 => .ok (.fmul t c d a b l y)
  | 29 => .ok (.ffma t c d a b l y)
  | 30 => .ok (.ffms t c d a b l y)
  | 31 => .ok (.fmin t c d a b l y)
  | 32 => .ok (.fmax t c d a b l y)
  | 33 => accept false (b != 0) (.fabs t c d a l y)
  | 34 => accept false (b != 0) (.fneg t c d a l y)
  | 35 => accept false (b != 0) (.frcp t c d a l y)
  | 36 => accept false (b != 0) (.frsq t c d a l y)
  | 37 => accept false (b != 0) (.fexp2 t c d a l y)
  | 38 => accept false (b != 0) (.flog2 t c d a l y)
  | 39 => accept (d > 11) false (.fcmp t c d a b l y)
  | 40 => accept false (b != 0) (.fclass t c d a l y)
  | 41 => accept (b > 12) (y != 0) (.vcvt t c d a b l)
  | 42 => .ok (.vscale t c d a b l y)
  | 43 => accept (b > 2) (y != 0) (.vqpack t c d a b l)
  | 44 => accept (b > 2) (y != 0) (.vqunpk t c d a b l)
  | 45 => accept (b > 11) (y != 0) (.vsel t c d a b l)
  | 46 => .ok (.vperm t c d a b l y)
  | 47 => accept false (y != 0) (.vbcasts t c d a b l)
  | 48 => accept (b > 1 || y == 2) false (.vredadd t c d a b l y)
  | 49 => accept (b > 1 || y == 2) false (.vredmax t c d a b l y)
  | 50 => accept false (y != 0 || fld b 2 2 != 0) (.vshf t c d a (fld b 0 2) l)
  | 51 => accept false (y != 0 || d != 0) (.vxtr t c a b l)
  | 52 => accept (d > 11 || a > 11 || b > 11) (y != 0) (.plog t c d a b l)
  | 53 => accept (d > 11 || a > 3) (y != 0 || (a < 2 && b != 0)) (.pset t c d a b l)
  | 54 => accept (a > 11) (y != 0 || d != 0 || b != 0 || l != 0) (.ptst t c a)
  | 55 => accept false (y != 0) (.tld t c d a b l)
  | 56 => accept false (y != 0) (.tst t c d a b l)
  | 57 => .ok (.tldx t c d a b l y)
  | 58 => .ok (.tstx t c d a b l y)
  | 59 => accept (l != 3) false (.gld t c d a b y)
  | 60 => accept (l != 3) false (.gst t c d a b y)
  | 61 => accept (l != 3) false (.gldp t c d a b y)
  | 62 =>
    match l.toNat with
    | 0 => accept (y == 2) false (.gamoAdd t c d a b y)
    | 1 => accept (y != 0) false (.gamoMin t c d a b)
    | 2 => accept (y != 0) false (.gamoMax t c d a b)
    | _ => accept (y != 0) false (.gamoSwap t c d a b)
  | _ =>
    match a.toNat with
    | 0 => accept false (d != 0 || b != 0 || l != 0 || y != 0) (.vnop t c)
    | 1 => accept false (d != 0 || b != 0 || l != 0 || y != 0) (.vfence t c)
    | _ => .error .illegal

/-- The broadcast forms, TY = 3 (R45): any op that cannot broadcast, and a reserved source, is no instruction. -/
def decodeBroadcast (op : BitVec 6) (t c d a : BitVec 4) (src : Option BSrc) : Except Reject Instr :=
  match src with
  | none => .error .illegal
  | some s =>
    match op.toNat with
    | 0 => .ok (.vaddBcast t c d a s)
    | 1 => .ok (.vsubBcast t c d a s)
    | 2 => .ok (.vmulBcast t c d a s)
    | 3 => .ok (.vmulhBcast t c d a s)
    | 4 => .ok (.vmulhnBcast t c d a s)
    | 5 => .ok (.vmadBcast t c d a s)
    | 6 => .ok (.vaddsBcast t c d a s)
    | 7 => .ok (.vsubsBcast t c d a s)
    | 8 => .ok (.vaddsnBcast t c d a s)
    | 9 => .ok (.vsubsnBcast t c d a s)
    | 10 => .ok (.vminBcast t c d a s)
    | 11 => .ok (.vmaxBcast t c d a s)
    | 12 => .ok (.vminnBcast t c d a s)
    | 13 => .ok (.vmaxnBcast t c d a s)
    | 15 => .ok (.vandBcast t c d a s)
    | 16 => .ok (.vorBcast t c d a s)
    | 17 => .ok (.vxorBcast t c d a s)
    | 18 => .ok (.vandnBcast t c d a s)
    | 19 => .ok (.vshlBcast t c d a s)
    | 20 => .ok (.vshrBcast t c d a s)
    | 21 => .ok (.vsraBcast t c d a s)
    | 26 => .ok (.faddBcast t c d a s)
    | 27 => .ok (.fsubBcast t c d a s)
    | 28 => .ok (.fmulBcast t c d a s)
    | 29 => .ok (.ffmaBcast t c d a s)
    | 30 => .ok (.ffmsBcast t c d a s)
    | 31 => .ok (.fminBcast t c d a s)
    | 32 => .ok (.fmaxBcast t c d a s)
    | _ => .error .illegal

/-- The dot words (R47, Table 2.6). -/
def decodeDot (op : BitVec 5) (t : BitVec 4) (x : BitVec 1) (g : BitVec 3) (r : BitVec 17) : Except Reject Instr :=
  match op.toNat with
  | 0 => accept (fld r 13 4 > 3) (fld r 0 11 != 0) (.tcfg t x g (fld r 13 4) (fld r 11 2))
  | 1 => accept false (fld r 0 13 != 0) (.tzero t x g (fld r 13 4))
  | 2 => .ok (.dot t x g (fld r 13 4) (fld r 7 6) (fld r 1 6) (fld r 0 1))
  | 3 => .ok (.dotc t x g (fld r 13 4) (fld r 9 4) (fld r 7 2) (fld r 1 6) (fld r 0 1))
  | 4 => accept false (fld r 13 2 != 0 || fld r 0 3 != 0) (.sbppt t x g (fld r 15 2) (fld r 7 6) (fld r 3 4))
  | 5 => accept false (fld r 13 2 != 0 || fld r 1 6 != 0) (.sbpsc t x g (fld r 15 2) (fld r 7 6) (fld r 0 1))
  | 6 => accept false (fld r 0 7 != 0) (.sbpma t x g (fld r 13 4) (fld r 11 2) (fld r 7 4))
  | 7 => .ok (.sbpd t x g (fld r 13 4) (fld r 7 6) (fld r 1 6) (fld r 0 1))
  | 8 => accept (!fmtOut (fld r 3 4) || fld r 0 3 > 3) false (.tout t x g (fld r 13 4) (fld r 7 6) (fld r 3 4) (fld r 0 3))
  | 9 => accept (!fmtOut (fld r 3 4)) (fld r 0 3 != 0) (.tin t x g (fld r 13 4) (fld r 7 6) (fld r 3 4))
  | 10 => accept (!fmtIn (fld r 9 4) || !fmtIn (fld r 5 4) || !fmtOut (fld r 1 4)) false
      (.fmtw t x g (fld r 13 4) (fld r 9 4) (fld r 5 4) (fld r 1 4) (fld r 0 1))
  | _ => .error .illegal

/-- A word of class D (Table 2.1). -/
def decodeDotWord (w : W32) : Except Reject Instr := decodeDot (fld w 17 5) (fld w 26 4) (fld w 25 1) (fld w 22 3) (fld w 0 17)

/-- R36, R34: the word carried by a C word with FO = 1. It must be a D word, and its own decode faults are ranked
together with its owner's. -/
def decodeCarried (fo : Bool) (l : W32) : Except Reject (Option W32) :=
  if !fo then .ok none
  else if fld l 30 2 != 2 then .error .illegal
  else match decodeDotWord l with
    | .ok _ => .ok (some l)
    | .error r => .error r

/-- A copy word and the word it carries where FO = 1, on an op that takes none too: reserved values of owner and carried word
first, then their zero fields. -/
def acceptCarry (bad01 bad02 : Bool) (fo : Bool) (l : W32) (k : Option W32 → Instr) : Except Reject Instr :=
  match decodeCarried fo l with
  | .error .illegal => .error .illegal
  | .error r => if bad01 then .error .illegal else .error r
  | .ok f => accept bad01 bad02 (k f)

/-- The copy words (R49, Table 2.7); l is the word that follows. -/
def decodeCopy (op : BitVec 5) (t : BitVec 4) (fo : Bool) (g : BitVec 3) (r : BitVec 17) (l : W32) : Except Reject Instr :=
  let e := fld r 11 6
  let a := fld r 7 4
  let b := fld r 3 4
  let p := fld r 0 2
  match op.toNat with
  | 0 => acceptCarry false (fo || fld r 0 7 != 0) fo l (fun _ => .tdef t g e a)
  | 1 => acceptCarry (p == 3) false fo l (fun f => .cpy t f g e a b (fld r 2 1) p)
  | 2 => acceptCarry (p == 3) (fld r 2 1 != 0) fo l (fun f => .cpyb t f g e a b p)
  | 3 => acceptCarry false (fld r 0 3 != 0) fo l (fun f => .cpyx t f g e a b)
  | 4 => acceptCarry (p == 3) false fo l (fun f => .cpyr t f g e a b (fld r 2 1) p)
  | 5 => acceptCarry (fld r 1 2 == 3) false fo l
      (fun f => .cpye t f g (fld r 13 4) (fld r 9 4) (fld r 5 4) (fld r 3 2) (fld r 1 2) (fld r 0 1))
  | 6 => acceptCarry false (fo || fld r 0 11 != 0) fo l (fun _ => .trel t g e)
  | 7 => acceptCarry false (fo || fld r 0 3 != 0) fo l (fun _ => .qbind t g (fld r 15 2) (fld r 11 4) (fld r 7 4) (fld r 3 4))
  | 8 => acceptCarry false (fo || fld r 0 15 != 0) fo l (fun _ => .qunb t g (fld r 15 2))
  | 9 => acceptCarry (fld r 13 4 == 0 || fld r 10 3 == 7) (fo || fld r 0 10 != 0) fo l (fun _ => .qfence t g (fld r 13 4) (fld r 10 3))
  | _ => .error .illegal

/-- R33, R34: the instruction of a word w, with l the word that stands after it (Table 2.1). -/
def decode (w l : W32) : Except Reject Instr :=
  match (fld w 30 2).toNat with
  | 0 =>
    if fld w 29 1 == 1 then decodeLong (fld w 25 4) (fld w 20 5) (fld w 0 20)
    else decodeShort (fld w 24 5) (fld w 19 5) (fld w 14 5) (fld w 0 14) l
  | 1 =>
    if fld w 0 2 == 3 then
      decodeBroadcast (fld w 16 6) (fld w 26 4) (fld w 22 4) (fld w 12 4) (fld w 8 4) (decodeSource (fld w 2 6) l)
    else decodeVector (fld w 16 6) (fld w 26 4) (fld w 22 4) (fld w 12 4) (fld w 8 4) (fld w 4 4) (fld w 2 2) (fld w 0 2)
  | 2 => decodeDotWord w
  | _ => decodeCopy (fld w 17 5) (fld w 26 4) (fld w 25 1 == 1) (fld w 22 3) (fld w 0 17) l

/-- R365: the owner test of the literal-map pass: the word is followed by a dependent word (R36). -/
def isOwner (w : W32) : Bool :=
  (fld w 29 3 == 0 && fld w 24 5 == 18)
    || (fld w 30 2 == 1 && fld w 0 2 == 3 && fld w 2 6 == 48)
    || (fld w 30 2 == 3 && fld w 25 1 == 1)

/-- Four bytes, lowest address first, as one little-endian word (R33). -/
def wordOfBytes (b0 b1 b2 b3 : Byte) : W32 := b3 ++ b2 ++ b1 ++ b0

/-- Decoding bytes: the instruction, with its dependent word when it has one (R36), and the bytes after it. -/
def decodeBytes (bs : List Byte) : Except Reject (Instr × List Byte) :=
  match bs with
  | b0 :: b1 :: b2 :: b3 :: rest =>
    let w := wordOfBytes b0 b1 b2 b3
    if isOwner w then
      match rest with
      | c0 :: c1 :: c2 :: c3 :: rest' =>
        match decode w (wordOfBytes c0 c1 c2 c3) with
        | .ok i => .ok (i, rest')
        | .error r => .error r
      | _ => .error .truncated
    else
      match decode w 0 with
      | .ok i => .ok (i, rest)
      | .error r => .error r
  | _ => .error .truncated

/-- A 32-bit word as its four little-endian bytes. -/
def bytesOfWord (w : W32) : List Byte := [fld w 0 8, fld w 8 8, fld w 16 8, fld w 24 8]

/-- What the decoder reads from an instruction whose bits are w, bit 0 the least significant bit of its first word; the
dependent word, if the first word owns one, is bits 63..32. -/
def decodeTableWord (_nbits w : Nat) : Option Instr :=
  match decodeBytes (bytesOfWord (BitVec.ofNat 32 w) ++ bytesOfWord (BitVec.ofNat 32 (w >>> 32))) with
  | .ok (i, _) => some i
  | .error _ => none

/-! ### The encoder (Tables 2.1-2.7) -/

/-- Table 2.1, S long. -/
def wLong (lop : BitVec 4) (d : BitVec 5) (i : BitVec 20) : W32 := 0#2 ++ 1#1 ++ lop ++ d ++ i

/-- Table 2.1, S short. -/
def wShort (sop a b : BitVec 5) (c : BitVec 14) : W32 := 0#2 ++ 0#1 ++ sop ++ a ++ b ++ c

/-- S short with rb above a 9-bit function (sop 0). -/
def wAlu (fn : BitVec 9) (d a b : BitVec 5) : W32 := wShort 0 d a (b ++ fn)

/-- AMO (Table 2.3). -/
def wAmo (op : BitVec 4) (d a b : BitVec 5) (c : BitVec 3) (r : BitVec 2) : W32 := wShort 10 d a (b ++ op ++ c ++ r)

/-- sop 21-23: a 4-bit function above a 10-bit operand. -/
def wSub (sop : BitVec 5) (fn : BitVec 4) (a b : BitVec 5) (op : BitVec 10) : W32 := wShort sop a b (fn ++ op)

/-- Table 2.1, V. -/
def wVec (op : BitVec 6) (t c d a b : BitVec 4) (l y : BitVec 2) : W32 := 1#2 ++ t ++ c ++ op ++ d ++ a ++ b ++ l ++ y

/-- The code S of a broadcast source (R45). -/
def BSrc.code : BSrc → BitVec 6
  | .const n => 0#1 ++ n
  | .scalar n => 2#2 ++ n
  | .literal _ => 48

/-- The literal word of a broadcast source. -/
def BSrc.lits : BSrc → List W32
  | .literal w => [w]
  | _ => []

/-- Table 2.1, V broadcast, with its literal word. -/
def wBcast (op : BitVec 6) (t c d a : BitVec 4) (s : BSrc) : List W32 :=
  (1#2 ++ t ++ c ++ op ++ d ++ a ++ s.code ++ 3#2 : W32) :: s.lits

/-- Table 2.1, D. -/
def wDot (op : BitVec 5) (t : BitVec 4) (x : BitVec 1) (g : BitVec 3) (r : BitVec 17) : W32 := 2#2 ++ t ++ x ++ g ++ op ++ r

/-- Table 2.1, C, with its carried word. -/
def wCopy (op : BitVec 5) (t : BitVec 4) (f : Option W32) (g : BitVec 3) (r : BitVec 17) : List W32 :=
  match f with
  | none => [(3#2 ++ t ++ 0#1 ++ g ++ op ++ r : W32)]
  | some d => [(3#2 ++ t ++ 1#1 ++ g ++ op ++ r : W32), d]

/-- The words of an instruction; an event has none. -/
def encode : Instr → List W32
  | .lui d i => [wLong 0 d i]
  | .fli d i => [wLong 1 d i]
  | .addpc d i => [wLong 2 d i]
  | .j i => [wLong 3 0 i]
  | .call i => [wLong 4 0 i]
  | .rep c b a n => [wLong 5 0 (0#8 ++ c ++ b ++ a ++ n)]
  | .loopb r v d c l => [wLong 6 r (0#3 ++ v ++ d ++ c ++ l)]
  | .add d a b => [wAlu 0 d a b]
  | .sub d a b => [wAlu 1 d a b]
  | .mul d a b => [wAlu 2 d a b]
  | .mulh d a b => [wAlu 3 d a b]
  | .mulhn d a b => [wAlu 4 d a b]
  | .div d a b => [wAlu 5 d a b]
  | .divn d a b => [wAlu 6 d a b]
  | .rem d a b => [wAlu 7 d a b]
  | .remn d a b => [wAlu 8 d a b]
  | .and d a b => [wAlu 9 d a b]
  | .or d a b => [wAlu 10 d a b]
  | .xor d a b => [wAlu 11 d a b]
  | .andn d a b => [wAlu 12 d a b]
  | .shl d a b => [wAlu 13 d a b]
  | .shr d a b => [wAlu 14 d a b]
  | .sra d a b => [wAlu 15 d a b]
  | .min d a b => [wAlu 16 d a b]
  | .minn d a b => [wAlu 17 d a b]
  | .max d a b => [wAlu 18 d a b]
  | .maxn d a b => [wAlu 19 d a b]
  | .seq d a b => [wAlu 20 d a b]
  | .slt d a b => [wAlu 21 d a b]
  | .sltn d a b => [wAlu 22 d a b]
  | .clz d a => [wAlu 23 d a 0]
  | .ctz d a => [wAlu 24 d a 0]
  | .popc d a => [wAlu 25 d a 0]
  | .addw d a b => [wAlu 26 d a b]
  | .subw d a b => [wAlu 27 d a b]
  | .mulw d a b => [wAlu 28 d a b]
  | .addi d a i => [wShort 1 d a i]
  | .andi d a i => [wShort 2 d a i]
  | .ori d a i => [wShort 3 d a i]
  | .xori d a i => [wShort 4 d a i]
  | .shli d a n => [wShort 5 d a (0#2 ++ 0#6 ++ n)]
  | .shri d a n => [wShort 5 d a (1#2 ++ 0#6 ++ n)]
  | .srai d a n => [wShort 5 d a (2#2 ++ 0#6 ++ n)]
  | .slti d a i => [wShort 6 d a i]
  | .sltni d a i => [wShort 7 d a i]
  | .ld d a z o => [wShort 8 d a (z ++ o)]
  | .st s a z o => [wShort 9 s a (z ++ o)]
  | .amoAdd d a b c r => [wAmo 0 d a b c r]
  | .amoAnd d a b c r => [wAmo 1 d a b c r]
  | .amoOr d a b c r => [wAmo 2 d a b c r]
  | .amoXor d a b c r => [wAmo 3 d a b c r]
  | .amoMin d a b c r => [wAmo 4 d a b c r]
  | .amoMax d a b c r => [wAmo 5 d a b c r]
  | .amoMinn d a b c r => [wAmo 6 d a b c r]
  | .amoMaxn d a b c r => [wAmo 7 d a b c r]
  | .amoSwap d a b c r => [wAmo 8 d a b c r]
  | .amoCas d a b c r => [wAmo 9 d a b c r]
  | .amoFadd32 d a b c r => [wAmo 10 d a b c r]
  | .amoAddw d a b c r => [wAmo 11 d a b c r]
  | .amoCasw d a b c r => [wAmo 12 d a b c r]
  | .amoSwapw d a b c r => [wAmo 13 d a b c r]
  | .beq a b i => [wShort 11 a b i]
  | .bne a b i => [wShort 12 a b i]
  | .blt a b i => [wShort 13 a b i]
  | .bge a b i => [wShort 14 a b i]
  | .bltn a b i => [wShort 15 a b i]
  | .bgen a b i => [wShort 16 a b i]
  | .jr t => [wShort 17 0 t 0]
  | .callr t => [wShort 17 0 t 1]
  | .ret => [wShort 17 0 0 2]
  | .lit d lit => [wShort 18 d 0 0, lit]
  | .litn d lit => [wShort 18 d 0 1, lit]
  | .lith d lit => [wShort 18 d 0 2, lit]
  | .gset s a b c => [wShort 19 (s ++ 0#2) a (b ++ c ++ 0#6)]
  | .gsetUnres s => [wShort 19 (s ++ 0#2) 0 (0#5 ++ 7#3 ++ 0#6)]
  | .tkp c n => [wShort 20 (c ++ 0#2) n 0]
  | .tkw c n => [wShort 20 (c ++ 0#2) n 1]
  | .trap n => [wSub 21 0 0 0 n]
  | .eretResume => [wSub 21 1 0 0 0]
  | .eretDiscard => [wSub 21 1 0 0 0]
  | .eretEnd => [wSub 21 1 0 0 0]
  | .srd d i => [wSub 21 2 d 0 i]
  | .swr s i => [wSub 21 3 0 s i]
  | .fence k c => [wSub 21 4 0 0 (0#5 ++ k ++ c)]
  | .nop => [wSub 21 5 0 0 0]
  | .refdDefer s => [wSub 21 6 0 s 0]
  | .refdRelease s => [wSub 21 6 0 s 0]
  | .refdRefreshNow s => [wSub 21 6 0 s 0]
  | .inval s => [wSub 21 7 0 s 0]
  | .wfe => [wSub 21 8 0 0 0]
  | .fork a => [wSub 22 0 0 a 0]
  | .join => [wSub 22 1 0 0 0]
  | .syncs n => [wSub 22 2 0 0 (0#7 ++ n)]
  | .syncw n => [wSub 22 3 0 0 (0#7 ++ n)]
  | .syncc n => [wSub 22 4 0 0 (0#7 ++ n)]
  | .fid d => [wSub 22 5 d 0 0]
  | .spawn d s => [wSub 23 0 d s 0]
  | .signal s => [wSub 23 1 0 s 0]
  | .tend => [wSub 23 2 0 0 0]
  | .bar => [wSub 23 3 0 0 0]
  | .barw d s => [wSub 23 4 d s 0]
  | .bara => [wSub 23 5 0 0 0]
  | .yield => [wSub 23 6 0 0 0]
  | .wear d => [wSub 23 7 d 0 0]
  | .enter v => [wShort 24 0 0 (0#12 ++ v)]
  | .cb d n => [wShort 25 d 0 (0#6 ++ n)]
  | .loops r l => [wShort 26 r 0 l]
  | .vadd t c d a b l y => [wVec 0 t c d a b l y]
  | .vaddBcast t c d a s => wBcast 0 t c d a s
  | .vsub t c d a b l y => [wVec 1 t c d a b l y]
  | .vsubBcast t c d a s => wBcast 1 t c d a s
  | .vmul t c d a b l y => [wVec 2 t c d a b l y]
  | .vmulBcast t c d a s => wBcast 2 t c d a s
  | .vmulh t c d a b l y => [wVec 3 t c d a b l y]
  | .vmulhBcast t c d a s => wBcast 3 t c d a s
  | .vmulhn t c d a b l y => [wVec 4 t c d a b l y]
  | .vmulhnBcast t c d a s => wBcast 4 t c d a s
  | .vmad t c d a b l y => [wVec 5 t c d a b l y]
  | .vmadBcast t c d a s => wBcast 5 t c d a s
  | .vadds t c d a b l y => [wVec 6 t c d a b l y]
  | .vaddsBcast t c d a s => wBcast 6 t c d a s
  | .vsubs t c d a b l y => [wVec 7 t c d a b l y]
  | .vsubsBcast t c d a s => wBcast 7 t c d a s
  | .vaddsn t c d a b l y => [wVec 8 t c d a b l y]
  | .vaddsnBcast t c d a s => wBcast 8 t c d a s
  | .vsubsn t c d a b l y => [wVec 9 t c d a b l y]
  | .vsubsnBcast t c d a s => wBcast 9 t c d a s
  | .vmin t c d a b l y => [wVec 10 t c d a b l y]
  | .vminBcast t c d a s => wBcast 10 t c d a s
  | .vmax t c d a b l y => [wVec 11 t c d a b l y]
  | .vmaxBcast t c d a s => wBcast 11 t c d a s
  | .vminn t c d a b l y => [wVec 12 t c d a b l y]
  | .vminnBcast t c d a s => wBcast 12 t c d a s
  | .vmaxn t c d a b l y => [wVec 13 t c d a b l y]
  | .vmaxnBcast t c d a s => wBcast 13 t c d a s
  | .vabs t c d a l y => [wVec 14 t c d a 0 l y]
  | .vand t c d a b l y => [wVec 15 t c d a b l y]
  | .vandBcast t c d a s => wBcast 15 t c d a s
  | .vor t c d a b l y => [wVec 16 t c d a b l y]
  | .vorBcast t c d a s => wBcast 16 t c d a s
  | .vxor t c d a b l y => [wVec 17 t c d a b l y]
  | .vxorBcast t c d a s => wBcast 17 t c d a s
  | .vandn t c d a b l y => [wVec 18 t c d a b l y]
  | .vandnBcast t c d a s => wBcast 18 t c d a s
  | .vshl t c d a b l y => [wVec 19 t c d a b l y]
  | .vshlBcast t c d a s => wBcast 19 t c d a s
  | .vshr t c d a b l y => [wVec 20 t c d a b l y]
  | .vshrBcast t c d a s => wBcast 20 t c d a s
  | .vsra t c d a b l y => [wVec 21 t c d a b l y]
  | .vsraBcast t c d a s => wBcast 21 t c d a s
  | .vclz t c d a l y => [wVec 22 t c d a 0 l y]
  | .vpopc t c d a l y => [wVec 23 t c d a 0 l y]
  | .vcmp t c d a b l y => [wVec 24 t c d a b l y]
  | .vcmpn t c d a b l y => [wVec 25 t c d a b l y]
  | .fadd t c d a b l y => [wVec 26 t c d a b l y]
  | .faddBcast t c d a s => wBcast 26 t c d a s
  | .fsub t c d a b l y => [wVec 27 t c d a b l y]
  | .fsubBcast t c d a s => wBcast 27 t c d a s
  | .fmul t c d a b l y => [wVec 28 t c d a b l y]
  | .fmulBcast t c d a s => wBcast 28 t c d a s
  | .ffma t c d a b l y => [wVec 29 t c d a b l y]
  | .ffmaBcast t c d a s => wBcast 29 t c d a s
  | .ffms t c d a b l y => [wVec 30 t c d a b l y]
  | .ffmsBcast t c d a s => wBcast 30 t c d a s
  | .fmin t c d a b l y => [wVec 31 t c d a b l y]
  | .fminBcast t c d a s => wBcast 31 t c d a s
  | .fmax t c d a b l y => [wVec 32 t c d a b l y]
  | .fmaxBcast t c d a s => wBcast 32 t c d a s
  | .fabs t c d a l y => [wVec 33 t c d a 0 l y]
  | .fneg t c d a l y => [wVec 34 t c d a 0 l y]
  | .frcp t c d a l y => [wVec 35 t c d a 0 l y]
  | .frsq t c d a l y => [wVec 36 t c d a 0 l y]
  | .fexp2 t c d a l y => [wVec 37 t c d a 0 l y]
  | .flog2 t c d a l y => [wVec 38 t c d a 0 l y]
  | .fcmp t c d a b l y => [wVec 39 t c d a b l y]
  | .fclass t c d a l y => [wVec 40 t c d a 0 l y]
  | .vcvt t c d a b l => [wVec 41 t c d a b l 0]
  | .vscale t c d a b l y => [wVec 42 t c d a b l y]
  | .vqpack t c d a b l => [wVec 43 t c d a b l 0]
  | .vqunpk t c d a b l => [wVec 44 t c d a b l 0]
  | .vsel t c d a b l => [wVec 45 t c d a b l 0]
  | .vperm t c d a b l y => [wVec 46 t c d a b l y]
  | .vbcasts t c d a b l => [wVec 47 t c d a b l 0]
  | .vredadd t c d a b l y => [wVec 48 t c d a b l y]
  | .vredmax t c d a b l y => [wVec 49 t c d a b l y]
  | .vshf t c d a b l => [wVec 50 t c d a (0#2 ++ b) l 0]
  | .vxtr t c a b l => [wVec 51 t c 0 a b l 0]
  | .plog t c d a b l => [wVec 52 t c d a b l 0]
  | .pset t c d a b l => [wVec 53 t c d a b l 0]
  | .ptst t c a => [wVec 54 t c 0 a 0 0 0]
  | .tld t c d a b l => [wVec 55 t c d a b l 0]
  | .tst t c d a b l => [wVec 56 t c d a b l 0]
  | .tldx t c d a b l y => [wVec 57 t c d a b l y]
  | .tstx t c d a b l y => [wVec 58 t c d a b l y]
  | .gld t c d a b y => [wVec 59 t c d a b 3 y]
  | .gst t c d a b y => [wVec 60 t c d a b 3 y]
  | .gldp t c d a b y => [wVec 61 t c d a b 3 y]
  | .gamoAdd t c d a b y => [wVec 62 t c d a b 0 y]
  | .gamoMin t c d a b => [wVec 62 t c d a b 1 0]
  | .gamoMax t c d a b => [wVec 62 t c d a b 2 0]
  | .gamoSwap t c d a b => [wVec 62 t c d a b 3 0]
  | .vnop t c => [wVec 63 t c 0 0 0 0 0]
  | .vfence t c => [wVec 63 t c 0 1 0 0 0]
  | .tcfg t x g h k => [wDot 0 t x g (h ++ k ++ 0#11)]
  | .tzero t x g a => [wDot 1 t x g (a ++ 0#13)]
  | .dot t x g c a b s => [wDot 2 t x g (c ++ a ++ b ++ s)]
  | .dotc t x g c a z b s => [wDot 3 t x g (c ++ a ++ z ++ b ++ s)]
  | .sbppt t x g p w r => [wDot 4 t x g (p ++ 0#2 ++ w ++ r ++ 0#3)]
  | .sbpsc t x g p a s => [wDot 5 t x g (p ++ 0#2 ++ a ++ 0#6 ++ s)]
  | .sbpma t x g c p r => [wDot 6 t x g (c ++ p ++ r ++ 0#7)]
  | .sbpd t x g c w a s => [wDot 7 t x g (c ++ w ++ a ++ s)]
  | .tout t x g c a f e => [wDot 8 t x g (c ++ a ++ f ++ e)]
  | .tin t x g c a f => [wDot 9 t x g (c ++ a ++ f ++ 0#3)]
  | .fmtw t x g n a b o c => [wDot 10 t x g (n ++ a ++ b ++ o ++ c)]
  | .tdef t g l a => wCopy 0 t none g (l ++ a ++ 0#7)
  | .cpy t f g l a b d p => wCopy 1 t f g (l ++ a ++ b ++ d ++ p)
  | .cpyb t f g l a b p => wCopy 2 t f g (l ++ a ++ b ++ 0#1 ++ p)
  | .cpyx t f g l a b => wCopy 3 t f g (l ++ a ++ b ++ 0#3)
  | .cpyr t f g l a b d p => wCopy 4 t f g (l ++ a ++ b ++ d ++ p)
  | .cpye t f g a b c h p d => wCopy 5 t f g (a ++ b ++ c ++ h ++ p ++ d)
  | .trel t g l => wCopy 6 t none g (l ++ 0#11)
  | .qbind t g q a b c => wCopy 7 t none g (q ++ a ++ b ++ c ++ 0#3)
  | .qunb t g q => wCopy 8 t none g (q ++ 0#15)
  | .qfence t g m s => wCopy 9 t none g (m ++ s ++ 0#10)
  | .vlogClaim _ => []
  | .mbRead _ => []
  | .engineStateWrite _ _ => []
  | .cbaseWrite _ => []
  | .fqheadClaim _ => []
  | .fqCompleteResume _ => []
  | .fqCompleteFault _ => []
  | .fqCompleteKill _ => []
  | .fqstatWrite _ => []
  | .registerWrite _ _ => []
  | .creqAck _ _ => []
  | .uniso _ => []
  | .controlBlockWrite _ _ => []
  | .spillTransfer => []
  | .vIssue _ => []
  | .vPerformed => []
  | .dPerformed => []
  | .copyBegin => []
  | .copyPerformed => []
  | .copyDataFault _ _ => []
  | .commandDiscard _ => []
  | .guardResolutionVisible => []
  | .loopbIteration _ => []
  | .streamGroupDecode _ => []
  | .gather => []
  | .gatherPartnerTimeout => []
  | .tokenWatchdog _ => []
  | .tkwWatchdog => []
  | .tileWaitWatchdog => []
  | .wfeTimeout => []
  | .trapEntry => []
  | .checkerMismatch => []
  | .checkerTimeout => []
  | .dPoisonConsumed => []
  | .windowRollback => []
  | .tileRefetch => []
  | .pageWalk _ _ _ => []
  | .heldFaultPost _ => []
  | .handlerSignal _ => []
  | .outboundDrain _ _ _ => []
  | .homeWriteMerge _ => []
  | .homeAtomic _ => []
  | .routerMerge _ _ => []
  | .mergedReplySplit => []
  | .barrierArrival => []
  | .barwLimitExpiry => []
  | .invalMarker => []
  | .schedulerDecision _ _ => []
  | .dispatchComplete => []
  | .startReached _ => []
  | .deadlineMiss _ => []
  | .pressSave => []
  | .pressSaveDone => []
  | .stressUpdate _ _ _ _ => []
  | .lifetimeRecordWrite => []
  | .calendarSlot _ _ => []
  | .burstLand _ _ => []
  | .hbmLinkCrcFail _ => []
  | .channelRetrainDone _ _ => []
  | .refreshDue _ _ => []
  | .refreshBurst _ _ _ _ => []
  | .refreshGuard _ _ => []
  | .cellRemap _ _ _ => []
  | .d2dFlitCrcFail => []
  | .d2dRetrainDone _ => []
  | .expanderPoisonResponse _ => []
  | .expanderTimeout _ => []
  | .write _ _ _ _ => []
  | .read _ _ _ => []
  | .launch _ _ _ => []
  | .load _ _ _ => []
  | .unload _ _ => []
  | .transportSignal _ _ => []
  | .sequenceGapTimeout _ => []
  | .sessionOpen _ _ _ => []
  | .partitionConfigure _ => []
  | .partitionReset _ => []
  | .warmReset => []
  | .coldReset _ => []
  | .quote _ => []
  | .governorStep _ _ => []
  | .thermalTrip => []
  | .remoteRequest _ => []
  | .scaleupLinkCrcFail _ => []
  | .scaleupRetrainDone _ _ => []
  | .reachabilityChange _ _ => []
  | .fabricArrivalMsg _ _ _ => []
  | .fabricReleaseMsg _ => []
  | .ptpMessage _ _ => []
  | .holdover => []
  | .loadValueReturn _ => []
  | .powerFailure => []
  | .switchFailure _ => []
  | .preemptRequest => []
  | .measurementExtend _ _ => []

/-- The bytes of an instruction, each word little-endian (R33). -/
def encodeBytes (i : Instr) : List Byte := ((encode i).map bytesOfWord).flatten

/-- The D word a copy word carries (R36). -/
def Instr.carried : Instr → Option W32
  | .cpy _ f _ _ _ _ _ _ => f
  | .cpyb _ f _ _ _ _ _ => f
  | .cpyx _ f _ _ _ _ => f
  | .cpyr _ f _ _ _ _ _ _ => f
  | .cpye _ f _ _ _ _ _ _ _ => f
  | _ => none

/-- Rows of the table whose word is another row's: the ERET and REFD rows that a register tells apart (R171, R347). The
decoder answers the first row of each. -/
def Instr.sharesWord : Instr → Bool
  | .eretDiscard => true
  | .eretEnd => true
  | .refdRelease _ => true
  | .refdRefreshNow _ => true
  | _ => false

/-- R78: an event is no word: the decoder never answers one, and the sequencer never executes one. -/
def Instr.isEvent (i : Instr) : Bool := (encode i).isEmpty

/-- The terms the encoder has words for and the decoder answers: well-formed, no event, the row that names its word, and a
carried word that is itself an instruction of class D (R36). -/
def Instr.encodable (i : Instr) : Bool :=
  i.wf && !i.isEvent && !i.sharesWord &&
    match i.carried with
    | none => true
    | some w => fld w 30 2 == 2 && (match decodeDotWord w with | .ok _ => true | .error _ => false)

end Sys2Proof
end

