-- ==== Sys2Proof/Config.lean ====
section
/-! DEFINITION. What an implementation fixes and what the manual leaves open. A free value is an opaque constant: it
has no body, nothing can evaluate it, and a statement that mentions it holds for every value. -/

namespace Sys2Proof.Config

/-- The nth free value of a run, lane k: an early read (R109), the element a term order decides within a bound (R74,
R128), an approximation within its bound (R72). The counter is `State.freeCtr` (log 4). -/
opaque free : Nat → Nat → W32

/-- The value a dot unit forms within its bound (R74): the strand's number, the command's run and the element. A replay of
the run forms it in the same order (R241), so the value is the same. -/
opaque dotFree : Nat → Nat → Nat → W32

/-- R72: the input from which on an approximating op, by the key of its interval, answers magnitude bits g or more. -/
opaque approxFrom : (key g : Nat) → Nat

/-- SHAKE256 with a 32-byte output (R359, R402): named by the manual, defined outside it. -/
opaque shake256 : List Byte → List Byte

/-- SHAKE256 with a 64-byte output (R402). -/
opaque shake512 : List Byte → List Byte

/-- KMAC256 under a session key (R393, R397). -/
opaque kmac256 : List Byte → List Byte → List Byte

/-- Whether the SMP accepts a certificate chain for a partition (R397): ML-DSA-65 against the installed anchors. -/
opaque chainValid : Nat → List Byte → Bool

/-- The ML-DSA-65 public key of an identity seed (R403). -/
opaque identityKey : List Byte → List Byte

/-- The quote the SMP signs with the identity key of a seed over a message (R403). -/
opaque quoteSign : List Byte → List Byte → List Byte

/-- R372: the native words the translator writes for an accepted Waimel record where R373 to R378 leave a choice of words
(`waimelNative` decides which), or none when it needs more spill slots or staging than R373 allows. Words that break a rule every translation
keeps are not taken (`conforms`). -/
opaque translate : List Byte → Option (List W32)

/-- R363, R364: where the loader puts section `kind` of the object it is loading as handle `h` of a partition: the first
page number in the partition's space, and the first 64 KiB frame of HBM. -/
opaque loaderPage : (part h kind : Nat) → Nat
opaque loaderFrame : (part h kind : Nat) → Nat

/-- R344: the bank and the row of an HBM address within its channel, whose layout the manual does not give. -/
opaque hbmBank : Nat → Nat
opaque hbmRow : Nat → Nat

/-- R344: the ten-bit hash of a row address that indexes the row-buffer counters. -/
opaque rowHash : Nat → Nat

/-- R417: the hash that chooses one of n live links for a destination package and a line. -/
opaque linkHash : Nat → Nat → Nat → Nat

/-- Whether the package of a number has profile C1, so that it holds compressed pages (R228). -/
opaque packageC1 : Nat → Bool

/-- Device revision reported in a quote and an image header (R403, R336). -/
opaque deviceRevision : Nat

/-- Profile versions of this part (R9, R361): V1, D1, C1. -/
def profileVersion : Nat := 1

/-- The watchdog interval in cy (R198). -/
def watchdog : Nat := 2 ^ 24

/-- HBM capacity of the package in bytes (R4): 512 GiB. -/
def hbmBytes : Nat := 2 ^ 39

/-- Tower capacity of one cell in bytes (R4). -/
def towerBytes : Nat := 2 ^ 21

/-- Cells of the package (R1). -/
def cells : Nat := 32768

end Sys2Proof.Config
end

