-- ==== Sys2Proof/Machine/Num.lean ====
section
/-! DEFINITION. Number formats and arithmetic (chapter 3): integers, floating-point formats, rounding, conversion, the BQ
and SG4 block formats, the approximating operations within their bounds, and accumulation. Exact values are a sign, a
natural significand and an integer exponent; every result is rounded once. -/

namespace Sys2Proof.Machine

/-! ### Integers (R58) -/

/-- R58: the exact x clamped to w signed bits. -/
def satI (x : Int) (w : Nat) : Int := min (max x (-(2 ^ (w - 1)))) (2 ^ (w - 1) - 1)

/-- R58: the exact x clamped to w unsigned bits. -/
def satN (x : Int) (w : Nat) : Int := min (max x 0) (2 ^ w - 1)

/-! ### Exact values and formats (R59) -/

/-- A decoded value: a NaN (signalling or not), an infinity, or (-1)^neg * m * 2^e. -/
inductive FVal where
  | nan (signalling : Bool)
  | inf (neg : Bool)
  | fin (neg : Bool) (m : Nat) (e : Int)
deriving DecidableEq, Repr

/-- How a format uses its largest exponent field (R59). -/
inductive FKind where
  /-- exponent all ones: infinity and NaN -/
  | ieee
  /-- E4M3: only S.1111.111 is NaN -/
  | e4m3
  /-- E2M1: no infinity and no NaN -/
  | plain
deriving DecidableEq, Repr

/-- A floating-point format of Table 3.1. -/
structure Fmt where
  ebits : Nat
  mbits : Nat
  bias : Nat
  kind : FKind
deriving DecidableEq, Repr

def Fmt.fp32 : Fmt := ⟨8, 23, 127, .ieee⟩
def Fmt.bf16 : Fmt := ⟨8, 7, 127, .ieee⟩
def Fmt.fp16 : Fmt := ⟨5, 10, 15, .ieee⟩
def Fmt.e5m2 : Fmt := ⟨5, 2, 15, .ieee⟩
def Fmt.e4m3 : Fmt := ⟨4, 3, 7, .e4m3⟩
def Fmt.e2m1 : Fmt := ⟨2, 1, 1, .plain⟩

/-- The FP element type of a V op: TY 0 FP32, 1 BF16, 2 FP16 (R46). -/
def Fmt.ofTy (ty : Nat) : Fmt := if ty == 0 then .fp32 else if ty == 1 then .bf16 else .fp16

/-- Bits of one element. -/
def Fmt.width (f : Fmt) : Nat := 1 + f.ebits + f.mbits

/-- Table 3.2: the canonical NaN (E2M1 has none: R68 gives +0). -/
def Fmt.canonNan (f : Fmt) : Nat :=
  match f.kind with
  | .ieee => (2 ^ (f.ebits + 1) - 1) * 2 ^ (f.mbits - 1)
  | .e4m3 => 0x7F
  | .plain => 0

/-- The magnitude bits of infinity in an ieee format. -/
def Fmt.infBits (f : Fmt) : Nat := (2 ^ f.ebits - 1) * 2 ^ f.mbits

/-- The magnitude bits of the largest finite value (Table 3.1). -/
def Fmt.maxBits (f : Fmt) : Nat :=
  match f.kind with
  | .ieee => f.infBits - 1
  | .e4m3 => 0x7E
  | .plain => 2 ^ (f.ebits + f.mbits) - 1

/-- The sign bit of an element. -/
def Fmt.signBit (f : Fmt) (neg : Bool) : Nat := if neg then 2 ^ (f.ebits + f.mbits) else 0

/-- The value of magnitude bits that are neither infinity nor NaN (R59). -/
def Fmt.magVal (f : Fmt) (mag : Nat) : Nat × Int :=
  let ex := mag / 2 ^ f.mbits
  let fr := mag % 2 ^ f.mbits
  if ex == 0 then (fr, 1 - (f.bias : Int) - f.mbits)
  else (fr + 2 ^ f.mbits, (ex : Int) - f.bias - f.mbits)

/-- R59, R60: the value an element encodes. -/
def Fmt.decode (f : Fmt) (x : Nat) : FVal :=
  let neg := x / 2 ^ (f.ebits + f.mbits) % 2 == 1
  let mag := x % 2 ^ (f.ebits + f.mbits)
  let finite := let (m, e) := f.magVal mag; FVal.fin neg m e
  match f.kind with
  | .ieee =>
    if mag == f.infBits then .inf neg
    else if mag > f.infBits then .nan (mag % 2 ^ f.mbits < 2 ^ (f.mbits - 1))
    else finite
  | .e4m3 => if mag == 0x7F then .nan false else finite
  | .plain => finite

/-- An element with a zero exponent field and a non-zero fraction (R59). -/
def Fmt.isSubnormal (f : Fmt) (x : Nat) : Bool :=
  let mag := x % 2 ^ (f.ebits + f.mbits)
  mag != 0 && mag < 2 ^ f.mbits

/-! ### Flags (R28 STATUS [12:8], R60, R68) -/

/-- Sticky flags in the order of STATUS[12:8]: inexact, underflow, overflow, divide-by-zero, invalid. -/
abbrev FFlags := BitVec 5

def fInexact : FFlags := 16
def fUnderflow : FFlags := 8
def fOverflow : FFlags := 4
def fDivZero : FFlags := 2
def fInvalid : FFlags := 1

/-! ### Rounding (R61) -/

/-- m * 2^k rounded to an integer, to nearest with ties to even, and whether it was exact. -/
def rneShift (m : Nat) (k : Int) : Nat × Bool :=
  if 0 ≤ k then (m * 2 ^ k.toNat, true)
  else
    let d := (-k).toNat
    let q := m / 2 ^ d
    let r := m % 2 ^ d
    if r == 0 then (q, true)
    else if 2 * r > 2 ^ d || (2 * r == 2 ^ d && q % 2 == 1) then (q + 1, false)
    else (q, false)

/-- The magnitude m * 2^e rounded in f's precision with no upper limit of the exponent field, and exactness (R61). -/
def Fmt.roundMag (f : Fmt) (m : Nat) (e : Int) : Nat × Bool :=
  if m == 0 then (0, true)
  else
    let top : Int := (Nat.log2 m : Int) + e
    let lo : Int := max top (1 - (f.bias : Int))
    let q : Int := lo - f.mbits
    let (n, exact) := rneShift m (e - q)
    (((lo + f.bias - 1).toNat) * 2 ^ f.mbits + n, exact)

/-- What happens to a finite overflow, an infinity and a NaN at the destination (Table 3.4). -/
structure OvRule where
  /-- magnitude bits of a finite overflow or an infinity -/
  bits : Nat
  /-- whether the sign is kept -/
  signed : Bool
  /-- whether an infinity sets overflow -/
  infFlag : Bool
deriving DecidableEq, Repr

/-- Table 3.4 for the floating-point destinations. -/
def Fmt.ovRule (f : Fmt) (sat : Bool) : OvRule :=
  match f.kind with
  | .ieee => ⟨f.infBits, true, false⟩
  | .e4m3 => if sat then ⟨0x7E, true, true⟩ else ⟨0x7F, false, true⟩
  | .plain => ⟨f.maxBits, true, true⟩

/-- Rounds a finite value into f with its flags (R61, R68). In E4M3 a magnitude that rounds to 480 takes the nearest
member 448; 512 and beyond is an overflow (log 9). -/
def Fmt.roundFin (f : Fmt) (sat neg : Bool) (m : Nat) (e : Int) : Nat × FFlags :=
  let (mag, exact) := f.roundMag m e
  let (mag, exact) := if f.kind == .e4m3 && mag == 0x7F then (0x7E, false) else (mag, exact)
  if mag > f.maxBits then
    let r := f.ovRule sat
    ((if r.signed then f.signBit neg else 0) + r.bits, fOverflow ||| fInexact)
  else
    let fl : FFlags := if exact then 0 else if mag < 2 ^ f.mbits then fInexact ||| fUnderflow else fInexact
    (f.signBit neg + mag, fl)

/-- Rounds any value into f: Table 3.4 for infinities and NaNs (quiet NaN: no flag, but E2M1 sets invalid). -/
def Fmt.round (f : Fmt) (sat : Bool) (v : FVal) : Nat × FFlags :=
  match v with
  | .nan s => (f.canonNan, if s || f.kind == .plain then fInvalid else 0)
  | .inf neg =>
    let r := f.ovRule sat
    ((if r.signed then f.signBit neg else 0) + r.bits, if r.infFlag then fOverflow else 0)
  | .fin neg m e => f.roundFin sat neg m e

/-! ### Exact arithmetic -/

/-- A finite value as an integer significand over 2^e. -/
def sgn (neg : Bool) (m : Nat) : Int := if neg then -(m : Int) else m

/-- The exact sum of two scaled integers. -/
def scaledAdd (a : Int × Int) (b : Int × Int) : Int × Int :=
  let e := min a.2 b.2
  (a.1 * 2 ^ (a.2 - e).toNat + b.1 * 2 ^ (b.2 - e).toNat, e)

/-- a ≤ b for scaled integers. -/
def scaledLe (a b : Int × Int) : Bool :=
  let e := min a.2 b.2
  a.1 * 2 ^ (a.2 - e).toNat ≤ b.1 * 2 ^ (b.2 - e).toNat

/-- The absolute value of a scaled integer. -/
def scaledAbs (a : Int × Int) : Int × Int := ((a.1.natAbs : Int), a.2)

/-- R434: the value of an exact sum s of two terms; a zero sum is -0 only when every term is -0. -/
def sumVal (s : Int × Int) (allNegZero : Bool) : FVal :=
  if s.1 == 0 then .fin allNegZero 0 s.2 else .fin (s.1 < 0) s.1.natAbs s.2

/-- Whether a value is -0. -/
def FVal.isNegZero : FVal → Bool
  | .fin neg m _ => neg && m == 0
  | _ => false

def FVal.isZero : FVal → Bool
  | .fin _ m _ => m == 0
  | _ => false

def FVal.isNan : FVal → Bool
  | .nan _ => true
  | _ => false

def FVal.isSignalling : FVal → Bool
  | .nan s => s
  | _ => false

def FVal.isInf : FVal → Bool
  | .inf _ => true
  | _ => false

def FVal.neg : FVal → FVal
  | .nan s => .nan s
  | .inf n => .inf (!n)
  | .fin n m e => .fin (!n) m e

/-- The sign of a value that is not a NaN. -/
def FVal.sign : FVal → Bool
  | .nan _ => false
  | .inf n => n
  | .fin n _ _ => n

/-- A finite value as a scaled integer; zero otherwise. -/
def FVal.scaled : FVal → Int × Int
  | .fin n m e => (sgn n m, e)
  | _ => (0, 0)

/-- The exact product; zero times infinity has no value (`none`). -/
def FVal.mul (a b : FVal) : Option FVal :=
  match a, b with
  | .nan s, .nan t => some (.nan (s || t))
  | .nan s, _ => some (.nan s)
  | _, .nan s => some (.nan s)
  | .inf n, y => if y.isZero then none else some (.inf (n != y.sign))
  | x, .inf n => if x.isZero then none else some (.inf (x.sign != n))
  | .fin n m e, .fin n' m' e' => some (.fin (n != n') (m * m') (e + e'))

/-- The exact sum; infinities of opposite signs have none. -/
def FVal.add (a b : FVal) : Option FVal :=
  match a, b with
  | .nan s, .nan t => some (.nan (s || t))
  | .nan s, _ => some (.nan s)
  | _, .nan s => some (.nan s)
  | .inf n, .inf n' => if n == n' then some (.inf n) else none
  | .inf n, _ => some (.inf n)
  | _, .inf n => some (.inf n)
  | x, y => some (sumVal (scaledAdd x.scaled y.scaled) (x.isNegZero && y.isNegZero))

/-- Rounds the result of a vector operation: a missing value is an invalid operation (R71). -/
def Fmt.result (f : Fmt) (v : Option FVal) (flags : FFlags) : Nat × FFlags :=
  match v with
  | none => (f.canonNan, flags ||| fInvalid)
  | some v => let (b, fl) := f.round true v; (b, fl ||| flags)

/-- The invalid flag of signalling operands (R60). -/
def sigFlag (vs : List FVal) : FFlags := if vs.any FVal.isSignalling then fInvalid else 0

/-- FADD (R119). -/
def Fmt.add (f : Fmt) (a b : Nat) : Nat × FFlags :=
  let x := f.decode a
  let y := f.decode b
  f.result (x.add y) (sigFlag [x, y])

/-- FSUB (R119): the subtrahend counts with its sign inverted (R434). -/
def Fmt.sub (f : Fmt) (a b : Nat) : Nat × FFlags :=
  let x := f.decode a
  let y := f.decode b
  f.result (x.add y.neg) (sigFlag [x, y])

/-- FMUL (R119). -/
def Fmt.mul (f : Fmt) (a b : Nat) : Nat × FFlags :=
  let x := f.decode a
  let y := f.decode b
  f.result (x.mul y) (sigFlag [x, y])

/-- FFMA, FFMS (R119): d plus or minus a * b, rounded once; zero times infinity is invalid whatever the addend (R60). -/
def Fmt.fma (f : Fmt) (minus : Bool) (d a b : Nat) : Nat × FFlags :=
  let w := f.decode d
  let x := f.decode a
  let y := f.decode b
  let fl := sigFlag [w, x, y]
  match x.mul y with
  | none => (f.canonNan, fl ||| fInvalid)
  | some p => f.result (w.add (if minus then p.neg else p)) fl

/-- a < b on values that are not NaNs, with -0 equal to +0. -/
def FVal.lt (a b : FVal) : Bool :=
  match a, b with
  | .nan _, _ => false
  | _, .nan _ => false
  | .inf n, .inf n' => n && !n'
  | .inf n, _ => n
  | _, .inf n => !n
  | x, y => scaledLe x.scaled y.scaled && !scaledLe y.scaled x.scaled

/-- a = b on values, false for NaNs. -/
def FVal.eqv (a b : FVal) : Bool :=
  match a, b with
  | .nan _, _ => false
  | _, .nan _ => false
  | .inf n, .inf n' => n == n'
  | .inf _, _ => false
  | _, .inf _ => false
  | x, y => scaledLe x.scaled y.scaled && scaledLe y.scaled x.scaled

/-- The total order FMIN and FMAX use: -0 below +0 (R71). -/
def FVal.before (a b : FVal) : Bool := a.lt b || (a.eqv b && a.sign && !b.sign)

/-- FMIN, FMAX (R71, R119): one quiet NaN gives the other operand, a signalling NaN the canonical NaN and invalid. -/
def Fmt.minmax (f : Fmt) (max : Bool) (a b : Nat) : Nat × FFlags :=
  let x := f.decode a
  let y := f.decode b
  if x.isSignalling || y.isSignalling then (f.canonNan, fInvalid)
  else if x.isNan && y.isNan then (f.canonNan, 0)
  else if x.isNan then (b, 0)
  else if y.isNan then (a, 0)
  else if max then (if x.before y then b else a, 0)
  else (if y.before x then b else a, 0)

/-- FCLASS (R121): one bit of 0-9. -/
def Fmt.classMask (f : Fmt) (x : Nat) : Nat :=
  match f.decode x with
  | .nan s => if s then 2 ^ 8 else 2 ^ 9
  | .inf n => if n then 1 else 2 ^ 7
  | .fin n m _ =>
    if m == 0 then (if n then 2 ^ 3 else 2 ^ 4)
    else if f.isSubnormal x then (if n then 2 ^ 2 else 2 ^ 5)
    else (if n then 2 else 2 ^ 6)

/-- FCMP codes EQ, LT, LE, UN (R122) with the invalid flag. -/
def Fmt.cmp (f : Fmt) (code : Nat) (a b : Nat) : Bool × FFlags :=
  let x := f.decode a
  let y := f.decode b
  let un := x.isNan || y.isNan
  let sig := sigFlag [x, y]
  match code with
  | 0 => (x.eqv y, sig)
  | 1 => (x.lt y, if un then fInvalid else 0)
  | 2 => (x.lt y || x.eqv y, if un then fInvalid else 0)
  | _ => (un, sig)

/-! ### Conversion (R67, R68) -/

/-- Source flush of R67: a subnormal element counts as a signed zero. -/
def Fmt.decodeFlush (f : Fmt) (x : Nat) : FVal :=
  if f.isSubnormal x then .fin (x / 2 ^ (f.ebits + f.mbits) % 2 == 1) 0 0 else f.decode x

/-- y = x * 2^k, exact (R67). -/
def FVal.scaleBy (v : FVal) (k : Int) : FVal :=
  match v with
  | .fin n m e => .fin n m (e + k)
  | x => x

/-- A value rounded to an integer, ties to even, and exactness. -/
def rneInt (neg : Bool) (m : Nat) (e : Int) : Int × Bool :=
  let (n, exact) := rneShift m e
  (sgn neg n, exact)

/-- Conversion to i32 (R67, Table 3.4); a non-zero value that rounds to zero is tiny (R68). -/
def toI32 (v : FVal) : Int × FFlags :=
  match v with
  | .nan _ => (0, fInvalid)
  | .inf n => (if n then -(2 ^ 31) else 2 ^ 31 - 1, fInvalid)
  | .fin n m e =>
    let (x, exact) := rneInt n m e
    if x < -(2 ^ 31) || x > 2 ^ 31 - 1 then (satI x 32, fInvalid)
    else (x, if exact then 0 else if x == 0 then fInexact ||| fUnderflow else fInexact)

/-- convert(x, F, G, k) between floating-point formats (R67). -/
def convertF (src dst : Fmt) (sat : Bool) (k : Int) (x : Nat) : Nat × FFlags :=
  dst.round sat ((src.decodeFlush x).scaleBy k)

/-- An integer converted to a floating-point format (R67): never flushed. -/
def convertI (dst : Fmt) (x : Int) : Nat × FFlags := dst.roundFin true (x < 0) x.natAbs 0

/-- The two's complement bits of an integer in w bits. -/
def intBits (w : Nat) (x : Int) : Nat := (x % (2 ^ w : Int)).toNat

/-- The signed value of w bits. -/
def bitsInt (w : Nat) (x : Nat) : Int := if x % 2 ^ w < 2 ^ (w - 1) then (x % 2 ^ w : Nat) else (x % 2 ^ w : Nat) - (2 ^ w : Int)

/-- Source and destination of pair codes 0-12 (Table 3.5); `none` is i32. -/
def pairFmts (code : Nat) : Option Fmt × Option Fmt :=
  match code with
  | 0 => (some .fp32, some .bf16)
  | 1 => (some .bf16, some .fp32)
  | 2 => (some .fp32, some .fp16)
  | 3 => (some .fp16, some .fp32)
  | 4 => (some .fp32, some .e4m3)
  | 5 => (some .e4m3, some .fp32)
  | 6 => (some .fp32, some .e5m2)
  | 7 => (some .e5m2, some .fp32)
  | 8 => (some .fp32, some .e2m1)
  | 9 => (some .e2m1, some .fp32)
  | 10 => (some .fp32, none)
  | 11 => (none, some .fp32)
  | _ => (some .e4m3, some .bf16)

/-- Width in bits of a side of a pair code. -/
def sideWidth (f : Option Fmt) : Nat := match f with | some f => f.width | none => 32

/-- One element through a pair code 0-12 with k = 0 (R70). -/
def convertPair (code : Nat) (sat : Bool) (x : Nat) : Nat × FFlags :=
  match pairFmts code with
  | (some f, some g) => convertF f g sat 0 x
  | (some f, none) => let (i, fl) := toI32 (f.decodeFlush x); (intBits 32 i, fl)
  | (none, some g) => convertI g (bitsInt 32 x)
  | (none, none) => (x, 0)

/-! ### BQ blocks (R63-R65) -/

/-- Element bits B of BQ code 0 BQ2, 1 BQ4, 2 BQ7 (Table 3.3). -/
def bqBits (code : Nat) : Nat := if code == 0 then 2 else if code == 1 then 4 else 7

/-- A block: exponent, four quad shifts, sixteen elements as sign and magnitude. -/
structure BqBlock where
  ex : Nat
  qs : List Nat
  el : List (Bool × Nat)
deriving DecidableEq, Repr

/-- Value of element i (R63). -/
def BqBlock.value (bits : Nat) (b : BqBlock) (i : Nat) : FVal :=
  if b.ex == 255 then .nan false
  else
    let (n, m) := b.el.getD i (false, 0)
    .fin n m ((b.ex : Int) - 127 - (b.qs.getD (i / 4) 0 : Nat) - (bits - 2 : Nat))

/-- Order of magnitudes with infinity above every finite value (R65 step 2). -/
def FVal.absLe (a b : FVal) : Bool :=
  match a, b with
  | _, .inf _ => true
  | .inf _, _ => false
  | x, y => scaledLe (scaledAbs x.scaled) (scaledAbs y.scaled)

/-- |x| in units of 2^u, to nearest with ties to even (R65 step 6). -/
def magUnits (v : FVal) (u : Int) : Nat × Bool :=
  match v with
  | .fin _ m e => rneShift m (e - u)
  | _ => (0, true)

/-- R65: packs 16 values into a block of B-bit elements. -/
def bqPack (bits : Nat) (xs : List FVal) : BqBlock × FFlags :=
  let b := bits - 1
  let lim := 2 ^ b - 1
  if xs.any FVal.isNan then (⟨255, [0, 0, 0, 0], List.replicate 16 (false, 0)⟩, fInvalid)
  else
    let big := xs.foldl (fun a x => if a.absLe x then x else a) (.fin false 0 0)
    if big.isZero then (⟨0, [0, 0, 0, 0], xs.map (fun x => (x.sign, 0))⟩, 0)
    else
      let e : Int := match big with
        | .fin _ m e => (Nat.log2 m : Int) + e
        | _ => 127
      let ex := e + 127
      let ex := if (magUnits big (ex - 127 - (b - 1 : Nat))).1 == 2 ^ b then ex + 1 else ex
      let ex : Nat := (min (max ex 0) 254).toNat
      let u : Int := (ex : Int) - 127 - (b - 1 : Nat)
      let quads := [0, 1, 2, 3].map fun q => [0, 1, 2, 3].map fun j => xs.getD (4 * q + j) (.fin false 0 0)
      let fits (quad : List FVal) (t : Nat) : Bool :=
        quad.all fun x => match x with
          | .inf _ => false
          | x => decide ((magUnits x (u - t)).1 ≤ lim)
      let qs := quads.map fun quad =>
        if quad.all FVal.isZero then 0
        else if fits quad 3 then 3 else if fits quad 2 then 2 else if fits quad 1 then 1 else 0
      let one (i : Nat) : (Bool × Nat) × FFlags :=
        let x := xs.getD i (.fin false 0 0)
        match x with
        | .inf n => ((n, lim), fOverflow)
        | x =>
          let (m, exact) := magUnits x (u - (qs.getD (i / 4) 0 : Nat))
          if m > lim then ((x.sign, lim), fOverflow ||| fInexact)
          else ((x.sign, m), if exact then 0 else if m == 0 then fInexact ||| fUnderflow else fInexact)
      let res := (List.range 16).map one
      (⟨ex, qs, res.map Prod.fst⟩, res.foldl (fun fl r => fl ||| r.2) 0)

/-- An element's bits: sign above magnitude (R63). -/
def bqElBits (bits : Nat) (x : Bool × Nat) : Nat := (if x.1 then 2 ^ (bits - 1) else 0) + x.2

/-- The packed block form of R64 as one number (bits 127:0). -/
def BqBlock.packed (bits : Nat) (b : BqBlock) : Nat :=
  b.ex + (List.range 4).foldl (fun a q => a + b.qs.getD q 0 * 2 ^ (8 + 2 * q)) 0
    + (List.range 16).foldl (fun a i => a + bqElBits bits (b.el.getD i (false, 0)) * 2 ^ (16 + bits * i)) 0

/-- A block from its exponent, its quad-shift byte and its element plane (R64). -/
def bqOf (bits ex qsByte plane : Nat) : BqBlock :=
  ⟨ex % 256, (List.range 4).map (fun q => qsByte / 2 ^ (2 * q) % 4),
   (List.range 16).map (fun i =>
     let x := plane / 2 ^ (bits * i) % 2 ^ bits
     (x / 2 ^ (bits - 1) == 1, x % 2 ^ (bits - 1)))⟩

/-- The block of a packed form (R64). -/
def bqUnpacked (bits x : Nat) : BqBlock := bqOf bits (x % 256) (x / 256 % 256) (x / 2 ^ 16)

/-- Size of a group of eight blocks in bytes (R64). -/
def bqGroupBytes (code : Nat) : Nat := 16 + 16 * bqBits code

/-- Block k of a group's bytes (R64). -/
def bqGroupBlock (code : Nat) (g : List Byte) (k : Nat) : BqBlock :=
  let bits := bqBits code
  let plane := (List.range (2 * bits)).foldl (fun a i => a + (g.getD (16 + 2 * bits * k + i) 0).toNat * 2 ^ (8 * i)) 0
  bqOf bits (g.getD k 0).toNat (g.getD (8 + k) 0).toNat plane

/-- The low n bytes of a number, little-endian. -/
def natBytes (n x : Nat) : List Byte := (List.range n).map fun i => BitVec.ofNat 8 (x / 2 ^ (8 * i))

/-- Bytes as a little-endian number. -/
def bytesNat (bs : List Byte) : Nat := bs.foldr (fun b a => b.toNat + 256 * a) 0

/-- A group's bytes from eight blocks (R64). -/
def bqGroupOf (code : Nat) (bl : List BqBlock) : List Byte :=
  let bits := bqBits code
  bl.map (fun b => BitVec.ofNat 8 b.ex)
    ++ bl.map (fun b => BitVec.ofNat 8 ((List.range 4).foldl (fun a q => a + b.qs.getD q 0 * 2 ^ (2 * q)) 0))
    ++ (bl.map fun b =>
        natBytes (2 * bits) ((List.range 16).foldl (fun a i => a + bqElBits bits (b.el.getD i (false, 0)) * 2 ^ (bits * i)) 0)).flatten

/-! ### SG4 (R66) -/

/-- The header fields: E, v0 and d_1 .. d_15. -/
def sg4Diffs (h : BitVec 128) : List Nat := (List.range 15).map fun j => (h.extractLsb' (16 + 7 * j) 7).toNat

def sg4V0 (h : BitVec 128) : Int := (h.extractLsb' 8 8).toInt

def sg4E (h : BitVec 128) : Nat := (h.extractLsb' 0 8).toNat

/-- R66: a header that makes every weight of its group a NaN. -/
def sg4Nan (h : BitVec 128) : Bool := sg4E h == 255 || h.extractLsb' 121 7 != 0

/-! ### Approximating operations (R72, R120, Table 3.6) -/

/-- An exact real v > 0 given by its comparisons with scaled naturals z = m * 2^e: z ≤ v and v ≤ z. -/
structure RealCmp where
  le : Nat → Int → Bool
  ge : Nat → Int → Bool

/-- Largest magnitude bits whose value is at most v, built from the highest bit down (the encoding is monotone). -/
def floorBits (f : Fmt) (v : RealCmp) (acc : Nat) : Nat → Nat
  | 0 => acc
  | i + 1 =>
    let t := acc + 2 ^ i
    let (m, e) := f.magVal t
    if t ≤ f.maxBits && v.le m e then floorBits f v t i else floorBits f v acc i

/-- Whether magnitude bits y lie within k units in the last place of v; the unit is that of v's binade. -/
def withinUlps (f : Fmt) (v : RealCmp) (k y : Nat) : Bool :=
  let fl := floorBits f v 0 (f.ebits + f.mbits)
  let u := (f.magVal fl).2
  let (m, e) := f.magVal y
  let (m, e, u) := if u < e then (m * 2 ^ (e - u).toNat, u, u) else (m, e, u)
  let step := k * 2 ^ (u - e).toNat
  v.le (m - step) e && v.ge (m + step) e && y ≤ f.maxBits

/-- An approximating op as its magnitude over the magnitudes of normal inputs of one interval (R72): the exact value at an
input, the interval, whether the value falls as the input rises, its bound, and the key of its free thresholds. -/
structure Approx where
  value : Nat → RealCmp
  first : Nat
  last : Nat
  falls : Bool
  ulps : Nat
  key : Nat

/-- The magnitudes within the bound of v, rising. -/
def allowedBits (f : Fmt) (v : RealCmp) (k : Nat) : List Nat :=
  let fl := floorBits f v 0 (f.ebits + f.mbits)
  ((List.range (3 * k + 1)).map fun i => fl + i - 2 * k).dedup.filter (withinUlps f v k)

/-- The input nearest to x, within the interval, whose value is below the magnitude `base`; `span` bits of distance. -/
def Approx.edge (o : Approx) (f : Fmt) (base x : Nat) : Nat → Nat → Option Nat
  | d, 0 =>
    let y := if o.falls then x + d + 1 else x - (d + 1)
    let inside : Bool := if o.falls then decide (y ≤ o.last) else decide (o.first + d + 1 ≤ x)
    let (m, e) := f.magVal base
    if inside && !(o.value y).le m e then some y else none
  | d, i + 1 =>
    let far := d + 2 ^ i
    let y := if o.falls then x + far else x - far
    let inside : Bool := if o.falls then decide (y ≤ o.last) else decide (o.first + far ≤ x)
    let (m, e) := f.magVal base
    if inside && (o.value y).le m e then o.edge f base x far i else o.edge f base x d i

/-- R72: the magnitude at a normal input x. For each magnitude g the unit has a free threshold from which its results are g or
more, so the results are monotonic over the interval; a result the bound forces at an input of lesser value is forced here
too. Every monotonic function within the bound is such a choice of thresholds. -/
def Approx.at' (o : Approx) (f : Fmt) (x : Nat) : Nat :=
  let v := o.value x
  let fl := floorBits f v 0 (f.ebits + f.mbits)
  let gs := allowedBits f v o.ulps
  let base := fl / 2 ^ f.mbits * 2 ^ f.mbits
  let past (g : Nat) : Bool :=
    let t := Config.approxFrom o.key g
    if o.falls then decide (x ≤ t) else decide (t ≤ x)
  let least : Nat := gs.headD fl
  let forced : Nat :=
    if base + 2 * o.ulps < fl then least
    else
      match o.edge f base x 0 (f.ebits + f.mbits) with
      | some y => max least ((allowedBits f (o.value y) o.ulps).headD least)
      | none => least
  gs.foldl (fun r g => if g ≤ forced || past g then max r g else r) least

/-- The magnitude of an approximating op and whether it is exact: for a subnormal input the free value when it meets the
bound, the floor of v otherwise. -/
def Approx.mag (o : Approx) (f : Fmt) (x free : Nat) : Nat × Bool :=
  let v := o.value x
  let y := free % 2 ^ (f.ebits + f.mbits)
  let r := if 2 ^ f.mbits ≤ x then o.at' f x
    else if withinUlps f v o.ulps y then y else floorBits f v 0 (f.ebits + f.mbits)
  let (m, e) := f.magVal r
  (r, v.le m e && v.ge m e)

/-- R120: a result beyond the range is an infinity with overflow, below the smallest subnormal a zero with underflow;
inexact unless exact. DEDUCED from R68: an inexact subnormal result is tiny and sets underflow (log 60). -/
def Approx.result (o : Approx) (f : Fmt) (neg : Bool) (x free : Nat) : Nat × FFlags :=
  let v := o.value x
  let (mm, me) := f.magVal f.maxBits
  let (sm, se) := f.magVal 1
  if !(v.ge mm me) && v.le (2 ^ f.mbits) (2 ^ (f.ebits - 1) - (f.mbits : Int)) then
    (f.signBit neg + f.infBits, fOverflow ||| fInexact)
  else if !(v.le sm se) then (f.signBit neg, fUnderflow ||| fInexact)
  else
    let (r, exact) := o.mag f x free
    (f.signBit neg + r, if exact then 0 else if r < 2 ^ f.mbits then fInexact ||| fUnderflow else fInexact)

/-- a * b against 2^k for naturals scaled by exponents: m * 2^e ≤ 1. -/
def leOne (m : Nat) (e : Int) : Bool := if 0 ≤ e then m * 2 ^ e.toNat ≤ 1 else m ≤ 2 ^ (-e).toNat

/-- m * 2^e ≥ 1. -/
def geOne (m : Nat) (e : Int) : Bool := if 0 ≤ e then 1 ≤ m * 2 ^ e.toNat else 2 ^ (-e).toNat ≤ m

/-- 1 / (m * 2^e). -/
def recipCmp (m : Nat) (e : Int) : RealCmp :=
  ⟨fun z x => leOne (z * m) (x + e), fun z x => geOne (z * m) (x + e)⟩

/-- 1 / sqrt (m * 2^e). -/
def rsqrtCmp (m : Nat) (e : Int) : RealCmp :=
  ⟨fun z x => leOne (z * z * m) (2 * x + e), fun z x => geOne (z * z * m) (2 * x + e)⟩

/-- Fraction bits of log2 y, y in [lo, hi] / 2^160 within [1, 2), by squaring; stops where the bounds do not decide a
bit. Answers the bits found as a number and how many they are. -/
def log2Frac (lo hi acc bits : Nat) : Nat → Nat × Nat
  | 0 => (acc, bits)
  | n + 1 =>
    let l := lo * lo / 2 ^ 160
    let h := hi * hi / 2 ^ 160 + 1
    if 2 ^ 161 ≤ l then log2Frac (l / 2) (h / 2 + 1) (2 * acc + 1) (bits + 1) n
    else if h < 2 ^ 161 then log2Frac l h (2 * acc) (bits + 1) n
    else (acc, bits)

/-- Bounds of log2 (m * 2^e), m > 0, in units of 2^-128. -/
def log2Bounds (m : Nat) (e : Int) : Int × Int :=
  let n := Nat.log2 m
  let y := if n ≤ 160 then m * 2 ^ (160 - n) else m / 2 ^ (n - 160)
  let (f, k) := log2Frac y (if n ≤ 160 then y else y + 1) 0 0 128
  let whole : Int := ((n : Int) + e) * 2 ^ 128
  (whole + (f * 2 ^ (128 - k) : Nat), whole + ((f + 1) * 2 ^ (128 - k) : Nat))

/-- m * 2^e with the trailing zeros of m moved to the exponent. -/
def strip (m : Nat) (e : Int) : Nat → Nat × Int
  | 0 => (m, e)
  | n + 1 => if m != 0 && m % 2 == 0 then strip (m / 2) (e + 1) n else (m, e)

/-- z * 2^x against 2^(p/2^q): exactly where z is a power of two, by bounds of the logarithm where they decide, else by
z^(2^q) against 2^(p - x * 2^q). -/
def exp2Cmp (p : Int) (q : Nat) : RealCmp :=
  let cmp (z : Nat) (x : Int) (le : Bool) : Bool :=
    if z == 0 then le
    else
      let (z, x) := strip z x 64
      let (l, h) := log2Bounds z x
      let s : Int := (2 ^ q : Nat)
      if z == 1 then (if le then decide (x * s ≤ p) else decide (p ≤ x * s))
      else if h * s ≤ p * 2 ^ 128 then le
      else if p * 2 ^ 128 < l * s then !le
      else if le then leOne (z ^ (2 ^ q)) (x * s - p) else geOne (z ^ (2 ^ q)) (x * s - p)
  ⟨fun z x => cmp z x true, fun z x => cmp z x false⟩

/-- |log2 (m * 2^e)| for a value above (`up`) or below one: by bounds of the logarithm where they decide, else z * 2^x
against it compares powers. -/
def log2Cmp (up : Bool) (m : Nat) (e : Int) : RealCmp :=
  let (m, e) := strip m e 64
  let (l, h) := log2Bounds m e
  let (l, h) := if up then (l, h) else (-h, -l)
  let cmp (z : Nat) (x : Int) (le : Bool) : Bool :=
    let (z, x) := strip z x 64
    if !scaledLe (l, -128) ((z : Int), x) then le
    else if !scaledLe ((z : Int), x) (h, -128) then !le
    else
      let (k, t) : Nat × Int :=
        if 0 ≤ x then (1, ((z * 2 ^ x.toNat : Nat) : Int)) else (2 ^ (-x).toNat, (z : Int))
      let mk := m ^ k
      let ek : Int := e * (k : Int)
      if up then (if le then geOne mk (ek - t) else leOne mk (ek - t))
      else (if le then leOne mk (ek + t) else geOne mk (ek + t))
  ⟨fun z x => cmp z x true, fun z x => cmp z x false⟩

/-- The magnitude bits of an element. -/
def Fmt.magOf (f : Fmt) (a : Nat) : Nat := a % 2 ^ (f.ebits + f.mbits)

/-- An op over the normal inputs of a sign; `part` numbers the op and its interval. -/
def Fmt.approx (f : Fmt) (value : Nat → Int → RealCmp) (part first last : Nat) (falls : Bool) (ulps : Nat) : Approx :=
  ⟨fun x => let (m, e) := f.magVal x; value m e, first, last, falls, ulps, part * 2 ^ 16 + f.ebits * 2 ^ 8 + f.mbits⟩

/-- FRCP (R72, R120). -/
def Fmt.recip (f : Fmt) (free a : Nat) : Nat × FFlags :=
  match f.decode a with
  | .nan s => (f.canonNan, if s then fInvalid else 0)
  | .inf n => (f.signBit n, 0)
  | .fin n m _ =>
    if m == 0 then (f.signBit n + f.infBits, fDivZero)
    else (f.approx recipCmp (if n then 1 else 0) (2 ^ f.mbits) f.maxBits true 1).result f n (f.magOf a) free

/-- FRSQ (R72, R120). -/
def Fmt.rsqrt (f : Fmt) (free a : Nat) : Nat × FFlags :=
  match f.decode a with
  | .nan s => (f.canonNan, if s then fInvalid else 0)
  | .inf n => if n then (f.canonNan, fInvalid) else (0, 0)
  | .fin n m _ =>
    if m == 0 then (f.signBit n + f.infBits, fDivZero)
    else if n then (f.canonNan, fInvalid)
    else (f.approx rsqrtCmp 2 (2 ^ f.mbits) f.maxBits true 1).result f false (f.magOf a) free

/-- Bound in ulps of FEXP2 and FLOG2 (Table 3.6). -/
def Fmt.expUlps (f : Fmt) : Nat := if f.width == 32 then 2 else 1

/-- 2^a for a = ±m * 2^e. -/
def exp2Of (n : Bool) (m : Nat) (e : Int) : RealCmp :=
  let (m, e) := strip m e 64
  exp2Cmp (if 0 ≤ e then sgn n (m * 2 ^ e.toNat) else sgn n m) (if 0 ≤ e then 0 else (-e).toNat)

/-- FEXP2 (R72, R120). Beyond 2^11 in magnitude the result is past the range of every format. -/
def Fmt.exp2 (f : Fmt) (free a : Nat) : Nat × FFlags :=
  match f.decode a with
  | .nan s => (f.canonNan, if s then fInvalid else 0)
  | .inf n => (if n then 0 else f.infBits, 0)
  | .fin n m e =>
    if m == 0 then ((Fmt.roundFin f true false 1 0).1, 0)
    else if scaledLe (2048, 0) (m, e) then
      (if n then (0, fUnderflow ||| fInexact) else (f.infBits, fOverflow ||| fInexact))
    else (f.approx (exp2Of n) (if n then 4 else 3) (2 ^ f.mbits) f.maxBits n f.expUlps).result f false (f.magOf a) free

/-- FLOG2 (R72, R120). -/
def Fmt.log2 (f : Fmt) (free a : Nat) : Nat × FFlags :=
  match f.decode a with
  | .nan s => (f.canonNan, if s then fInvalid else 0)
  | .inf n => if n then (f.canonNan, fInvalid) else (f.infBits, 0)
  | .fin n m e =>
    if m == 0 then (f.signBit true + f.infBits, fDivZero)
    else if n then (f.canonNan, fInvalid)
    else if scaledLe (m, e) (1, 0) && scaledLe (1, 0) (m, e) then (0, 0)
    else
      let up := scaledLe (1, 0) (m, e)
      let one := f.bias * 2 ^ f.mbits
      let o := if up then f.approx (log2Cmp true) 5 (one + 1) f.maxBits false f.expUlps
        else f.approx (log2Cmp false) 6 (2 ^ f.mbits) (one - 1) true f.expUlps
      o.result f (!up) (f.magOf a) free

/-! ### Accumulation (R73-R76) -/

/-- One term of an operand group: the exact product (`none` for zero times infinity), and the sum of the operands'
exponent bounds (R74). -/
structure Term where
  p : Option FVal
  bound : Int
deriving DecidableEq, Repr

/-- The exact sum of an accumulator value and finite terms. -/
def termSum (a : Int × Int) (ts : List Term) : Int × Int :=
  ts.foldl (fun s t => scaledAdd s (t.p.getD (.nan false)).scaled) a

/-- R74: a + Σ p with the permitted error 2^-22 (|a| + Σ|p|) + n 2^(eB-40), compared with a candidate. -/
def withinAccBound (a cand exact : Int × Int) (ts : List Term) : Bool :=
  let mags := ts.foldl (fun s t => scaledAdd s (scaledAbs (t.p.getD (.nan false)).scaled)) (scaledAbs a)
  let eB := ts.foldl (fun m t => max m t.bound) ((ts.head?.map Term.bound).getD 0)
  let bound := scaledAdd (mags.1, mags.2 - 22) ((ts.length : Int), eB - 40)
  let diff := scaledAbs (scaledAdd cand (-exact.1, exact.2))
  scaledLe diff bound

/-- R434: the sign a candidate of zero may have: +0 where the terms cut to the window cancel, -0 only for a negative exact sum that
rounds to zero. An exactly zero sum has its one sign elsewhere. -/
def zeroSignOk (exact : Int × Int) (n : Bool) (m : Nat) : Bool := m != 0 || (exact.1 != 0 && (!n || decide (exact.1 < 0)))

/-- R74, R75: FP32 accumulation of a group into a; the free value is any finite FP32 within the bound. DESIGN CHOICE: no order of
addition gives infinity where the exact sum rounds to a finite value (log 113). -/
def accumF32 (free : Nat) (a : W32) (ts : List Term) : W32 :=
  let av := Fmt.fp32.decode a.toNat
  let vals := ts.map Term.p
  let some' := vals.filterMap id
  let infs := (av :: some').filter FVal.isInf
  if av.isNan || vals.any Option.isNone || some'.any FVal.isNan then 0x7FC00000#32
  else if infs.any FVal.sign && infs.any (fun v => !v.sign) then 0x7FC00000#32
  else if !infs.isEmpty then BitVec.ofNat 32 (Fmt.fp32.signBit (infs.any FVal.sign) + Fmt.fp32.infBits)
  else
    let exact := termSum av.scaled ts
    let negZero := av.isNegZero && some'.all FVal.isNegZero
    let best := BitVec.ofNat 32 (Fmt.fp32.round true (sumVal exact negZero)).1
    match Fmt.fp32.decode (free % 2 ^ 32) with
    | .fin n m e =>
      if zeroSignOk exact n m && withinAccBound av.scaled (sgn n m, e) exact ts then BitVec.ofNat 32 free else best
    | _ => best

/-- trunc() of a value as an integer; NaN, infinite and missing terms count zero (R76). -/
def truncTerm (v : Option FVal) : Int :=
  match v with
  | some (.fin n m e) => sgn n (if 0 ≤ e then m * 2 ^ e.toNat else m / 2 ^ (-e).toNat)
  | _ => 0

/-- R76: INT32 accumulation modulo 2^32. -/
def accumI32 (a : W32) (ts : List Term) : W32 :=
  a + BitVec.ofInt 32 (ts.foldl (fun s t => s + truncTerm t.p) 0)

/-- R73: accumulate() by the accumulator type. -/
def accumulate (int : Bool) (free : Nat) (a : W32) (ts : List Term) : W32 :=
  if int then accumI32 a ts else accumF32 free a ts

end Sys2Proof.Machine
end

