-- ==== Sys2Proof/Machine/State.lean ====
section
/-! DEFINITION. The state of an HZ-8 package as plain data: the executing strand, the other live strands, the cells,
memory, and every unit of core, cluster, die, hub and fabric that the manual gives registers or queues. -/

namespace Sys2Proof.Machine

/-- Sparse data by key in one canonical form: keys strictly rising, no entry equal to what an unlisted key reads as
(`SMap.get` and `SMap.set` are in Machine/Ops.lean). -/
abbrev SMap (α : Type) := List (Nat × α)

/-- Memory by physical address (R298). An unlisted byte reads zero (log 1). -/
abbrev Memory := List Host.Cell

/-! ### Guards, tokens, loops (R22-R24) -/

/-- State of a guard generation (R22). -/
inductive GState where
  | unresolved
  | yes
  | no
deriving DecidableEq, Repr

/-- A guard slot (R22, R99-R101). `gid` counts the openings, so the generation is `gid mod 8`; `older` holds the
resolution of the earlier openings; `seen` says that the current resolution has reached the queue heads (R101). -/
structure Guard where
  st : GState
  gid : Nat
  older : List (Nat × Bool)
  seen : Bool
deriving DecidableEq, Repr

/-- The generation a queued command captured (R22, R195). -/
structure GuardRef where
  slot : Nat
  gid : Nat
deriving DecidableEq, Repr

/-- The six token counters (R23). -/
inductive Tok where
  | cd
  | dv
  | vc
  | dc
  | vd
  | cv
deriving DecidableEq, Repr

/-- Values of the six counters, each 0-15 (R23). -/
structure Tokens where
  cd : Nat
  dv : Nat
  vc : Nat
  dc : Nat
  vd : Nat
  cv : Nat
deriving DecidableEq, Repr

/-- One LOOPS level (R96). -/
structure LoopLevel where
  start : Word
  len : Nat
  left : Nat
deriving DecidableEq, Repr

/-- The REP state (R97): issues remaining and made, and the step codes of the first, second and third field. -/
structure RepState where
  left : Nat
  made : Nat
  s1 : BitVec 2
  s2 : BitVec 2
  s3 : BitVec 2
deriving DecidableEq, Repr

/-! ### Commands (R195) -/

/-- The operations of the V engine: one for each vop of Table 2.5, VMISC split. -/
inductive VOp where
  | add | sub | mul | mulh | mulhn | mad | adds | subs | addsn | subsn | min | max | minn | maxn | abs
  | and | or | xor | andn | shl | shr | sra | clz | popc | cmp | cmpn
  | fadd | fsub | fmul | ffma | ffms | fmin | fmax | fabs | fneg | frcp | frsq | fexp2 | flog2 | fcmp | fclass
  | cvt | scale | qpack | qunpk | sel | perm | bcasts | redadd | redmax | shf | xtr | plog | pset | ptst
  | tld | tst | tldx | tstx | gld | gst | gldp | gamo | nop | fence
deriving DecidableEq, Repr

/-- A vector operand as fixed at enqueue (R16, R20, R45): a physical register, a stream with the number of its binding,
a broadcast value, or none. -/
inductive VSrc where
  | reg (p : Nat)
  | stream (q bind : Nat)
  | bcast (w : W32)
  | none
deriving DecidableEq, Repr

/-- A destination as fixed at enqueue: a physical register, a predicate, a bound name (fault 0x0B at issue, R20), or
none. -/
inductive VDst where
  | vec (p : Nat)
  | pred (n : Nat)
  | bound (q : Nat)
  | none
deriving DecidableEq, Repr

/-- A V command with everything it captured (R195). `fa` and `fb` are the encoded va and vb fields where they hold a
lane, count, code, predicate or offset; `base` is the captured scalar of a tower or global access. -/
structure VCmd where
  op : VOp
  cond : Nat
  ty : Nat
  lb : Nat
  dst : VDst
  a : VSrc
  b : VSrc
  fa : Nat
  fb : Nat
  base : Word
deriving DecidableEq, Repr

/-- A D command (Table 2.6). -/
inductive DOp where
  | tcfg (shape kstep : Nat)
  | tzero (acc : Nat)
  | dot (acc a b sel : Nat)
  | dotc (acc src target b sel : Nat)
  | sbppt (pt tile row : Nat)
  | sbpsc (pt tile sel : Nat)
  | sbpma (acc pt row : Nat)
  | sbpd (acc w a sel : Nat)
  | tout (acc tile fmt epi : Nat)
  | tin (acc tile fmt : Nat)
  | fmtw (entry : Nat) (code : BitVec 13)
deriving DecidableEq, Repr

/-- A C command with its captured scalars (Table 2.7), or an INVAL marker (R292). -/
inductive COp where
  | tdef (tile : Nat) (v : Word)
  | cpy (tile : Nat) (sa sb : Word) (out : Bool) (policy : Nat)
  | cpyb (tile : Nat) (sa sb : Word) (policy : Nat)
  | cpyx (tile : Nat) (sa sb : Word)
  | cpyr (tile : Nat) (sa sb : Word) (put : Bool) (policy : Nat)
  | cpye (sa sb sc : Word) (tier policy : Nat) (toExp : Bool)
  | trel (tile : Nat)
  | qbind (q bind : Nat) (sa sb sc : Word)
  | qunb (q bind : Nat)
  | qfence (mask scope : Nat)
  | marker (part page : Nat)
deriving DecidableEq, Repr

/-- The D word a C word carries, with what it captured at its owner's enqueue (R50). -/
structure Carried where
  op : DOp
  addr : Word
  tok : BitVec 4
  ts : Bool
  guard : Option GuardRef
deriving DecidableEq, Repr

/-- What a queued command does. -/
inductive Payload where
  | v (c : VCmd)
  | d (op : DOp)
  | c (op : COp) (carried : Option Carried)
deriving DecidableEq, Repr

/-- Where a command stands in a LOOPB (R201, R203): the loop (0 none) and its iteration, the nested loop (0 none) and its
iteration. -/
structure LoopAt where
  loop : Nat
  iter : Nat
  sub : Nat
  inner : Nat
deriving DecidableEq, Repr

/-- A queue entry (R194-R196). `tok` holds the waits [3:2] and posts [1:0] still to be made; `waited` marks stage 2 as
passed, `done` that the command is performed and only posts remain, `begun` a copy in progress, `dropped` a command
marked discarded; `seq` orders the enqueues of the strand over all three
queues, `lp` is its place in a LOOPB, `idx` the format-table index its select bit 1 names (R48), `on` the tile a D command waits for
(64 none), `since` the core cycle its present wait began (R198), `kindS` marks a copy that touches kind-S pages (R285). -/
structure Cmd where
  pay : Payload
  addr : Word
  tok : BitVec 4
  guard : Option GuardRef
  repk : Nat
  ts : Bool
  seq : Nat
  lp : LoopAt
  idx : Nat
  since : Nat
  on : Nat
  waited : Bool
  begun : Bool
  done : Bool
  dropped : Bool
  kindS : Bool
deriving DecidableEq, Repr

/-- A nested LOOPB share (R203): its commands, those left in the current iteration, count, iteration and skew. -/
structure Inner where
  id : Nat
  cmds : List Cmd
  todo : List Cmd
  count : Nat
  iter : Nat
  skew : Nat
deriving DecidableEq, Repr

/-- A body item of an outer LOOPB share. -/
inductive BodyItem where
  | cmd (c : Cmd)
  | inner (i : Inner)
deriving DecidableEq, Repr

/-- An outer LOOPB share (R201): body, what is left of the current iteration, count, iteration and skew. -/
structure Outer where
  id : Nat
  body : List BodyItem
  todo : List BodyItem
  count : Nat
  iter : Nat
  skew : Nat
deriving DecidableEq, Repr

/-- What stands in an engine queue: a command, or the remainder of a LOOPB share. -/
inductive Item where
  | cmd (c : Cmd)
  | outer (o : Outer)
deriving DecidableEq, Repr

/-- An engine queue (R194): the command at its head as far as it has come through R196, what stands behind it, whether
a fault has stopped it (R165), and the entries an open window retains (R237). -/
structure Queue where
  cur : Option Cmd
  items : List Item
  stopped : Bool
  retained : List Cmd
deriving DecidableEq, Repr

/-- The lanes of a GAMO whose requests are on their way (R137, R269): the number its requests carry, how many are unanswered, the
old values that have come, under grid index and lane, and the lowest lane that was refused, with its fault and address. -/
structure Atoms where
  id : Nat
  left : Nat
  got : List ((Nat × Nat) × W32)
  bad : Option ((Nat × Nat) × Nat × Word)
deriving DecidableEq, Repr

/-- One decoded element group: the value in each grid cell, the fault a pop meets (code and address, R232), and the
address of a poisoned byte it holds. -/
structure Group where
  data : List VReg
  fault : Option (Nat × Word)
  poison : Option Word
deriving DecidableEq, Repr

/-- A lane of a global V access that is still to be performed: grid index, lane, task address, physical address, page kind, size, and when
it was issued (R391). -/
structure LaneReq where
  g : Nat
  j : Nat
  va : Word
  pa : Nat
  kind : Nat
  size : Nat
  issued : Nat
deriving DecidableEq, Repr

/-- A V result issued (R109, R114): its command, the destination, the lanes it writes in each package cell, the V cycle from which
readers find it, whether they wait for it (R110), whether it stores to memory, its flags, its mailbox value, the token posts
still to be made, and whether it is performed; the poisoned byte a load or an atomic met (R115), how many V commands have issued
since, the lanes of a GAMO under way, the lanes that a global load still has to read or an atomic to perform (R115, R280), and the stream
groups it has popped (R115). This is also the replay buffer's record of it (R178). -/
structure Flight where
  cmd : Cmd
  dst : VDst
  lanes : List (Nat × BitVec 16)
  due : Nat
  inter : Bool
  store : Bool
  flags : BitVec 5
  mb : Option Word
  tok : BitVec 4
  landed : Bool
  poison : Option Word
  later : Nat
  atoms : Option Atoms
  reads : List LaneReq
  pops : List (Nat × Nat × Group)
deriving DecidableEq, Repr

/-! ### Tiles and streams (R208-R233) -/

/-- Tile states (R209). -/
inductive TState where
  | empty
  | filling
  | ready
  | draining
deriving DecidableEq, Repr

/-- The fill record of a tile (R239): far address, pattern, rind policy, and the command that filled it. -/
structure FillRec where
  far : Word
  pat : Word
  policy : Nat
  cop : Nat
deriving DecidableEq, Repr

/-- A tile-table entry (R25, R208); length 0 means never defined. Base and length in 64-byte units. -/
structure Tile where
  st : TState
  base : Nat
  len : Nat
  span : Nat
  tag : Nat
  fill : Option FillRec
deriving DecidableEq, Repr

/-- A stream register (R231-R233): its binding number, pattern and transform, the groups decoded and not popped, and the
index of the next group to decode. -/
structure Stream where
  bound : Bool
  bind : Nat
  base : Nat
  pat : Word
  xform : Word
  total : Nat
  next : Nat
  fifo : List Group
deriving DecidableEq, Repr

/-! ### Dot state (R25, R155, R156) -/

/-- A permutation table (Table 6.7). -/
structure PermTable where
  order : List Nat
  ends : List Nat
  header : BitVec 128
  row : Nat
  valid : Bool
  nan : Bool
deriving DecidableEq, Repr

/-- A running-sum register (R156). `exact` and `mag` are the model's own, from which the bound of R161 is formed (log 15): for each code
the exact sum of the activations it adds, before the window's truncation, and the exact sum of their magnitudes. -/
structure RunSum where
  s : List (BitVec 64)
  x : BitVec 8
  exact : List (Int × Int)
  mag : List (Int × Int)
deriving DecidableEq, Repr

/-! ### Traps, windows, parks -/

/-- A command by its enqueue number, its place in a LOOPB and its REP issue. -/
structure CmdId where
  seq : Nat
  lp : LoopAt
  repk : Nat
deriving DecidableEq, Repr

/-- A fault pending until the next boundary (R165): Table 7.1 fields, the queue it stopped, its place among the pending faults, the
faulting command's place in a LOOPB, and `own`: it is the fault of the word that the sequencer stands at (R306). -/
structure PendFault where
  code : Nat
  src : Nat
  issued : Nat
  addr : Word
  trec2 : Word
  repk : Nat
  seq : Nat
  lp : LoopAt
  own : Bool
deriving DecidableEq, Repr

/-- The checkpoint of a window (R236), with the names that stand for streams and their bindings (R20, log 100). -/
structure Checkpoint where
  pc : Word
  regs : List Word
  wp : Nat
  vwp : Nat
  guards : List Guard
  loops : List LoopLevel
  rep : RepState
  qname : List Bool
  qbinds : List Nat
deriving DecidableEq, Repr

/-- The D snapshot (R236): accumulators and type bits, permutation tables, running sums, the format table and the tile
configuration. -/
structure DSnap where
  acc : SMap W32
  accInt : SMap Bool
  pt : SMap PermTable
  rs : SMap RunSum
  ft : List Word
  shape : Nat
  kstep : Nat
deriving DecidableEq, Repr

/-- The C snapshot (R236): the tile table. -/
structure CSnap where
  tiles : SMap Tile
deriving DecidableEq, Repr

/-- What a command of the window replaced of a tile's bytes (R241): the grid index, the first byte's offset in the tower and their
number, the bytes under their offsets, and the poisoned ones. -/
structure TileSave where
  g : Nat
  off : Nat
  n : Nat
  bytes : Memory
  bad : SMap Bool
deriving DecidableEq, Repr

/-- What an engine word has enqueued (R240): its address, the commands by queue, and its REP issue, of a LOOPB its count. -/
structure Enqueued where
  addr : Word
  cmds : List (EngineQ × Payload)
  count : Nat
deriving DecidableEq, Repr

/-- An open command window (R235-R237): its first enqueue number, the units executed since the marker point, the
snapshots, the load log, the order in which its D and C commands were performed, what its tile writes replaced (log 39), what its engine
words enqueued, and whether it has been rolled back (R245). -/
structure Window where
  cp : Checkpoint
  startSeq : Nat
  units : Nat
  dsnap : Option DSnap
  csnap : Option CSnap
  loads : List Word
  order : List EngineQ
  undo : List TileSave
  words : List Enqueued
  again : Bool
deriving DecidableEq, Repr

/-- A re-execution (R240): the units still to be executed again, the values its loads take, STATUS.INTRAP in it (a trap taken
meanwhile suspends it), and the entries that stand in for its engine words. -/
structure Reexec where
  left : Nat
  loads : List Word
  inTrap : Bool
  words : List Enqueued
deriving DecidableEq, Repr

/-- How far the containment of poison has come (R238, R239): nothing is done, the snapshots are back, the re-fetch has begun. -/
inductive Refetch where
  | found
  | restored
  | begun
deriving DecidableEq, Repr

/-- A rollback that has been decided and not yet carried out (R238): a mismatch, or poison in a tile with the fill record
it is fetched again from, its entry as it was found, and how far it has come; or a word executed again that differs from its entry
(R240), which nothing contains (R245). -/
inductive Rollback where
  | mismatch (addr : Word)
  | poison (tile : Nat) (byte : Word) (dword : Word) (fill : FillRec) (entry : Tile) (step : Refetch)
  | differs (addr : Word)
deriving DecidableEq, Repr

/-- A demand fault of a strand (R301, Table 16.3): the full faulting task address, kind, cause, source, and the virtual
address. -/
structure Park where
  va : Word
  kind : Nat
  cause : Nat
  src : Nat
deriving DecidableEq, Repr

/-- Why the word at the boundary waits (R164). -/
inductive Stall where
  | queueFull
  | token (t : Tok)
  | guardOpen
  | spill
  | interlock
  | mailbox
  | drain
  | fence
  | syncw
  | join
  | barrier (limit : Option Nat)
  | wfe (since : Nat)
  | inval
  | task
deriving DecidableEq, Repr

/-- A job of the spill engine (R14, R18): a scalar frame or a vector block, out to or in from the region. -/
inductive SpillJob where
  | frameOut (first k : Nat)
  | frameIn (first k : Nat)
  | blockOut (block k : Nat)
  | blockIn (block k : Nat)
deriving DecidableEq, Repr

/-- A scalar load, or an atomic (`amo`), outstanding at its home (R87, R268): destination, address, the word, its size,
whether later accesses wait for it as an acquire, its place in a window's load log, when it was issued, whether its word
completes only with its answer (`held`), the value at its issue, and the strand's enqueue number then. -/
structure PendLoad where
  dest : Nat
  pa : Nat
  va : Word
  addr : Word
  kind : Nat
  size : Nat
  signed : Bool
  amo : Bool
  acq : Bool
  slot : Option (Nat × Nat)
  issued : Nat
  held : Bool
  early : Word
  seq : Nat
deriving DecidableEq, Repr

/-- A SPAWN that has left its core and on which its record's home has not yet acted (R321): its destination, the record's task and
physical addresses, and the die and the partition it is spawned for. -/
structure Spawning where
  dest : Nat
  va : Word
  pa : Nat
  die : Nat
  part : Nat
deriving DecidableEq, Repr

/-- A cached leaf of a far translator (R299). -/
structure TlbEntry where
  part : Nat
  page : Nat
  large : Bool
  leaf : Word
  retiring : Bool
deriving DecidableEq, Repr

/-- A declared extent as pinned at dispatch (R28, R332): descriptor fields, physical base and the leaf of each page. -/
structure Extent where
  units : Nat
  rd : Bool
  wr : Bool
  kind : Nat
  home : Nat
  g : Bool
  base : Nat
  leaves : List Word
  va : Nat
deriving DecidableEq, Repr

/-- A strand: one sequencer's state with its queues (chapters 1, 7, 9-11). System registers with no structure of their
own stand in `sys` under their index (Table 1.4). Scalar registers: physical 0-239, then s24-s31 at 240-247. `jobs` are the
transfers the word at the boundary waits for and `moved` those already made for it (R14, R164); `cyc` counts core cycles while
the strand is not held, `cyFrac` thousandths of one (R198); `stallAt` is where the present wait began; `wake` says that a token
counter or a sync bit has changed, or a resolution become visible, since a WFE began (R174); `boundary` that the strand stands at
a boundary for the press (R166); `replay` is the order in which a rolled back
window's D and C commands are still to be performed again, and `shadow` what their tiles held the first time (R241); `arrived` holds the HBM blocks of the copy at the C head whose bursts have landed, those of its write side one higher (R5); `arriving` holds the time and the enqueue number at which an arrival not
yet registered was made (R275); `relPend` is the scope of a `fence.rel` whose
release the next scalar store or AMO still has to meet (R289); `trapped` the command whose fault the trap record describes (R171);
`fresh` the posts made in core cycle `freshAt`, which no queue wait takes before the next cycle (R197); `vfrozen` that the V cycle stands
still for a V command that waits for its page (R179). -/
structure Strand where
  sid : Nat
  live : Bool
  part : Nat
  recAddr : Word
  die : Nat
  core : Nat
  field : Nat
  gang : Nat
  gidx : Nat
  forked : Bool
  atJoin : Bool
  pc : Word
  afterCall : Option Word
  sregs : SMap Word
  wp : Nat
  vwp : Nat
  resident : Nat
  vres : Nat
  sf : Nat
  vb : Nat
  spLen : Nat
  spBase : Nat
  jobs : List SpillJob
  moved : Nat
  sys : SMap Word
  bank : SMap W32
  ext : SMap Extent
  tok : Tokens
  guards : List Guard
  loops : List LoopLevel
  rep : RepState
  heldLoops : List LoopLevel
  vq : Queue
  dq : Queue
  cq : Queue
  loopDone : SMap Nat
  loopSeq : Nat
  seq : Nat
  flights : List Flight
  arrived : List Nat
  vcyc : Nat
  cyc : Nat
  cyFrac : Nat
  pend : List PendFault
  tiles : SMap Tile
  shape : Nat
  kstep : Nat
  qname : List Bool
  qbinds : List Nat
  streams : SMap Stream
  win : Option Window
  closer : Nat
  rollback : Option Rollback
  reexec : Option Reexec
  replay : List EngineQ
  shadow : List TileSave
  park : Option Park
  cheld : Option Park
  ctr : List TlbEntry
  loads : List PendLoad
  spawning : List Spawning
  relPend : Option Nat
  stall : Option Stall
  stallAt : Nat
  wake : Bool
  pendBit : Bool
  phase : Nat
  arriving : Option (Nat × Nat)
  ctxa : Nat
  deadline : Nat
  saveReq : Bool
  boundary : Bool
  saving : Bool
  trapped : Option CmdId
  fresh : Tokens
  freshAt : Nat
  vfrozen : Bool
deriving DecidableEq, Repr

/-! ### Memory system -/

/-- A rind (R224). -/
structure Rind where
  crc : W32
  addr : BitVec 48
  version : BitVec 16
deriving DecidableEq, Repr

/-- An entry of a home's write queue or a core's outbound buffer (R264, R282): a 64-byte line, the bytes it holds under
their physical addresses, the strand that wrote it, the page kind, the word that issued it, the strands that have
read it while it was queued (R283), when its word issued it (R275), and when it was sent (R391). -/
structure LineWrite where
  line : Nat
  bytes : List (Nat × Byte)
  sid : Nat
  kind : Nat
  addr : Word
  readers : List Nat
  issued : Nat
  sent : Nat
deriving DecidableEq, Repr

/-- One part of an atomic request (R269): who asked, the destination register (for a lane of a GAMO its number, grid index, lane and
address), and its operands. -/
structure AtomPart where
  sid : Nat
  dest : Nat
  lane : Option (Nat × Nat × Nat × Word)
  addr : Word
  b : Word
  e : Word
deriving DecidableEq, Repr

/-- An atomic request on its way to its home, possibly merged (R269). -/
structure AtomReq where
  op : Nat
  pa : Nat
  va : Word
  order : Nat
  scope : Nat
  operand : Word
  parts : List AtomPart
  issued : Nat
deriving DecidableEq, Repr

/-- The home's answer to a request (R270, R271): the old value, or poison or an error. -/
structure AtomReply where
  req : AtomReq
  old : Word
  fault : Option Nat
deriving DecidableEq, Repr

/-- A faulter joined to a fault-queue entry (R302): a strand and the source that waits. -/
structure Faulter where
  sid : Nat
  src : Nat
deriving DecidableEq, Repr

/-- A fault-queue entry (R302, Table 16.3). -/
structure FqEntry where
  idx : Nat
  part : Nat
  vpn : Nat
  claimed : Bool
  kind : Nat
  cause : Nat
  core : Nat
  field : Nat
  src : Nat
  faulters : List Faulter
deriving DecidableEq, Repr

/-- A fault held for want of an entry (R305). -/
structure HeldFault where
  part : Nat
  vpn : Nat
  kind : Nat
  cause : Nat
  core : Nat
  field : Nat
  who : Faulter
deriving DecidableEq, Repr

/-- A burst of a copy on the HBM calendar (R341, R342), a read or a write (`wr`). Times in tenths of a nanosecond of the HBM clock. -/
structure Burst where
  pa : Nat
  wr : Bool
  die : Nat
  core : Nat
  sid : Nat
  presented : Nat
  slot : Option Nat
  replays : Nat
  late : Bool
deriving DecidableEq, Repr

/-- A tower bank (Table 19.3, R346-R353); `by'` names the task that set the deferral (R348). -/
structure Bank where
  deferred : Bool
  by' : Nat
  strong : Bool
  creq : Bool
  inv : Bool
  cecnt : Nat
  stamp : Nat
  bad : Nat
  running : Bool
  bursts : Nat
  began : Nat
deriving DecidableEq, Repr

/-- A core (R354-R355, R184, R353): consumed wear in units of 2^-16, stress index, pending retirement and remap, its two
remap entries. -/
structure CoreState where
  wear : Nat
  stress : Nat
  retired : Bool
  rpend : Bool
  mpend : Bool
  remap0 : BitVec 16
  remap1 : BitVec 16
deriving DecidableEq, Repr

/-- A log entry of four words (Table 19.5, R437). -/
structure LogEntry where
  w0 : Word
  w1 : Word
  w2 : Word
  w3 : Word
deriving DecidableEq, Repr

/-- A ring of log entries: entries written so far, overwritten mark, and the slots. -/
structure Ring where
  next : Nat
  ovf : Bool
  slots : SMap LogEntry
deriving DecidableEq, Repr

/-- An entry of a violation log (R433, Table 1.5 VLOG). -/
structure VEntry where
  code : Nat
  version : Nat
  task : Nat
  addr : Word
deriving DecidableEq, Repr

/-- A partition's own state (R8, R398, R433, R436, R335). -/
structure Part where
  root : Nat
  fhrec : Word
  tvec : Word
  tpriv : Word
  hpend : Bool
  wear : Nat
  nextHandle : Nat
  vlog : List VEntry
  vovf : Bool
  flog : Ring
deriving DecidableEq, Repr

/-- A definition or reference of a loaded object (Table 20.3). -/
structure Symbol where
  name : List Byte
  weak : Bool
  va : Nat
  hash : List Byte
  kind : Nat
  live : Bool
deriving DecidableEq, Repr

/-- A loaded code object (R359-R368): text (virtual and physical base, words), literal map as the marked word numbers,
declared profiles, bank, symbols, and the handles its relocation slots are bound to. -/
structure CodeObj where
  part : Nat
  handle : Nat
  va : Nat
  pa : Nat
  words : Nat
  lits : List Nat
  vProf : Nat
  dProf : Nat
  cProf : Nat
  bankVa : Nat
  bank : SMap W32
  symbols : List Symbol
  binds : List Nat
  pages : List Nat
deriving DecidableEq, Repr

/-- A record the scheduler owns (R326): die, partition, task address, physical address, STATE, the time of its entry into
the ready queue, whether it has run, the strand that runs it, the place taken for its dispatch, and its words as read at the first
dispatch (R315). -/
structure RecEntry where
  die : Nat
  part : Nat
  va : Word
  pa : Nat
  state : Nat
  order : Nat
  hasRun : Bool
  missed : Bool
  sid : Nat
  staging : Option (Nat × Nat)
  words : List Word
deriving DecidableEq, Repr

/-- A resident region held in towers (R334). -/
structure Region where
  part : Nat
  tag : Nat
  die : Nat
  core : Nat
  field : Nat
  gang : Nat
  base : Nat
  len : Nat
  keep : Bool
  owner : Option Nat
deriving DecidableEq, Repr

/-- A context image (R336, Table 18.6): the strands of the gang, the grid cells' registers, dot state (permutation tables as the bytes
of Table 6.7) and saved tower bytes under their grid index, the sync bits of the share, the profile mask, where it stands, and the bytes the save area
held when the save was done: the digest matches while they are unchanged (log 13). -/
structure Image where
  part : Nat
  recVa : Word
  strands : List Strand
  vregs : SMap VReg
  preds : SMap (BitVec 16)
  acc : SMap W32
  accInt : SMap Bool
  pt : SMap (List Byte)
  rs : SMap RunSum
  tower : Memory
  bad : List Nat
  sync : Nat
  profiles : Nat
  area : List Nat
  digest : Memory
deriving DecidableEq, Repr

/-- A barrier domain (R273-R278); `doneAt` is when its last phase completed (R277). -/
structure Domain where
  level : Nat
  ident : Nat
  unit : Nat
  members : Nat
  live : List Nat
  gone : Nat
  arrived : Nat
  phase : Nat
  broken : Bool
  arrivedPkgs : List Nat
  doneAt : Nat
deriving DecidableEq, Repr

/-- A request of the launch transport as the hub holds it (Table 22.5): its kind, partition and die, and its payload. -/
structure HubRequest where
  kind : Nat
  part : Nat
  die : Nat
  payload : List Byte
deriving DecidableEq, Repr

/-- A reply datagram of the hub (R393, R394): the header with its tag, the status in the header's bytes 24 to 31, and the detail bytes. -/
structure Reply where
  header : Header
  status : Nat
  detail : List Byte
deriving DecidableEq, Repr

/-- A launch transport session (R396-R397): its number and partition, the session key, the number it expects next, the replies kept, and the
requests held ahead of a gap since a time. -/
structure Session where
  num : Nat
  part : Nat
  key : List Byte
  next : Nat
  replies : List Reply
  held : List (Nat × HubRequest)
  since : Nat
deriving DecidableEq, Repr

/-- A scale-up link (Table 24.2). -/
structure Link where
  state : Nat
  retrains : Nat
  replays : Nat
  streak : Nat
  fails : Nat
deriving DecidableEq, Repr

/-- What the home answers to a request of another package (R418): bytes read, a word, done, or an error with its code. -/
inductive RemoteAnswer where
  | data (bs : List Byte)
  | old (w : Word)
  | done
  | error (code : Nat)
deriving DecidableEq, Repr

/-- The hub (chapters 22 and 24): expander port, die link, power, measurements, package numbers, time base. `coming` holds the links that a warm
reset has still to retrain, in their order: a channel under its number, the die link as 256, a scale-up link behind it (R401);
`resetIso` says that the isolation is a warm reset's, which the SMP's own enumeration ends too (R400); `cert` is the certificate of
the non-volatile store and `ident` the public identity key (R403); `nextStep` is the earliest time of the next clock step (R404). -/
structure Hub where
  iso : Bool
  resetIso : Bool
  coming : List Nat
  unisoReq : Bool
  up : Bool
  devs : List Nat
  width : Nat
  tmocnt : Nat
  tmo : Nat
  d2dStreak : Nat
  d2dFails : Nat
  d2dDown : Bool
  power : Nat
  clock : Nat
  tj : Nat
  bootfail : Nat
  throt : Nat
  throtWin : Nat
  powered : Bool
  meas : SMap (List Byte)
  seed : List Byte
  cert : List Byte
  ident : List Byte
  nextStep : Nat
  quotes : List (List Byte)
  pkg : Nat
  domain : Nat
  fabTmo : Nat
  links : SMap Link
  windows : SMap Word
  groups : SMap (List Nat)
  unreach : SMap Bool
  served : List (Nat × Nat × RemoteAnswer × Nat)
  timeState : Nat
  timeOff : Int
  timeCfg : Word
  timeLast : Nat
  timeMeas : Int
  timeCorr : Int
  lastStore : Nat
  nvWear : SMap Nat
deriving DecidableEq, Repr

/-- A channel of HBM (R263, R342, R387); `taken` and `fineLast` hold under a slot's number one more than the start of the slot that was last
taken, and last given to a fine batch; `patrol` is the block its patrol scrub comes to next (R343), `fineFails` the failed transfers of its
present fine batch (R386). -/
structure Chan where
  retraining : Bool
  fails : Nat
  failed : Bool
  taken : SMap Nat
  fineLast : SMap Nat
  patrol : Nat
  fineFails : Nat
deriving DecidableEq, Repr

/-- Whose turn a step is: the sequencer of the executing strand, another strand becoming the executing one, or an event.
`dt` is the time that passes before the turn, in ns. -/
inductive Act where
  | sequencer
  | select (n : Nat)
  | event (i : Instr)
deriving DecidableEq, Repr

/-- One turn of the agenda (log 4). -/
structure Turn where
  dt : Nat
  act : Act
deriving DecidableEq, Repr

/-- The state of the package. `syncUpd` holds, under core * 8 + bit, one more than the time of the last update of a core's sync bit and the
core field that made it (R193); `lehr` the values written to a die's LEHRCFG, each with the TIME of its store, the last first (R357). `unloads` holds the unloads under way, by partition and handle, with the pages that leave the translators (R367). `resume` holds the strands and sources whose page has come, in parking order (R306, R312). -/
structure State where
  st : Strand
  others : List Strand
  agenda : List Turn
  late : List Bool
  freeCtr : Nat
  time : Nat
  nextSid : Nat
  mem : Memory
  poison : SMap Bool
  rinds : SMap Rind
  vregs : SMap VReg
  preds : SMap (BitVec 16)
  acc : SMap W32
  accInt : SMap Bool
  pt : SMap PermTable
  rs : SMap RunSum
  span : SMap Nat
  banks : SMap Bank
  sync : SMap (BitVec 8)
  syncUpd : SMap (Nat × Nat)
  outbound : SMap (List LineWrite)
  homeq : SMap (List LineWrite)
  net : List AtomReq
  replies : List AtomReply
  tlb : SMap (List TlbEntry)
  fq : SMap (List FqEntry)
  held : SMap (List HeldFault)
  resume : List Faulter
  disarmed : SMap Bool
  fovf : SMap Bool
  domains : List Domain
  cores : SMap CoreState
  partOf : SMap Nat
  parts : SMap Part
  objects : List CodeObj
  unloads : List (Nat × Nat × List Nat)
  recs : List RecEntry
  regions : List Region
  images : List Image
  bursts : List Burst
  chans : SMap Chan
  hbmCnt : SMap Nat
  rowCtr : SMap Nat
  openRow : SMap Nat
  lehr : SMap (List (Nat × Word))
  cethr : SMap Nat
  errcnt : SMap Nat
  logs : SMap Ring
  hub : Hub
  sessions : List Session
  out : List Reply
deriving DecidableEq, Repr

/-- What stops the machine. -/
inductive Fault where
  /-- Raised by `step` when every clock is stopped or the supply is lost (R405, POWER_FAILURE, R402's failed boot): no
  agent moves until a cold reset. Safe: the manual says nothing runs. -/
  | packageStopped
deriving DecidableEq, Repr

/-- What the model has no meaning for. -/
inductive Refusal where
  /-- an instruction with no meaning yet, by its mnemonic; raised by exec alone. Safe. -/
  | notModelled (mnemonic : String)
deriving DecidableEq, Repr

/-! ### Reset (R400, cold) -/

/-- A guard slot at dispatch: false, generation 0 (R28). -/
def Guard.initial : Guard := ⟨.no, 0, [], true⟩

/-- g0 to g7 at dispatch (R22, R28). -/
def guardsInit : List Guard := ⟨.yes, 0, [], true⟩ :: List.replicate 7 Guard.initial

def Queue.empty : Queue := ⟨none, [], false, []⟩

def RepState.none : RepState := ⟨0, 0, 0, 0, 0⟩

/-- A field with no task: every register zero but TVEC, whose space field reads 15 (Table 1.5, log 2). -/
def Strand.idle : Strand :=
  { sid := 0, live := false, part := 0, recAddr := 0, die := 0, core := 0, field := 0, gang := 0, gidx := 0,
    forked := false, atJoin := false, pc := 0, afterCall := none, sregs := [], wp := 0, vwp := 0, resident := 1,
    vres := 3, sf := 0, vb := 0, spLen := 0, spBase := 0, jobs := [], moved := 0, sys := [(0x048, BitVec.ofNat 64 (15 * 2 ^ 60))], bank := [], ext := [],
    tok := ⟨0, 0, 0, 0, 0, 0⟩, guards := guardsInit, loops := [], rep := RepState.none, heldLoops := [],
    vq := Queue.empty, dq := Queue.empty, cq := Queue.empty, loopDone := [], loopSeq := 0, seq := 0, flights := [], arrived := [],
    vcyc := 0, cyc := 0, cyFrac := 0, pend := [], tiles := [], shape := 0, kstep := 32, qname := [false, false, false, false],
    qbinds := [0, 0, 0, 0], streams := [], win := none, closer := 0, rollback := none, reexec := none, replay := [], shadow := [], park := none,
    cheld := none, ctr := [], loads := [], spawning := [], relPend := none, stall := none, stallAt := 0, wake := false, pendBit := false, phase := 0, arriving := none, ctxa := 0,
    deadline := 2 ^ 64 - 1, saveReq := false, boundary := false, saving := false, trapped := none, fresh := ⟨0, 0, 0, 0, 0, 0⟩,
    freshAt := 0, vfrozen := false }

/-- The hub at cold reset (Tables 22.3, 22.6, 24.2). -/
def Hub.reset : Hub :=
  { iso := false, resetIso := false, coming := [], unisoReq := false, up := false, devs := [], width := 0, tmocnt := 0, tmo := 100, d2dStreak := 0, d2dFails := 0,
    d2dDown := false, power := 0, clock := 1700, tj := 0, bootfail := 0, throt := 0, throtWin := 0, powered := true, meas := [],
    seed := [], cert := [], ident := [], nextStep := 0, quotes := [], pkg := 0, domain := 0, fabTmo := 50, links := [], windows := [], groups := [],
    unreach := [], served := [], timeState := 0, timeOff := 0, timeCfg := 0, timeLast := 0, timeMeas := 0, timeCorr := 0,
    lastStore := 0, nvWear := [] }

/-- The package right after a cold reset: memory lists nothing, no partition is configured, no task runs (R400, R401). -/
def State.reset : State :=
  { st := Strand.idle, others := [], agenda := [], late := [], freeCtr := 0, time := 0, nextSid := 1, mem := [],
    poison := [], rinds := [], vregs := [], preds := [], acc := [], accInt := [], pt := [], rs := [], span := [],
    banks := [], sync := [], syncUpd := [], outbound := [], homeq := [], net := [], replies := [], tlb := [], fq := [], held := [], resume := [],
    disarmed := [], fovf := [], domains := [], cores := [], partOf := [], parts := [], objects := [], unloads := [], recs := [],
    regions := [], images := [], bursts := [], chans := [], hbmCnt := [], rowCtr := [], openRow := [], lehr := [],
    cethr := [], errcnt := [], logs := [], hub := Hub.reset, sessions := [], out := [] }

end Sys2Proof.Machine
end

