-- ==== Sys2Proof/Machine/Base.lean ====
section
/-! DEFINITION. Sparse data in canonical form, memory as such data, bit fields, and the parts of the state by name:
cells of a grid (R11, R107, R183), strands by number, clusters and homes (R260, R262). -/

namespace Sys2Proof.Machine

/-! ### Sparse data -/

/-- The value under key k; an unlisted key holds d. -/
def SMap.get {α : Type} (d : α) : SMap α → Nat → α
  | [], _ => d
  | (j, v) :: t, k => if k = j then v else SMap.get d t k

/-- An entry put in its place among rising keys. -/
def SMap.insert {α : Type} : SMap α → Nat → α → SMap α
  | [], k, v => [(k, v)]
  | (j, w) :: t, k, v => if k < j then (k, v) :: (j, w) :: t else (j, w) :: SMap.insert t k v

/-- Stores v under key k, keeping keys rising and listing no value equal to d. -/
def SMap.set {α : Type} [DecidableEq α] (d : α) (m : SMap α) (k : Nat) (v : α) : SMap α :=
  let r := m.filter fun e => e.1 != k
  if v = d then r else SMap.insert r k v

/-- Keys strictly rising above lo, no entry equal to d. -/
def SMap.wfFrom {α : Type} [DecidableEq α] (d : α) : Nat → SMap α → Bool
  | _, [] => true
  | lo, (j, w) :: t => decide (lo ≤ j) && decide (w ≠ d) && SMap.wfFrom d (j + 1) t

/-- The canonical form of sparse data. -/
def SMap.wf {α : Type} [DecidableEq α] (d : α) (m : SMap α) : Bool := SMap.wfFrom d 0 m

/-- Removes every key in [lo, lo + n). -/
def SMap.clear {α : Type} (m : SMap α) (lo n : Nat) : SMap α := m.filter fun e => !(decide (lo ≤ e.1) && decide (e.1 < lo + n))

/-- The canonical form of memory: addresses rising, no byte equal to what an unlisted address reads as (log 1). -/
def Memory.wf (m : Memory) : Bool := SMap.wf (0 : Byte) m

/-- One byte of memory. -/
def Memory.byte (m : Memory) (a : Nat) : Byte := SMap.get (0 : Byte) m a

/-- Stores one byte. -/
def Memory.put (m : Memory) (a : Nat) (b : Byte) : Memory := SMap.set (0 : Byte) m a b

/-- Bytes a, a+1, ... -/
def Memory.bytes (m : Memory) (a n : Nat) : List Byte := (List.range n).map fun i => m.byte (a + i)

/-- Stores bytes at a, a+1, ... -/
def Memory.putAll (m : Memory) (a : Nat) : List Byte → Memory
  | [] => m
  | b :: t => Memory.putAll (m.put a b) (a + 1) t

/-! ### Bit fields -/

/-- Bits [lo+n-1 : lo] of a natural number. -/
def bitsOf (x lo n : Nat) : Nat := x / 2 ^ lo % 2 ^ n

/-- Bits [lo+n-1 : lo] of a word as a number. -/
def bf (w : Word) (lo n : Nat) : Nat := bitsOf w.toNat lo n

/-- One bit. -/
def wbit (w : Word) (i : Nat) : Bool := bf w i 1 == 1

/-- A number as a word. -/
def word (n : Nat) : Word := BitVec.ofNat 64 n

/-- A truth value as a number. -/
def b2n (b : Bool) : Nat := if b then 1 else 0

/-- The bits [lo+n-1 : lo] of w replaced by v. -/
def setBf (w : Word) (lo n v : Nat) : Word :=
  word (w.toNat - bitsOf w.toNat lo n * 2 ^ lo + v % 2 ^ n * 2 ^ lo)

/-- The element at index i replaced. -/
def setAt {α : Type} (l : List α) (i : Nat) (v : α) : List α := l.set i v

/-- The first element that meets p, and the list without it. -/
def takeFirst {α : Type} (p : α → Bool) : List α → Option (α × List α)
  | [] => none
  | x :: t =>
    if p x then some (x, t)
    else match takeFirst p t with
      | some (y, u) => some (y, x :: u)
      | none => none

/-- Applies f to each element in order. -/
def foldOver {α : Type} (l : List α) (s : State) (f : State → α → State) : State := l.foldl f s

/-! ### Time -/

/-- TIME, the 1588 system time in ns (index 0x00A). -/
def State.now (s : State) : Nat := (((s.time : Int) + s.hub.timeOff) % (2 ^ 64 : Int)).toNat

/-- Core cycles in n ns at the governor's clock in MHz, at least one. -/
def cyOf (clockMHz ns : Nat) : Nat := max 1 (ns * clockMHz / 1000)

/-! ### Strands -/

/-- Whether a strand number is the executing one. -/
def State.isCur (s : State) (sid : Nat) : Bool := s.st.live && s.st.sid == sid

/-- A live strand by number. -/
def State.strand (s : State) (sid : Nat) : Option Strand :=
  if s.isCur sid then some s.st else s.others.find? (·.sid == sid)

/-- Changes a live strand by number. -/
def State.mod (s : State) (sid : Nat) (f : Strand → Strand) : State :=
  if s.isCur sid then { s with st := f s.st }
  else { s with others := s.others.map fun t => if t.sid == sid then f t else t }

/-- Every live strand. -/
def State.strands (s : State) : List Strand := (if s.st.live then [s.st] else []) ++ s.others

/-- Changes every live strand. -/
def State.modAll (s : State) (f : Strand → Strand) : State :=
  { s with st := if s.st.live then f s.st else s.st, others := s.others.map f }

/-- Removes a strand; the executing place becomes idle. -/
def State.drop (s : State) (sid : Nat) : State :=
  if s.isCur sid then { s with st := Strand.idle } else { s with others := s.others.filter (·.sid != sid) }

/-- Another strand becomes the executing one. -/
def State.select (s : State) (n : Nat) : State :=
  match takeFirst (·.sid == n) s.others with
  | some (t, rest) => { s with st := t, others := if s.st.live then rest ++ [s.st] else rest }
  | none => s

/-- Another strand is the executing one while f runs. -/
def State.onStrand (s : State) (sid : Nat) (f : State → State) : State :=
  if s.isCur sid then f s else State.select (f (s.select sid)) s.st.sid

/-! ### Geometry -/

/-- Fields of a gang code. -/
def gangFields (g : Nat) : Nat := if g == 0 then 1 else if g == 1 then 2 else 4

/-- The grid's width and height (R107). -/
def Strand.width (st : Strand) : Nat := if st.forked || st.gang == 0 then 4 else 8
def Strand.height (st : Strand) : Nat := if st.forked || st.gang != 2 then 4 else 8

/-- Cells of the grid. -/
def Strand.cellCount (st : Strand) : Nat := st.width * st.height

/-- Package index of a core: die * 256 + core. -/
def coreIndex (die core : Nat) : Nat := die * 256 + core

/-- R298: package cell index of a core cell. -/
def cellIndex (die core cell : Nat) : Nat := die * 16384 + core * 64 + cell

/-- The package cell at grid index g (R183, R185). -/
def Strand.cell (st : Strand) (g : Nat) : Nat :=
  let x := g % st.width
  let y := g / st.width
  cellIndex st.die st.core (8 * (y + 4 * (st.field / 2)) + x + 4 * (st.field % 2))

/-- The cells of the grid in grid order. -/
def Strand.grid (st : Strand) : List Nat := (List.range st.cellCount).map st.cell

/-- The anchor cell (R11). -/
def Strand.anchor (st : Strand) : Nat := st.cell 0

/-- R260: the cluster of a core within its die. -/
def clusterOfCore (core : Nat) : Nat := (core % 16) / 2 + 8 * ((core / 16) / 4)

/-- R260: the position of a core within its cluster. -/
def posInCluster (core : Nat) : Nat := core % 2 + 2 * ((core / 16) % 4)

/-- Package cluster number: die * 32 + cluster. -/
def clusterIndex (die core : Nat) : Nat := die * 32 + clusterOfCore core

def Strand.cluster (st : Strand) : Nat := clusterIndex st.die st.core

/-! ### Keys of per-cell state (R16, R21, R25) -/

/-- Vector register p of a cell. -/
def vKey (cell p : Nat) : Nat := cell * 128 + p

/-- Predicate n of a cell; n counts 0-15. -/
def pKey (cell n : Nat) : Nat := cell * 16 + n

/-- Element i of accumulator t of a cell. -/
def accKey (cell t i : Nat) : Nat := (cell * 16 + t) * 256 + i

/-- Accumulator type bit t, permutation table t, running sum t of a cell. -/
def tKey (cell t : Nat) : Nat := cell * 16 + t

/-- The entries of sparse data with keys in [cell * n, cell * n + n). -/
def SMap.ofCell {α : Type} (m : SMap α) (n cell : Nat) : SMap α := m.filter fun e => e.1 / n == cell

/-- The entries of a list of cells, under their places in the list. -/
def SMap.pack {α : Type} [DecidableEq α] (d : α) (m : SMap α) (n : Nat) (cells : List Nat) : SMap α :=
  m.foldl (fun r e => match cells.idxOf? (e.1 / n) with
    | some g => SMap.set d r (g * n + e.1 % n) e.2
    | none => r) []

/-- The map without the entries of a list of cells. -/
def SMap.dropCells {α : Type} (m : SMap α) (n : Nat) (cells : List Nat) : SMap α := m.filter fun e => !cells.contains (e.1 / n)

/-- The entries of a packed map laid under the cells of a list. -/
def SMap.unpack {α : Type} [DecidableEq α] (d : α) (m r : SMap α) (n : Nat) (cells : List Nat) : SMap α :=
  m.foldl (fun r e => SMap.set d r (cells.getD (e.1 / n) 0 * n + e.1 % n) e.2) r

/-! ### Physical addresses (R298) -/

/-- Physical address of a byte of a cell's tower. -/
def towerPA (cell off : Nat) : Nat := 255 * 2 ^ 48 + 2 ^ 45 + cell * 2 ^ 21 + off

/-- Physical address of an HBM byte of this package. -/
def hbmPA (off : Nat) : Nat := 255 * 2 ^ 48 + off

def paPackage (pa : Nat) : Nat := bitsOf pa 48 8
def paSpace (pa : Nat) : Nat := bitsOf pa 45 3
def paOffset (pa : Nat) : Nat := bitsOf pa 0 45

/-- The cell a tower address names. -/
def paCell (pa : Nat) : Nat := bitsOf pa 21 15

/-- A scale-up link as cold reset leaves it (Table 24.2). -/
def Link.initial : Link := ⟨0, 0, 0, 0, 0⟩

/-- R417: the scale-up links that are up. -/
def State.liveLinks (s : State) : List Nat := (List.range 36).filter fun l => (SMap.get Link.initial s.hub.links l).state == 2

/-- Whether a physical address lies in this package's HBM. -/
def paIsHbm (pa : Nat) : Bool := pa < 2 ^ 56 && paPackage pa == 255 && paSpace pa == 0

/-- Whether a physical address lies in a tower of this package. -/
def paIsTower (pa : Nat) : Bool := pa < 2 ^ 56 && paPackage pa == 255 && paSpace pa == 1

/-- R339: the package channel of an HBM address. -/
def paChannel (pa : Nat) : Nat := bitsOf pa 8 8

/-- The home of a physical address (R262): a tower controller, a home slice, the expander port, control, or a remote
package. -/
def homeOf (pa : Nat) : Nat :=
  if paPackage pa != 255 then 66000 + paPackage pa
  else if paSpace pa == 1 then paCell pa
  else if paSpace pa == 0 then 32768 + paChannel pa
  else if paSpace pa == 2 then 65000
  else 65001

/-- Whether the home lies in a core (die * 256 + core). -/
def homeInCore (core pa : Nat) : Bool := paIsTower pa && paCell pa / 64 == core

end Sys2Proof.Machine
end

