-- ==== Sys2Proof/Machine/Space.lean ====
section
/-! DEFINITION. Memory as accesses meet it: poison units (R435), write queues and outbound buffers (R264, R282), the
page-table walk (R296-R299), task addresses (R30) and the checks of Table 4.5. -/

namespace Sys2Proof.Machine

/-! ### Banks and poison -/

/-- R212: the bank that serves an offset under a span code. -/
def bankOf (span off : Nat) : Nat :=
  let x := if span < 6 then bitsOf off (9 + span) 4 else 0
  (bitsOf off 5 4 ^^^ x) % 16

/-- The span code of the stripe of a cell that holds an offset (R212); 6 where never written. -/
def State.spanAt (s : State) (cell off : Nat) : Nat := SMap.get 6 s.span (cell * 4096 + off / 512)

/-- A bank at reset (Table 19.3). -/
def Bank.initial : Bank := ⟨false, 0, false, false, false, 0, 0, 0, false, 0, 0⟩

/-- Bank b of a package cell. -/
def State.bankAt (s : State) (cell b : Nat) : Bank := SMap.get Bank.initial s.banks (cell * 16 + b)

def State.setBank (s : State) (cell b : Nat) (v : Bank) : State :=
  { s with banks := SMap.set Bank.initial s.banks (cell * 16 + b) v }

/-- The bank a tower address falls in. -/
def State.bankOfPA (s : State) (pa : Nat) : Bank :=
  s.bankAt (paCell pa) (bankOf (s.spanAt (paCell pa) (pa % 2 ^ 21)) (pa % 2 ^ 21))

/-- R352: a reclaimed word of a strong bank answers with an error. -/
def State.reclaimed (s : State) (pa : Nat) : Bool :=
  paIsTower pa && decide (0x1E0000 ≤ pa % 2 ^ 21) && (s.bankOfPA pa).strong

/-- R352: a byte of a range of a tower lies in reclaimed words. -/
def State.reclaimedIn (s : State) (cell off n : Nat) : Bool :=
  decide (0x1E0000 < off + n) && (List.range (n / 32 + 2)).any fun i => s.reclaimed (towerPA cell (min (off + 32 * i) (off + n - 1)))

/-- R435: the bytes of a poison unit: 64 at the expander, 8 elsewhere. -/
def unitSize (pa : Nat) : Nat := if paPackage pa == 255 && paSpace pa == 2 then 64 else 8

/-- The first address of the poison unit that holds pa. -/
def unitOf (pa : Nat) : Nat := pa - pa % unitSize pa

/-- Whether the array marks the unit of pa. In a bank invalid after warm reset (R349) a listed unit is one written
since. -/
def State.marked (s : State) (pa : Nat) : Bool :=
  let listed := SMap.get false s.poison (unitOf pa)
  if paIsTower pa && (s.bankOfPA pa).inv then !listed else listed

/-- Marks or clears the unit of pa. -/
def State.mark (s : State) (pa : Nat) (v : Bool) : State :=
  let v := if paIsTower pa && (s.bankOfPA pa).inv then !v else v
  { s with poison := SMap.set false s.poison (unitOf pa) v }

/-! ### Queued writes (R264, R282) -/

/-- The youngest queued value of a byte. -/
def queuedByte (q : List LineWrite) (pa : Nat) : Option Byte :=
  q.foldl (fun r e => match e.bytes.lookup pa with | some b => some b | none => r) none

/-- Whether one queued write covers a whole poison unit. -/
def queuedUnit (q : List LineWrite) (u size : Nat) : Bool :=
  q.any fun e => (List.range size).all fun i => (e.bytes.lookup (u + i)).isSome

/-- The write queue of a home. -/
def State.homeQ (s : State) (h : Nat) : List LineWrite := SMap.get [] s.homeq h

/-- The outbound buffer of a core (die * 256 + core). -/
def State.outQ (s : State) (core : Nat) : List LineWrite := SMap.get [] s.outbound core

/-- The bytes of `homeq` and memory: what a read returns at the home. -/
def State.homeByte (s : State) (pa : Nat) : Byte :=
  match queuedByte (s.homeQ (homeOf pa)) pa with
  | some b => b
  | none => s.mem.byte pa

/-- What a read by an issuer of a core returns: its outbound buffer forwards (R282). -/
def State.coreByte (s : State) (core pa : Nat) : Byte :=
  match queuedByte (s.outQ core) pa with
  | some b => b
  | none => s.homeByte pa

/-- n bytes from pa as the core's issuers read them. -/
def State.coreBytes (s : State) (core pa n : Nat) : List Byte := (List.range n).map fun i => s.coreByte core (pa + i)

/-- A buffered line holds a byte of the n from pa. -/
def LineWrite.overlaps (e : LineWrite) (pa n : Nat) : Bool := (List.range n).any fun i => (e.bytes.lookup (pa + i)).isSome

/-- A buffered line holds every byte of the n from pa. -/
def LineWrite.covers (e : LineWrite) (pa n : Nat) : Bool := (List.range n).all fun i => (e.bytes.lookup (pa + i)).isSome

/-- R264, R282: the buffer forwards to a read where the youngest entry that holds a byte of it holds every byte; where it does not,
the read waits until the entries that overlap it have left. -/
def State.outMixed (s : State) (core pa n : Nat) : Bool :=
  match ((s.outQ core).filter fun e => e.overlaps pa n).getLast? with
  | some e => !e.covers pa n
  | none => false

/-- The buffer forwards every byte of a read. -/
def State.outForwards (s : State) (core pa n : Nat) : Bool :=
  match ((s.outQ core).filter fun e => e.overlaps pa n).getLast? with
  | some e => e.covers pa n
  | none => false

/-- n bytes from pa as their homes hold them. -/
def State.homeBytes (s : State) (pa n : Nat) : List Byte := (List.range n).map fun i => s.homeByte (pa + i)

/-- A little-endian 64-bit word at its home. -/
def State.homeWord (s : State) (pa : Nat) : Word := word (bytesNat (s.homeBytes pa 8))

/-- Whether byte pa reads as poisoned to a core's issuers. -/
def State.corePoison (s : State) (core pa : Nat) : Bool :=
  s.marked pa && !queuedUnit (s.homeQ (homeOf pa)) (unitOf pa) (unitSize pa) &&
    !queuedUnit (s.outQ core) (unitOf pa) (unitSize pa)

/-- Whether byte pa reads as poisoned at its home. -/
def State.homePoison (s : State) (pa : Nat) : Bool :=
  s.marked pa && !queuedUnit (s.homeQ (homeOf pa)) (unitOf pa) (unitSize pa)

/-- The first poisoned byte of n from pa, for a core. -/
def State.firstPoison (s : State) (core pa n : Nat) : Option Nat :=
  ((List.range n).map (pa + ·)).find? fun a => s.corePoison core a

/-- The poison units that the bytes [pa, pa + n) touch. -/
def unitsOf (pa n : Nat) : List Nat := (((List.range n).map fun i => unitOf (pa + i))).dedup

/-- A block that holds no rind (R224). -/
def Rind.absent : Rind := ⟨0, BitVec.ofNat 48 (2 ^ 48 - 1), 0⟩

/-- R224: a block written without a rind holds none. -/
def dropRinds (m : SMap Rind) (bytes : List (Nat × Byte)) : SMap Rind :=
  if m.isEmpty then m else (bytes.map fun e => e.1 / 256).dedup.foldl (fun m b => SMap.set Rind.absent m b Rind.absent) m

/-- R435: one write of a byte list to the array: every unit it covers wholly is cleared; with `bad`, every unit it
touches is marked. -/
def State.arrayWrite (s : State) (bytes : List (Nat × Byte)) (bad : Bool) : State :=
  let mem := bytes.foldl (fun m e => Memory.put m e.1 e.2) s.mem
  let units := (bytes.map fun e => unitOf e.1).dedup
  units.foldl (fun s u =>
    if bad then s.mark u true
    else if (List.range (unitSize u)).all (fun i => (bytes.lookup (u + i)).isSome) then
      (if s.marked u then s.mark u false else s)
    else s) { s with mem := mem, rinds := dropRinds s.rinds bytes }

/-- Entries of a home's write queue (R264). -/
def homeDepth : Nat := 64

/-- Lines of an outbound buffer (R282). -/
def outDepth : Nat := 64

/-- R264: the home merges its oldest queued write into the array; one in another package has then answered (R418). The bytes of another
package that this one has written or read stand in `mem` under their physical addresses (log 20). -/
def State.mergeOldest (s : State) (h : Nat) : State :=
  match s.homeQ h with
  | [] => s
  | e :: t => State.arrayWrite { s with homeq := SMap.set [] s.homeq h t } e.bytes false

/-- What other packages have done meanwhile to n bytes from pa of another package: each byte may have been written, and the bytes may
have become poisoned, by free choices (R280, R418, log 20); nothing in this package. -/
def State.foreignWrite (s : State) (pa n : Nat) : State :=
  if paPackage pa == 255 || n == 0 then s
  else
    let w (i : Nat) : W32 := Config.free s.freeCtr (256 + i)
    let bytes := (List.range n).filterMap fun i => if (w i).getLsbD 8 then some (pa + i, (w i).setWidth 8) else none
    let t := s.arrayWrite bytes ((Config.free s.freeCtr 255).getLsbD 0)
    { t with freeCtr := s.freeCtr + 1 }

/-- Merges every write queued at a home, oldest first. -/
def State.mergeAll (s : State) (h : Nat) : State := (s.homeQ h).foldl (fun s _ => s.mergeOldest h) s

/-- A write enters the queue of its home and is performed there (R264, R282); a full queue first merges its oldest. A write
to the expander or another package stands here until it is answered (R391, R418). -/
def State.enterHome (s : State) (e : LineWrite) : State :=
  let h := homeOf e.line
  let s := if homeDepth ≤ (s.homeQ h).length then s.mergeOldest h else s
  { s with homeq := SMap.set [] s.homeq h (s.homeQ h ++ [{ e with sent := s.time }]) }

/-- The lines of a write, lowest address first. -/
def linesOf (bytes : List (Nat × Byte)) : List Nat := (bytes.map fun e => e.1 - e.1 % 64).dedup

/-- Entry n of a core's outbound buffer leaves for its home, unless an earlier entry holds the same line (R282). -/
def State.drainOut (s : State) (core n : Nat) : State :=
  match (s.outQ core)[n]? with
  | none => s
  | some e =>
    if ((s.outQ core).take n).any (·.line == e.line) then s
    else State.enterHome { s with outbound := SMap.set [] s.outbound core ((s.outQ core).eraseIdx n) } e

/-- Every buffered line of a core goes to its home. -/
def State.drainAll (s : State) (core : Nat) : State := (s.outQ core).foldl (fun s _ => s.drainOut core 0) s

/-- R282: a fine write of a core's issuer. Kinds R and U with a home outside the core go through the outbound buffer;
every other write goes to its home at once. -/
def State.fineWrite (s : State) (core sid kind : Nat) (addr : Word) (bytes : List (Nat × Byte)) : State :=
  (linesOf bytes).foldl (fun s line =>
    let e : LineWrite := ⟨line, bytes.filter (fun b => b.1 - b.1 % 64 == line), sid, kind, addr, [], s.time, s.time⟩
    if kind == 0 || homeInCore core line then s.enterHome e
    else
      let s := if outDepth ≤ (s.outQ core).length then s.drainOut core 0 else s
      { s with outbound := SMap.set [] s.outbound core (s.outQ core ++ [e]) }) s

/-- A write performed at its home directly: a copy, an atomic, a record, a spill. Earlier queued writes of the home go
first. -/
def State.directWrite (s : State) (bytes : List (Nat × Byte)) (bad : Bool) : State :=
  match bytes with
  | [] => s
  | _ =>
    let homes := (bytes.map fun e => homeOf e.1).dedup
    (homes.foldl (fun s h => s.mergeAll h) s).arrayWrite bytes bad

/-- Bytes laid from pa upwards. -/
def layout (pa : Nat) (bs : List Byte) : List (Nat × Byte) := (List.range bs.length).zip bs |>.map fun e => (pa + e.1, e.2)

/-- A 64-bit word written at its home. -/
def State.homeSet (s : State) (pa : Nat) (w : Word) : State := s.directWrite (layout pa (natBytes 8 w.toNat)) false

/-- A read by strand sid marks the outbound entries it took bytes from (R283: a release is cumulative). -/
def State.noteRead (s : State) (core sid pa n : Nat) : State :=
  { s with outbound := SMap.set [] s.outbound core ((s.outQ core).map fun e =>
      if e.sid != sid && (List.range n).any (fun i => (e.bytes.lookup (pa + i)).isSome) && !e.readers.contains sid
      then { e with readers := e.readers ++ [sid] } else e) }

/-! ### What is not yet performed (R282-R285) -/

/-- The package core of a strand. -/
def Strand.coreIdx (st : Strand) : Nat := coreIndex st.die st.core

/-- The sync bits of a core take new values; a change ends a WFE there (R174, R191). -/
def State.setSync (s : State) (core : Nat) (b : BitVec 8) : State :=
  State.modAll { s with sync := SMap.set 0 s.sync core b } fun t => { t with wake := t.wake || (t.coreIdx == core && b != SMap.get 0 s.sync core) }

/-- Writes sent to the expander or another package and not answered. -/
def State.farWrites (s : State) : List LineWrite := ((s.homeq.filter fun e => 65000 ≤ e.1).map Prod.snd).flatten

/-- R282, R283: a write not yet at its home that a release of the strand waits for: its own of a kind in `kinds`, or one whose bytes
it has read. -/
def State.releaseBlocked (s : State) (st : Strand) (kinds : List Nat) : Bool :=
  (s.farWrites ++ s.outQ st.coreIdx).any fun e => (e.sid == st.sid && kinds.contains e.kind) || e.readers.contains st.sid

/-- The copy at the C head has begun and is not performed. -/
def Strand.copying (st : Strand) : Option Cmd := match st.cq.cur with | some c => if c.begun && !c.done then some c else none | none => none

/-- The lanes of global loads and atomics of the strand that are still to be performed. -/
def Strand.vLanes (st : Strand) : List LaneReq := ((st.flights.filter fun f => !f.landed).map (·.reads)).flatten

/-- R285: an S access waits until every earlier access of the strand is performed at domain scope. -/
def State.sBlocked (s : State) (st : Strand) : Bool :=
  s.releaseBlocked st [0, 1, 2] || !st.loads.isEmpty || st.copying.isSome || !st.vLanes.isEmpty

/-- R285: an S access of the strand is not yet performed: no issuer of the strand issues a further access. -/
def State.sOpen (s : State) (st : Strand) : Bool :=
  st.loads.any (·.kind == 0) || st.vLanes.any (·.kind == 0) || (s.farWrites.any fun e => e.sid == st.sid && e.kind == 0) ||
    (match st.copying with | some c => c.kindS | none => false)

/-! ### Translation (R296-R299) -/

/-- A partition's own state where none is configured. -/
def Part.initial : Part := ⟨0, 0, word (15 * 2 ^ 60), 0, false, 0, 1, [], false, ⟨0, false, []⟩⟩

def State.part (s : State) (p : Nat) : Part := SMap.get Part.initial s.parts p

def State.setPart (s : State) (p : Nat) (v : Part) : State := { s with parts := SMap.set Part.initial s.parts p v }

/-- What a walk finds: a leaf and whether it maps a 512 MiB page, or nothing, with the cause of Table 16.3. -/
inductive Walk where
  | leaf (l : Word) (large : Bool)
  | absent (cause : Nat)
deriving DecidableEq, Repr

/-- The frame of an entry as a physical address. -/
def leafFrame (e : Word) : Nat := bf e 16 40 * 2 ^ 16

def leafKind (e : Word) : Nat := bf e 3 2
def leafHome (e : Word) : Nat := bf e 6 3

/-- R297, R298, R415: home class and frame agree, and G stands only where rinds are stored. -/
def leafOk (own : Nat) (e : Word) : Bool :=
  let pa := leafFrame e
  let pkg := paPackage pa
  let sp := paSpace pa
  bf e 56 8 == 0 && bf e 10 6 == 0 && leafKind e != 3 &&
  (match leafHome e with
   | 0 => pkg == 255 && sp == 0
   | 1 => pkg == 255 && sp == 1
   | 2 => pkg == 255 && sp == 2
   | 3 => pkg != 255 && pkg != own && (sp == 0 || sp == 1)
   | 4 => pkg == 255 && sp == 3
   | _ => false) &&
  !(wbit e 9 && (leafHome e == 1 || leafHome e == 2 || leafHome e == 4 || (leafHome e == 3 && sp == 1)))

/-- R297: a table descriptor whose next table lies in this package's HBM. -/
def tableOk (e : Word) : Bool :=
  bf e 56 8 == 0 && bf e 10 6 == 0 && leafKind e == 3 && bf e 5 5 / 16 == 0 && bf e 5 1 == 0 && bf e 6 4 == 0 && bf e 1 2 == 0 &&
  paIsHbm (leafFrame e) && decide (paOffset (leafFrame e) < Config.hbmBytes)

/-- Any poisoned byte of the entry (R297). -/
def State.entryPoison (s : State) (pa : Nat) : Bool := (List.range 8).any fun i => s.homePoison (pa + i)

/-- The walk of R296 over the tables as they stand at their homes. -/
def State.walk (s : State) (part va : Nat) : Walk :=
  let a1 := (s.part part).root + 8 * bitsOf va 42 13
  let e1 := s.homeWord a1
  if !wbit e1 0 then .absent 0
  else if s.entryPoison a1 then .absent 3
  else if !tableOk e1 then .absent 3
  else
    let a2 := leafFrame e1 + 8 * bitsOf va 29 13
    let e2 := s.homeWord a2
    if !wbit e2 0 then .absent 1
    else if s.entryPoison a2 then .absent 3
    else if leafKind e2 != 3 then
      (if leafOk s.hub.pkg e2 && bf e2 16 13 == 0 then .leaf e2 true else .absent 3)
    else if !tableOk e2 then .absent 3
    else
      let a3 := leafFrame e2 + 8 * bitsOf va 16 13
      let e3 := s.homeWord a3
      if !wbit e3 0 then .absent 2
      else if s.entryPoison a3 then .absent 3
      else if leafOk s.hub.pkg e3 then .leaf e3 false else .absent 3

/-- Whether a cached leaf maps va for a partition. -/
def TlbEntry.hit (t : TlbEntry) (part va : Nat) : Bool :=
  t.part == part && (if t.large then t.page == va / 2 ^ 29 else t.page == va / 2 ^ 16)

/-- The leaf of va through a cluster's translator: a cached leaf (a retiring one only for a copy ahead of the marker,
R292), else a walk. -/
def State.lookup (s : State) (cluster part va : Nat) (retiring : Bool) : Walk :=
  let hits := (SMap.get [] s.tlb cluster).filter fun t => t.hit part va
  match hits.find? (fun t => t.retiring && retiring), hits.find? (fun t => !t.retiring) with
  | some t, _ => .leaf t.leaf t.large
  | none, some t => .leaf t.leaf t.large
  | none, none => s.walk part va

/-- Entries of a TLB (R299). -/
def tlbDepth : Nat := 4096

/-- R292, R299: the places of a full TLB that a new entry may take: a retiring entry stays until its INVAL is complete. -/
def replaceable (es : List TlbEntry) : List Nat :=
  (List.range es.length).filter fun i => match es[i]? with | some t => !t.retiring | none => false

/-- Caches a present leaf (R299); in a full TLB a free value chooses the entry replaced. -/
def State.cache (s : State) (cluster part va : Nat) (w : Walk) : State :=
  match w with
  | .absent _ => s
  | .leaf l large =>
    let es := SMap.get [] s.tlb cluster
    if es.any (fun t => t.hit part va && !t.retiring) then s
    else
      let e : TlbEntry := ⟨part, if large then va / 2 ^ 29 else va / 2 ^ 16, large, l, false⟩
      let rs := replaceable es
      let es' := if tlbDepth ≤ es.length then es.eraseIdx (rs.getD ((Config.free s.freeCtr 0).toNat % rs.length) 0) else es
      if tlbDepth ≤ es.length && rs.isEmpty then s
      else
        { s with
          tlb := SMap.set [] s.tlb cluster (es' ++ [e]),
          freeCtr := if tlbDepth ≤ es.length then s.freeCtr + 1 else s.freeCtr }

/-- The physical address of va under a leaf. -/
def leafPA (l : Word) (large : Bool) (va : Nat) : Nat :=
  if large then leafFrame l + va % 2 ^ 29 else leafFrame l + va % 2 ^ 16

/-! ### Accesses by task address -/

/-- What an access needs (Table 4.5, R266). -/
inductive Need where
  | load
  | store
  | atomic
deriving DecidableEq, Repr

/-- The KIND of a fault-queue entry (Table 16.3). -/
def Need.kind : Need → Nat
  | .load => 0
  | .store => 1
  | .atomic => 2

/-- What the checks find: the physical address with page kind, home class and Z, G, X attributes; a fault code with its
step of Table 4.5; or a page that is not resident. -/
inductive Access where
  | ok (pa kind : Nat) (g z : Bool)
  | fault (code step : Nat)
  | absent (cause : Nat)
deriving DecidableEq, Repr

/-- R388: whether an offset of space 2 lies in a device, each mapped at the next multiple of 1 TiB, up to 16 TiB in all. -/
def devMapped : List Nat → Nat → Bool
  | [], _ => false
  | cap :: t, off => decide (off < cap) || (decide ((cap + 2 ^ 40 - 1) / 2 ^ 40 * 2 ^ 40 ≤ off) &&
      devMapped t (off - (cap + 2 ^ 40 - 1) / 2 ^ 40 * 2 ^ 40))

/-- R298, R415: an address of another package lies in HBM, or in a tower with bits [44:36] zero. -/
def paRemoteSpace (pa : Nat) : Bool := paSpace pa == 0 || (paSpace pa == 1 && bitsOf pa 36 9 == 0)

/-- R298, R388, R416: whether a direct access may name a physical address at all: a space that exists within its capacity, no tower
address with bits [44:36] set, no window and no group of packages. -/
def paExists (pa : Nat) : Bool :=
  if paPackage pa == 255 then
    match paSpace pa with
    | 0 => decide (paOffset pa < Config.hbmBytes)
    | 1 => bitsOf pa 36 9 == 0
    | 2 => decide (paOffset pa < 2 ^ 44)
    | 3 => true
    | _ => false
  else decide (paPackage pa < 144) && paRemoteSpace pa

/-- A channel as cold reset leaves it. -/
def Chan.initial : Chan := ⟨false, 0, false, [], [], 0, 0⟩

def State.chan (s : State) (ch : Nat) : Chan := SMap.get Chan.initial s.chans ch

/-- The die that holds an address of this package's towers or HBM. -/
def paDie (pa : Nat) : Option Nat :=
  if paPackage pa != 255 then none else if paIsHbm pa then some (paChannel pa / 128) else if paIsTower pa then some (paCell pa / 16384) else none

/-- R384, R387, R420: an access of a die waits: its channel retrains, or it goes to the other die while the die link retrains, or to another
package while no scale-up link is up. -/
def State.stalled (s : State) (die pa : Nat) : Bool :=
  (paIsHbm pa && (s.chan (paChannel pa)).retraining) || (s.hub.d2dDown && (match paDie pa with | some d => d != die | none => false)) ||
    (paPackage pa != 255 && s.liveLinks.isEmpty)

/-- R417: the live link that carries the requests for a line of another package. -/
def State.linkTo (s : State) (pa : Nat) : Option Nat :=
  s.liveLinks[Config.linkHash (paPackage pa) (pa / 64) s.liveLinks.length % s.liveLinks.length]?

/-- R384, R420: an access of a die has gone over the die link, or over a scale-up link: the failures before it are not in a row with later
ones. -/
def State.crossed (s : State) (die pa : Nat) : State :=
  match paDie pa with
  | some d => if d != die then { s with hub := { s.hub with d2dStreak := 0 } } else s
  | none =>
    match (if paPackage pa == 255 then none else s.linkTo pa) with
    | none => s
    | some l => { s with hub := { s.hub with links := SMap.set Link.initial s.hub.links l { SMap.get Link.initial s.hub.links l with streak := 0 } } }

/-- R387, R391, R419: whether the home of an address answers: a working channel, expander memory that is mapped and not isolated, a
tower word not reclaimed, a remote package that is reachable. -/
def State.answers (s : State) (pa : Nat) : Bool :=
  if paPackage pa == 255 then
    match paSpace pa with
    | 0 => !(s.chan (paChannel pa)).failed
    | 1 => !s.reclaimed pa
    | 2 => !s.hub.iso && s.hub.up && devMapped s.hub.devs (paOffset pa)
    | _ => true
  else !SMap.get false s.hub.unreach (paPackage pa)

/-- Whether a physical address can be reached. -/
def State.reachable (s : State) (pa : Nat) : Bool := paExists pa && s.answers pa

/-- The attribute checks of Table 4.5, steps 2 (the write right), 4, 5 and 6, on a leaf. DEDUCED: an execute-only page refuses a
store with 0x08 although it lacks the write right too, since R364 says so of every store to a text page, and text pages are W = 0
(log 67). -/
def leafCheck (l : Word) (need : Need) (wr : Bool) : Option (Nat × Nat) :=
  if wbit l 2 then some (if need == .load then 0x05 else 0x08, 4)
  else if need != .load && !wr then some (0x05, 2)
  else if wbit l 5 then some (0x10, 5)
  else if need != .load && wbit l 9 then some (0x05, 6)
  else none

/-- The checks of a leaf and of the physical address it gives. -/
def State.leafAccess (s : State) (l : Word) (pa kind : Nat) (need : Need) (wr : Bool) : Access :=
  if !paExists pa then .fault 0x05 2
  else
    match leafCheck l need wr with
    | some (c, n) => .fault c n
    | none => if s.answers pa then .ok pa kind (wbit l 9) (wbit l 5) else .fault 0x05 2

/-- An extent register (Table 1.5) of a strand. -/
def Extent.none : Extent := ⟨0, false, false, 0, 0, false, 0, [], 0⟩

def Strand.extent (st : Strand) (n : Nat) : Extent := SMap.get Extent.none st.ext n

/-- Whether a region lies in the towers of a package cell (R185, R334). -/
def Region.inCell (r : Region) (cell : Nat) : Bool :=
  let f := (cell % 8) / 4 + 2 * ((cell % 64) / 32)
  cell / 64 == coreIndex r.die r.core &&
    (if r.gang == 0 then f == r.field else if r.gang == 1 then f / 2 == r.field / 2 else true)

/-- R334: bytes of a held region that belongs to another task. -/
def State.heldHit (s : State) (st : Strand) (cell off size : Nat) : Bool :=
  s.regions.any fun r => r.tag != 0 && r.inCell cell && decide (64 * r.base < off + size) &&
    decide (off < 64 * (r.base + r.len + 1)) && !(r.part == st.part && r.owner == some st.recAddr.toNat)

/-- R30, R31, R86, R134: the checks of Table 4.5 but the last, for an access of `size` bytes at a task address; `cell`
is the cell whose tower space 14 names. -/
def State.check (s : State) (st : Strand) (cell : Nat) (addr : Word) (size : Nat) (need : Need) : Access :=
  let sp := bf addr 60 4
  let off := bf addr 0 60
  if off % size != 0 then .fault 0x04 1
  else if sp == 14 then
    if off ≥ 2 ^ 21 || off + size > 2 ^ 21 then .fault 0x05 2
    else if s.reclaimed (towerPA cell off) || s.heldHit st cell off size then .fault 0x05 2
    else .ok (towerPA cell off) 1 false false
  else if sp == 15 then
    if off ≥ 2 ^ 55 then .fault 0x05 2
    else
      match s.lookup st.cluster st.part off false with
      | .absent c => .absent c
      | .leaf l large => s.leafAccess l (leafPA l large off) (leafKind l) need (wbit l 1)
  else
    let e := st.extent sp
    if e.units == 0 || off + size > e.units * 2 ^ 16 then .fault 0x05 2
    else if (need == .load && !e.rd) || (need == .store && !e.wr) || (need == .atomic && !(e.rd && e.wr)) then .fault 0x05 2
    else s.leafAccess (e.leaves.getD (off / 2 ^ 16) 0) (e.base + off) e.kind need e.wr

/-- R85: base and displacement on the offset part alone; none outside the space. -/
def addressOf (base : Word) (disp : Int) : Option Word :=
  let off : Int := (bf base 0 60 : Int) + disp
  if off < 0 || off ≥ 2 ^ 60 then none else some (word (bf base 60 4 * 2 ^ 60 + off.toNat))

/-- The cached leaf an access uses fills the TLB (R299). -/
def State.cacheFor (s : State) (st : Strand) (addr : Word) : State :=
  if bf addr 60 4 == 15 && decide (bf addr 0 60 < 2 ^ 55) then
    s.cache st.cluster st.part (bf addr 0 60) (s.lookup st.cluster st.part (bf addr 0 60) false)
  else s

end Sys2Proof.Machine
end

