-- ==== Sys2Proof/Machine/Retire.lean ====
section
/-! DEFINITION. Logs (R358, R433, R437), task records in memory (R315-R319), the signals that act on them (R321, R324,
R436), barrier domains as the end of a member meets them (R278), and the end of a task (R245, R323). -/

namespace Sys2Proof.Machine

/-! ### Logs -/

/-- The GANG register (Table 1.5) of a strand: also the placement of a log entry. -/
def Strand.placement (st : Strand) : Nat :=
  st.die * 2 ^ 14 + st.core * 2 ^ 6 + st.field * 2 ^ 4 + st.gidx * 2 ^ 2 + st.gang

/-- Task number of a strand (TID[31:0]). -/
def Strand.taskNo (st : Strand) : Nat := bf (SMap.get 0 st.sys 0x002) 0 32

/-- Entries of a partition's violation log (R433). -/
def vlogDepth : Nat := 256

/-- R433: an entry of the partition's violation log; a full ring loses its oldest unread entry. -/
def State.logViol (s : State) (part code version task : Nat) (addr : Word) : State :=
  let p := s.part part
  let full := vlogDepth ≤ p.vlog.length
  s.setPart part { p with vlog := (if full then p.vlog.drop 1 else p.vlog) ++ [⟨code, version, task, addr⟩],
                          vovf := p.vovf || decide full }

/-- One entry into a ring of a given size. -/
def Ring.push (r : Ring) (size : Nat) (e : LogEntry) : Ring :=
  ⟨(r.next + 1) % size, r.ovf || decide (size ≤ r.slots.length), SMap.set ⟨0, 0, 0, 0⟩ r.slots r.next e⟩

/-- R437: an entry of the partition fault log. -/
def State.logFault (s : State) (part kind cause closer task placement : Nat) (w1 w2 : Word) : State :=
  let p := s.part part
  let w0 := task * 2 ^ 32 + part * 2 ^ 28 + cause * 2 ^ 24 + kind * 2 ^ 20 + closer * 2 ^ 15 + placement
  s.setPart part { p with flog := p.flog.push 256 ⟨word w0, w1, w2, word s.now⟩ }

/-- Adds one to an error counter, saturating at 2^64 - 1. -/
def State.count (s : State) (k : Nat) : State :=
  { s with errcnt := SMap.set 0 s.errcnt k (min (SMap.get 0 s.errcnt k + 1) (2 ^ 64 - 1)) }

/-- The partition that owns a package core, if any (PARTOF). -/
def State.ownerOf (s : State) (core : Nat) : Option Nat :=
  let v := SMap.get 0 s.partOf core
  if v ≥ 16 then some (v - 16) else none

/-- Classes of Table 19.4 that write an entry. -/
def dieClassEntry (k : Nat) : Bool := k == 2 || k == 3 || k == 4 || k == 6 || (decide (8 ≤ k) && decide (k ≤ 13))

/-- R358: counts a die event, and writes its entry or raises the COUNT of one within 1 ms. -/
def State.logDie (s : State) (die k : Nat) (core : Option Nat) (cell bank chan pa : Nat) (detail : Word) : State :=
  let s := s.count (die * 64 + k)
  if !dieClassEntry k then s
  else
    let owner := match core with | some c => s.ownerOf (coreIndex die c) | none => none
    let w0 := k * 2 ^ 56 + owner.getD 0 * 2 ^ 52 + (if owner.isNone then 2 ^ 51 else 0) + core.getD 0 * 2 ^ 42 +
      cell * 2 ^ 36 + bank * 2 ^ 32 + chan * 2 ^ 24
    let r := SMap.get ⟨0, false, []⟩ s.logs die
    match r.slots.find? (fun e => decide (e.2.w0.toNat / 2 ^ 24 = w0 / 2 ^ 24) && decide (s.now < e.2.w3.toNat + 1000000)) with
    | some (i, e) =>
      let n := bf e.w0 0 24
      let e' : LogEntry := { e with w0 := word (w0 + min (n + 1) (2 ^ 24 - 1)) }
      { s with logs := SMap.set ⟨0, false, []⟩ s.logs die { r with slots := SMap.set ⟨0, 0, 0, 0⟩ r.slots i e' } }
    | none =>
      { s with logs := SMap.set ⟨0, false, []⟩ s.logs die (r.push 4096 ⟨word (w0 + 1), word pa, detail, word s.now⟩) }

/-- R385: counts a hub event (key 128 + class) and writes its entry to the hub log (key 2), with the requester's package core where there is
one. -/
def State.logHub (s : State) (k : Nat) (part : Option Nat) (pa : Nat) (detail : Word) (core : Nat := 0) : State :=
  let s := s.count (128 + k)
  if k == 20 || k == 21 then s
  else
    let w0 := k * 2 ^ 56 + part.getD 0 * 2 ^ 52 + (if part.isNone then 2 ^ 51 else 0) + core % 512 * 2 ^ 42 + 1
    let r := SMap.get ⟨0, false, []⟩ s.logs 2
    { s with logs := SMap.set ⟨0, false, []⟩ s.logs 2 (r.push 4096 ⟨word w0, word pa, detail, word s.now⟩) }

/-- R426: after 4 s without a valid message a locked clock runs free. -/
def State.holdover (s : State) : State :=
  if s.hub.timeState == 2 && decide (s.hub.timeLast + 4000000000 ≤ s.time) then
    State.logHub { s with hub := { s.hub with timeState := 3, timeCorr := 0 } } 24 none 0 0
  else s

/-- R390: a poisoned line that the expander answers to a core of a partition is logged as hub class 15. -/
def State.notePoison (s : State) (part core pa : Nat) : State :=
  if paPackage pa == 255 && paSpace pa == 2 then s.logHub 15 (some part) (pa - pa % 64) 0 core else s

/-! ### Cores (R355) -/

def CoreState.initial : CoreState := ⟨0, 0x1000, false, false, false, 0, 0⟩

def State.coreAt (s : State) (c : Nat) : CoreState := SMap.get CoreState.initial s.cores c

def State.setCore (s : State) (c : Nat) (v : CoreState) : State :=
  { s with cores := SMap.set CoreState.initial s.cores c v }

/-- The state of R6 and R355: 0 healthy, 1 derated, 2 drained, 3 retired; wear in units of 2^-16. -/
def CoreState.stage (c : CoreState) : Nat :=
  if c.retired then 3
  else if c.wear ≥ 141912000 * 2 ^ 16 then 2
  else if c.wear ≥ 110376000 * 2 ^ 16 then 1
  else 0

/-- Cores of a partition on a die. -/
def State.coresOf (s : State) (die part : Nat) : List Nat :=
  (List.range 256).filter fun c => s.ownerOf (coreIndex die c) == some part

/-- Cores that may take a new task (R328, R353): healthy or derated, no remap pending. -/
def State.eligible (s : State) (die part : Nat) : List Nat :=
  (s.coresOf die part).filter fun c => decide ((s.coreAt (coreIndex die c)).stage < 2) && !(s.coreAt (coreIndex die c)).mpend

/-- R354: the hub stores every core's lifetime record. -/
def State.storeRecords (s : State) : State :=
  { s with hub := { s.hub with nvWear := s.cores.foldl (fun m e => SMap.set 0 m e.1 e.2.wear) [], lastStore := s.time } }

/-- Whether a core holds a field of any running task (R330, R353). -/
def State.coreBusy (s : State) (core : Nat) : Bool := s.strands.any fun t => t.coreIdx == core

/-- R330: whether a core holds a resident region. -/
def State.coreHolds (s : State) (k : Nat) : Bool := s.regions.any fun r => coreIndex r.die r.core == k

/-- R354, R355: a core retires, which stores the lifetime records; its partition's fault log records the smaller share. -/
def State.retireNow (s : State) (k : Nat) : State :=
  let s := (State.logDie (s.setCore k { s.coreAt k with retired := true, rpend := false, mpend := false }) (k / 256) 12 (some (k % 256)) 0 0 0 0 3).storeRecords
  match s.ownerOf k with
  | some p => s.logFault p 6 0 0 0 0 0 (word k)
  | none => s

/-- R330, R355: a core whose retirement is pending and that holds neither task nor region retires. -/
def State.retireCore (s : State) (k : Nat) : State :=
  if (s.coreAt k).rpend && !s.coreBusy k && !s.coreHolds k then s.retireNow k else s

/-- Every retirement that has become possible happens. -/
def State.retireDue (s : State) : State := (s.cores.filter fun e => e.2.rpend).foldl (fun s e => s.retireCore e.1) s

/-! ### The clock of the lehr (R346, R348) -/

/-- LEHRCFG of a die (R346): GUARD 18 s, RPERIOD 16 s by default. -/
def lehrDefault : Word := word (18 * 2 ^ 16 + 16)

def State.lehrCfg (s : State) (die : Nat) : Word := match SMap.get [] s.lehr die with | e :: _ => e.2 | [] => lehrDefault

/-- R357: the LEHRCFG of a die that counts from a stamp: a value written later applies from the next due time. -/
def State.lehrAt (s : State) (die stamp : Nat) : Word :=
  match (SMap.get [] s.lehr die).find? fun e => decide (e.1 ≤ stamp) with
  | some e => e.2
  | none => lehrDefault

/-- RPERIOD and GUARD of a die in ns, as they count from a stamp. -/
def State.rperiod (s : State) (die stamp : Nat) : Nat := bf (s.lehrAt die stamp) 0 5 * 10 ^ 9
def State.guardTime (s : State) (die stamp : Nat) : Nat := bf (s.lehrAt die stamp) 16 5 * 10 ^ 9

/-- The die of a package cell. -/
def cellDie (cell : Nat) : Nat := cell / 16384

/-- The banks of a die. -/
def dieBanks : Nat := 262144

/-- A pass begins now (R346, R347). -/
def Bank.startPass (b : Bank) (now : Nat) : Bank := { b with running := true, bursts := 0, began := now }

/-- R346: the bank is due at stamp + RPERIOD. DESIGN CHOICE: the first passes after a reset, whose stamps the manual does not give, are
spread evenly over the first period in the order of the banks (log 105). -/
def State.bankDue (s : State) (cell bank : Nat) (b : Bank) : Bool :=
  let p := s.rperiod (cellDie cell) b.stamp
  if b.stamp == 0 then decide (p * ((cell * 16 + bank) % dieBanks + 1) ≤ dieBanks * s.now) else decide (b.stamp + p ≤ s.now)

/-- R348: the bank has reached stamp + GUARD. -/
def State.bankAtGuard (s : State) (cell : Nat) (b : Bank) : Bool := decide (b.stamp + s.guardTime (cellDie cell) b.stamp ≤ s.now)

/-- R346: the pass of a bank starts if it is due and not deferred. -/
def State.startDue (s : State) (cell bank : Nat) : State :=
  let b := s.bankAt cell bank
  if !b.deferred && !b.running && s.bankDue cell bank b then s.setBank cell bank (b.startPass s.now) else s

/-! ### Task records (R315-R319) -/

/-- Word i of the record at pa. -/
def State.recWord (s : State) (pa i : Nat) : Word := s.homeWord (pa + 8 * i)

def State.setRecWord (s : State) (pa i : Nat) (w : Word) : State := s.homeSet (pa + 8 * i) w

/-- Writes STATE of the record. -/
def State.setRecState (s : State) (pa st : Nat) : State := s.setRecWord pa 4 (setBf (s.recWord pa 4) 21 3 st)

/-- A record that the scheduler owns, by physical address. -/
def State.recAt (s : State) (pa : Nat) : Option RecEntry := s.recs.find? (·.pa == pa)

def State.modRec (s : State) (pa : Nat) (f : RecEntry → RecEntry) : State :=
  { s with recs := s.recs.map fun r => if r.pa == pa then f r else r }

/-- R332, R334, R318: base and length of a region descriptor in 64-byte units, if present. -/
def regionOf (w : Word) : Option (Nat × Nat) := if wbit w 30 then some (bf w 0 15, bf w 15 15) else none

def regionsOverlap (a b : Option (Nat × Nat)) : Bool :=
  match a, b with
  | some (x, l), some (y, m) => decide (x ≤ y + m) && decide (y ≤ x + l)
  | _, _ => false

/-- R318: zero and reserved fields of a region descriptor. -/
def regionBad (next : Nat) (resident : Bool) (w : Word) : Bool :=
  if resident then
    bf w 40 8 != 0 || bf w 31 2 != 0 || bf w 37 2 == 3 || (wbit w 39 && bf w 48 16 == 0) ||
      (bf w 37 2 != 0 && decide (next ≤ bf w 33 4))
  else bf w 31 33 != 0

/-- R319: a malformed record, from its sixteen words. -/
def recordBad (part : Nat) (hostable : Bool) (w : Nat → Word) : Bool :=
  let next := bf (w 5) 0 4
  let res := [w 8, w 9]
  let vol := [w 10, w 11]
  let spill := some (bf (w 7) 0 15, bf (w 7) 15 15)
  let regs := (res ++ vol).map regionOf
  let st := bf (w 4) 21 3
  bf (w 0) 55 9 != 0 || bf (w 0) 0 2 != 0 || bf (w 1) 32 32 != 0 ||
  bf (w 4) 26 2 == 3 || decide (2 ≤ bf (w 4) 24 2) || bf (w 4) 16 3 != 0 || !(st == 0 || st == 6) ||
  bf (w 4) 28 4 != part ||
  bf (w 5) 55 9 != 0 || bf (w 5) 4 2 != 0 || next == 15 ||
  bf (w 6) 55 1 != 0 || bf (w 6) 0 3 != 0 || bf (w 7) 30 34 != 0 ||
  res.any (regionBad next true) || vol.any (regionBad next false) ||
  bf (w 13) 56 8 != 0 || bf (w 13) 3 5 != 0 || decide (6 ≤ bf (w 13) 0 3) ||
  bf (w 14) 32 32 != 0 || bf (w 15) 55 9 != 0 || bf (w 15) 0 16 != 0 ||
  (regs ++ [spill]).any (fun r => match r with | some (b, l) => decide (2 ^ 15 < b + l + 1) | none => false) ||
  (List.range 4).any (fun i => (List.range i).any fun j => regionsOverlap (regs.getD i none) (regs.getD j none)) ||
  (regs.drop 2).any (fun r => regionsOverlap r spill) || !hostable

/-- R319 for the record at pa as its words stand, STATE included; every healthy or derated core counts. -/
def State.badRecord (s : State) (die part pa : Nat) : Bool :=
  recordBad part ((s.coresOf die part).any fun c => decide ((s.coreAt (coreIndex die c)).stage < 2)) (s.recWord pa)

/-- R326, R328: the record enters the ready queue now, held while TIME is before its START. -/
def State.makeReady (s : State) (r : RecEntry) : State :=
  let st := if decide (s.now < (s.recWord r.pa 3).toNat) then 3 else 2
  let r' := { r with state := st, order := s.time }
  let others := s.recs.filter fun x => x.pa != r.pa
  State.setRecState { s with recs := others ++ [r'] } r.pa st

/-- Live records of a partition on a die (R321). -/
def State.liveRecords (s : State) (die part : Nat) : Nat := (s.recs.filter fun r => r.die == die && r.part == part).length

/-- R321: the action of SPAWN at the record's home, and its status; the records of the partition that PART names count. The spawner's
partition authorises the record. -/
def State.spawnRecord (s : State) (die part : Nat) (va : Word) (pa : Nat) : Nat × State :=
  if 4096 ≤ s.liveRecords die (bf (s.recWord pa 4) 28 4) then (2, s)
  else if s.badRecord die part pa then (3, s)
  else
    let c := setBf (setBf (s.recWord pa 4) 8 8 0) 0 8 0
    let s := s.setRecWord pa 4 c
    let r : RecEntry := ⟨die, part, va, pa, 1, 0, false, false, 0, none, []⟩
    if bf c 32 32 == 0 then (0, s.makeReady r)
    else (1, State.setRecState { s with recs := (s.recs.filter fun x => x.pa != pa) ++ [r] } pa 1)

/-- R321, R324: the action of a signal at the record's home, with the flags a retirement sets; `task` and `va` are for
the log of a spurious one. -/
def State.signalRecord (s : State) (part task : Nat) (va : Word) (pa : Nat) (pskip pflt : Bool) : State :=
  let c := s.recWord pa 4
  let dep := bf c 32 32
  let c := if pskip then setBf c 20 1 1 else c
  let c := if pflt then setBf c 19 1 1 else c
  let s := if dep == 0 then s.logFault part 4 0 0 task 0 va 0 else s
  let c := if dep == 0 then c else setBf c 32 32 (dep - 1)
  let s := s.setRecWord pa 4 c
  match s.recAt pa with
  | some r => if r.state == 1 && bf c 32 32 == 0 then s.makeReady r else s
  | none => s

/-- R321: the checks of a record address that do not park: alignment, page S, writable, in this package's HBM. -/
inductive RecAddr where
  | found (pa : Nat)
  | absent (cause : Nat)
  | fault (code : Nat)
deriving DecidableEq, Repr

def State.recordAddr (s : State) (st : Strand) (addr : Word) : RecAddr :=
  if bf addr 0 60 % 128 != 0 then .fault 0x04
  else
    match s.check st st.anchor addr 8 .atomic with
    | .fault c _ => .fault c
    | .absent c => .absent c
    | .ok pa kind _ _ => if kind == 0 && paIsHbm pa then .found pa else .fault 0x05

/-- Poison in one of the record words an action reads (R321). -/
def State.recPoison (s : State) (pa : Nat) (words : List Nat) : Option Nat :=
  (words.map fun i => (List.range 8).map fun j => pa + 8 * i + j).flatten.find? s.homePoison

/-- The words SPAWN reads (R315). -/
def spawnWords : List Nat := [0, 1, 4, 5, 6, 7, 8, 9, 10, 11, 12, 13, 14, 15]

/-- A strand value that stands for a partition's own accesses through its tables (the hub, the scheduler). -/
def Strand.forPart (part die : Nat) : Strand := { Strand.idle with part := part, die := die }

/-- Word 5-15 of a record (R315): as its first dispatch read it, or before that as it stands in memory. -/
def State.recFixed (s : State) (r : RecEntry) (i : Nat) : Word := match r.words with | [] => s.recWord r.pa i | l => l.getD i 0

/-- R436: a handler signal to the record FHREC of the partition names; a record on either die. Where the checks of R321 fail, poison
in a word it reads among them, or the record is malformed, it is logged and changes nothing. -/
def State.handlerSignal (s : State) (part : Nat) : State :=
  let p := s.part part
  match s.recordAddr (Strand.forPart part 0) p.fhrec with
  | .absent _ => s.logViol part 0 0 0 p.fhrec
  | .fault _ => s.logViol part 0 0 0 p.fhrec
  | .found pa =>
    let die := match s.recAt pa with
      | some r => r.die
      | none => if (s.coresOf 0 part).isEmpty then 1 else 0
    match s.recAt pa with
    | some r =>
      if r.state == 1 then (if (s.recPoison pa [4]).isSome then s.logViol part 0 0 0 p.fhrec else s.signalRecord part 0 p.fhrec pa false false)
      else s.setPart part { p with hpend := true }
    | none =>
      if 4096 ≤ s.liveRecords die (bf (s.recWord pa 4) 28 4) then s
      else if (s.recPoison pa spawnWords).isSome || s.badRecord die part pa then s.logViol part 0 0 0 p.fhrec
      else
        let c := setBf (setBf (s.recWord pa 4) 8 8 0) 0 8 0
        (s.setRecWord pa 4 c).makeReady ⟨die, part, p.fhrec, pa, 2, 0, false, false, 0, none, []⟩

/-- The successor addresses of a record (R316); a word of the list that the partition's tables do not map is none. -/
def State.successors (s : State) (part : Nat) (w6 : Word) : List (Option Word) :=
  (List.range (bf w6 56 8)).map fun j =>
    let va := bf w6 3 52 * 8 + 8 * j
    match s.walk part va with
    | .leaf l large => if wbit l 2 then none else some (s.homeWord (leafPA l large va))
    | .absent _ => none

/-- R324: the retirement signals of a record, in list order; a spurious one is logged without a task (Table 11.4). `st` gives the extents the addresses may name. -/
def State.signalAll (s : State) (st : Strand) (part task : Nat) (w6 : Word) (pskip pflt : Bool) : State :=
  (s.successors part w6).foldl (fun s a =>
    match a with
    | none => s.logViol part 0 0 task 0
    | some addr =>
      match s.recordAddr st addr with
      | .found pa =>
        if (s.recPoison pa [4]).isSome then s.logViol part 0 0 task addr
        else s.signalRecord part 0 addr pa pskip pflt
      | _ => s.logViol part 0 0 task addr) s

/-- R323, R324, R436: retirement of a record: RCODE and STATE, its charge if it ran, its successors, and a pending
handler signal. -/
def State.retireRecord (s : State) (st : Strand) (r : RecEntry) (rcode : Nat) (charge : Option Word) (pskip pflt : Bool) :
    State :=
  let s := match charge with
    | some w => s.setRecWord r.pa 12 w
    | none => s
  let s := s.setRecWord r.pa 4 (setBf (setBf (s.recWord r.pa 4) 8 8 rcode) 21 3 6)
  let s := { s with recs := s.recs.filter fun x => x.pa != r.pa }
  let task := bf (s.recFixed r 14) 0 32
  let s := s.signalAll st r.part task (s.recFixed r 6) pskip pflt
  let p := s.part r.part
  if p.hpend && s.recordAddr (Strand.forPart r.part 0) p.fhrec == .found r.pa then (s.setPart r.part { p with hpend := false }).handlerSignal r.part else s

/-! ### Barrier domains (R273-R278) -/

/-- The unit of a level that holds a strand (R273). -/
def Strand.domUnit (st : Strand) (level : Nat) : Nat :=
  match level with
  | 0 => coreIndex st.die st.core * 4 + st.field
  | 1 => coreIndex st.die st.core
  | 2 => st.cluster
  | 3 => st.die
  | _ => 0

def Strand.dom (st : Strand) : Word := SMap.get 0 st.sys 0x004

def domLevel (d : Word) : Nat := bf d 0 3
def domIdent (d : Word) : Nat := bf d 8 24
def domMembers (d : Word) : Nat := bf d 32 24

/-- Whether a domain has the level, identity and unit that a strand's DOM names where it is placed. -/
def Domain.named (d : Domain) (st : Strand) : Bool :=
  d.level == domLevel st.dom && d.ident == domIdent st.dom && d.unit == st.domUnit (domLevel st.dom)

/-- Whether a domain is the one a strand was dispatched into (R278): it stays so wherever the press restores the strand. -/
def Domain.isOf (d : Domain) (st : Strand) : Bool := d.live.contains st.sid

/-- R428: a fabric domain is counted at its root package. -/
def Domain.local (d : Domain) (pkg : Nat) : Bool := d.level != 5 || d.ident / 2 ^ 16 == pkg

/-- R275: a phase completes when every member has arrived or ended. -/
def Domain.settle (d : Domain) (pkg now : Nat) : Domain :=
  if d.local pkg && decide (d.members ≤ d.arrived + d.gone) && !(d.live.isEmpty && d.arrivedPkgs.isEmpty) then
    { d with phase := d.phase + 1, arrived := 0, doneAt := now }
  else d

def State.modDomain (s : State) (st : Strand) (f : Domain → Domain) : State :=
  { s with domains := s.domains.map fun d => if d.isOf st then f d else d }

/-- R278: the end of a member: by TEND it counts as arrived from now on; by a kill it breaks the domain. A domain ends
with its last member. `pending` says that its arrival at the open phase stands already. -/
def State.leaveDomain (s : State) (st : Strand) (killed : Bool) : State :=
  if domMembers st.dom == 0 then s
  else
    let s := s.modDomain st fun d =>
      let standing := st.pendBit && st.phase == d.phase && st.arriving.isNone
      let d := { d with live := d.live.filter (· != st.sid) }
      if killed then { d with broken := true }
      else ({ d with gone := d.gone + 1, arrived := if standing then d.arrived - 1 else d.arrived } : Domain).settle s.hub.pkg s.now
    { s with domains := s.domains.filter fun d => !(d.live.isEmpty && d.arrivedPkgs.isEmpty) }

/-! ### The end of a task -/

/-- The strands of the task a strand belongs to. -/
def State.taskStrands (s : State) (st : Strand) : List Strand :=
  s.strands.filter fun t => t.part == st.part && t.recAddr == st.recAddr

/-- R307: a strand's part is withdrawn from the fault queues; an unclaimed entry left with no faulter is free. -/
def State.withdraw (s : State) (sid : Nat) : State :=
  { s with
    resume := s.resume.filter (·.sid != sid),
    fq := (s.fq.map fun e => (e.1, (e.2.map fun q : FqEntry => { q with faulters := q.faulters.filter (·.sid != sid) }).filter
      fun q => q.claimed || !q.faulters.isEmpty)).filter fun e => !e.2.isEmpty,
    held := (s.held.map fun e => (e.1, e.2.filter fun h => h.who.sid != sid)).filter fun e => !e.2.isEmpty }

/-- The task of a strand, as the deferrals it set name it (R348). -/
def Strand.taskKey (st : Strand) : Nat := (st.part + 1) * 2 ^ 64 + st.recAddr.toNat

/-- R348: the deferrals a strand's task set end, and a due pass starts at once. -/
def State.endDeferrals (s : State) (st : Strand) : State :=
  (s.banks.filter fun e => e.2.deferred && e.2.by' == st.taskKey).foldl (fun s e =>
    State.startDue (s.setBank (e.1 / 16) (e.1 % 16) { e.2 with deferred := false, by' := 0 }) (e.1 / 16) (e.1 % 16)) s

/-- R323, R334: at the end of a task its resident regions are released, but for those with KEEP at a TEND. -/
def State.releaseRegions (s : State) (st : Strand) (killed : Bool) : State :=
  { s with regions := s.regions.filterMap fun r =>
      if r.part == st.part && r.owner == some st.recAddr.toNat then
        (if !killed && r.keep && r.tag != 0 then some { r with owner := none } else none)
      else some r }

/-- The charge of a strand (index 0x00B, R335). -/
def Strand.charge (st : Strand) : Word := SMap.get 0 st.sys 0x00B

/-- A request on its way whose asker is among strands that end: its answer goes to nobody. -/
def AtomReq.orphan (all : List Strand) (q : AtomReq) : AtomReq :=
  { q with parts := q.parts.map fun p => if (all.any fun t => t.sid == p.sid) then { p with sid := 0 } else p }

/-- R321: the home acts on the oldest SPAWN of the executing strand that is in flight: its status goes to the register. -/
def State.spawnLands (s : State) : State :=
  match s.st.spawning with
  | [] => s
  | q :: rest =>
    let r := s.spawnRecord q.die q.part q.va q.pa
    let st := r.2.st
    { r.2 with st := { st with spawning := rest, sregs := if q.dest == 256 then st.sregs else SMap.set 0 st.sregs q.dest (word r.1) } }

/-- R321: the SPAWNs of a strand that are in flight act at their homes, whatever becomes of the strand. -/
def State.spawnsAct (s : State) (st : Strand) : State := st.spawning.foldl (fun s q => (s.spawnRecord q.die q.part q.va q.pa).2) s

/-- Ends the task of a strand: strands, fault-queue parts, deferrals, regions and outstanding work go, the record is
retired with its code, the successors are signalled (R245, R306, R323). -/
def State.endTask (s : State) (st : Strand) (rcode : Nat) (killed : Bool) : State :=
  let all := s.taskStrands st
  let s := s.leaveDomain ((all.find? (·.gidx == 0)).getD st) killed
  let s := all.foldl (fun s t => (((s.spawnsAct t).withdraw t.sid).endDeferrals t).drop t.sid) s
  let s := { s with net := s.net.map (AtomReq.orphan all), images := s.images.filter fun i => !(i.part == st.part && i.recVa == st.recAddr) }
  let s := (s.releaseRegions st killed).retireDue
  match s.recs.find? (fun r => r.part == st.part && r.va == st.recAddr) with
  | some r => s.retireRecord st r rcode (some st.charge) false killed
  | none => s

/-- R245: machine check 0x11 kills the task of a strand. -/
def State.machineCheck (s : State) (st : Strand) (cause : Nat) (w1 w2 : Word) : State :=
  let s := s.logFault st.part 0 cause st.closer st.taskNo st.placement w1 w2
  (s.endTask st 0x11 true).handlerSignal st.part

/-- R167: a nested fault kills the task. -/
def State.nestedFault (s : State) (st : Strand) (code : Nat) (at' : Word) : State :=
  (s.logFault st.part 1 0 0 st.taskNo st.placement at' (word code)).endTask st code true

end Sys2Proof.Machine
end

