-- ==== Sys2Proof/Machine/Ops.lean ====
section
/-! DEFINITION. The named operations of a strand: scalar registers and windows (R12-R19), tokens (R23, R102), guards
(R22, R99), sequential flow with its loops (R96, R97), text (R33-R37), demand faults (R301-R305), trap entry (R167) and
the return from one (R171). -/

namespace Sys2Proof.Machine

/-! ### Scalar registers (R12) -/

/-- R12: the place of a scalar name in `sregs`: 0-239 windowed, 240-247 globals. -/
def Strand.phys (st : Strand) (n : Nat) : Nat := if n ≥ 24 then 240 + (n - 24) else (st.wp + n - 1) % 240

/-- The value of s0-s31; s0 reads zero. -/
def Strand.rs (st : Strand) (n : BitVec 5) : Word := if n == 0 then 0 else SMap.get 0 st.sregs (st.phys n.toNat)

/-- Writes s0-s31; a write to s0 is discarded. -/
def Strand.setRs (st : Strand) (n : BitVec 5) (v : Word) : Strand :=
  if n == 0 then st else { st with sregs := SMap.set 0 st.sregs (st.phys n.toNat) v }

/-- A base field n of an engine word names s(16+n) (R49). -/
def baseReg (n : BitVec 4) : BitVec 5 := 16 + n.setWidth 5

/-- The value of a system register held by index. -/
def Strand.sysv (st : Strand) (i : Nat) : Word := SMap.get 0 st.sys i

def Strand.setSys (st : Strand) (i : Nat) (v : Word) : Strand := { st with sys := SMap.set 0 st.sys i v }

def Strand.status (st : Strand) : Word := st.sysv 0x001
def Strand.priv (st : Strand) : Bool := wbit st.status 0
def Strand.intrap (st : Strand) : Bool := wbit st.status 1

/-- Bit 2 of STATUS: 1 selects non-saturating E4M3 conversion (R28). -/
def Strand.nsat (st : Strand) : Bool := wbit st.status 2

/-! ### Tokens (R23) -/

def Tokens.get (t : Tokens) : Tok → Nat
  | .cd => t.cd
  | .dv => t.dv
  | .vc => t.vc
  | .dc => t.dc
  | .vd => t.vd
  | .cv => t.cv

def Tokens.put (t : Tokens) (k : Tok) (n : Nat) : Tokens :=
  match k with
  | .cd => { t with cd := n }
  | .dv => { t with dv := n }
  | .vc => { t with vc := n }
  | .dc => { t with dc := n }
  | .vd => { t with vd := n }
  | .cv => { t with cv := n }

/-- R102: the counters by number. -/
def tokOf (n : Nat) : Tok := [Tok.cd, .dv, .vc, .dc, .vd, .cv].getD n .cd

def tokNum : Tok → Nat
  | .cd => 0
  | .dv => 1
  | .vc => 2
  | .dc => 3
  | .vd => 4
  | .cv => 5

/-- R197: posts made in the core cycle that is now. -/
def Strand.freshNow (st : Strand) (t : Tok) : Nat := if st.freshAt == st.cyc then st.fresh.get t else 0

/-- R197: the tokens of a counter that a queue wait may take: those posted before this cycle. -/
def Strand.ripe (st : Strand) (t : Tok) : Nat := st.tok.get t - st.freshNow t

/-- n posts to a counter (R23); a WFE of the strand sees the change (R174). -/
def Strand.posted (st : Strand) (t : Tok) (n : Nat) : Strand :=
  { st with
    tok := st.tok.put t (st.tok.get t + n),
    fresh := (if st.freshAt == st.cyc then st.fresh else ⟨0, 0, 0, 0, 0, 0⟩).put t (st.freshNow t + n),
    freshAt := st.cyc, wake := true }

/-- TOKC (Table 1.5). -/
def Tokens.word (t : Tokens) : Word :=
  Machine.word (t.cv * 2 ^ 20 + t.vd * 2 ^ 16 + t.dc * 2 ^ 12 + t.vc * 2 ^ 8 + t.dv * 2 ^ 4 + t.cd)

def Tokens.ofWord (w : Word) : Tokens := ⟨bf w 0 4, bf w 4 4, bf w 8 4, bf w 12 4, bf w 16 4, bf w 20 4⟩

/-! ### Queues and held generations (R22, R100) -/

def Strand.queue (st : Strand) : EngineQ → Queue
  | .V => st.vq
  | .D => st.dq
  | .C => st.cq

def Strand.setQueue (st : Strand) (q : EngineQ) (v : Queue) : Strand :=
  match q with
  | .V => { st with vq := v }
  | .D => { st with dq := v }
  | .C => { st with cq := v }

/-- The commands an item still holds. -/
def Item.cmds : Item → List Cmd
  | .cmd c => [c]
  | .outer o => (o.body.map fun b => match b with | .cmd c => [c] | .inner i => i.cmds).flatten

/-- The commands a queue holds, its head first. -/
def Queue.cmds (q : Queue) : List Cmd := q.cur.toList ++ (q.items.map Item.cmds).flatten

/-- The next run of a body item of a share: item number k of its body, the share being in iteration `o.iter`. -/
def Outer.nexts (o : Outer) (ahead : Bool) (b : BodyItem) : List Cmd :=
  let it := if ahead then o.iter else o.iter + 1
  if o.count ≤ it then []
  else match b with
    | .cmd c => [{ c with lp := ⟨o.id, it, 0, 0⟩ }]
    | .inner i =>
      let past := if ahead then i.cmds.length - i.todo.length else 0
      let now := if ahead then i.iter else 0
      let run (gone : Bool) (c : Cmd) : List Cmd :=
        if !gone then [{ c with lp := ⟨o.id, it, i.id, now⟩ }]
        else if now + 1 < i.count then [{ c with lp := ⟨o.id, it, i.id, now + 1⟩ }]
        else if it + 1 < o.count then [{ c with lp := ⟨o.id, it + 1, i.id, 0⟩ }]
        else []
      ((i.cmds.take past).map (run true)).flatten ++ ((i.cmds.drop past).map (run false)).flatten

/-- The next run of every command an item still holds. -/
def Item.nexts : Item → List Cmd
  | .cmd c => [c]
  | .outer o =>
    ((o.body.take (o.body.length - o.todo.length)).map (o.nexts false)).flatten ++ (o.todo.map (o.nexts true)).flatten

/-- The next run of every command of a queue, the one at its head first. -/
def Queue.nexts (q : Queue) : List Cmd := q.cur.toList ++ (q.items.map Item.nexts).flatten

/-- The entries in use, by enqueue number (R194): every issue of a LOOPB word's commands is one entry, and a retained
command still counts (R237). -/
def Queue.entries (q : Queue) : List Nat := ((q.cmds ++ q.retained).map (·.seq)).dedup

/-- Nothing stands in the queue. -/
def Queue.isEmpty (q : Queue) : Bool := q.cur.isNone && q.items.isEmpty

/-- R194: the entries of queued C words with FO = 1, each of which reserves a D entry. -/
def Strand.reservedD (st : Strand) : List Nat :=
  ((st.cq.cmds.filter fun c => match c.pay with | .c _ (some _) => true | _ => false).map (·.seq)).dedup

/-- Every guard reference a command holds, its carried word's too. -/
def Cmd.guards (c : Cmd) : List GuardRef :=
  c.guard.toList ++ (match c.pay with | .c _ (some k) => k.guard.toList | _ => [])

/-- The REP issue the sequencer stands at: 0 with no REP active (R28). -/
def Strand.repIdx (st : Strand) : Nat := if st.rep.left == 0 then 0 else st.rep.made

/-- The sequencer executes again what it executed before a rollback (R240). -/
def Strand.again (st : Strand) : Bool := match st.reexec with | some r => r.inTrap == st.intrap | none => false

/-- A V result is performed and has made its posts. -/
def Flight.over (f : Flight) : Bool := f.landed && f.tok == 0

/-- Every V result is performed and has made its posts. -/
def Strand.flightsDone (st : Strand) : Bool := st.flights.all Flight.over

/-- The guard references of every queued command, and of V results whose posts are still to come. -/
def Strand.guardRefs (st : Strand) : List GuardRef :=
  ((st.vq.cmds ++ st.dq.cmds ++ st.cq.cmds).map Cmd.guards).flatten ++ ((st.flights.filter fun f => !f.over).map fun f => f.cmd.guard.toList).flatten

/-- A guard slot; slot 0 is always true. -/
def Strand.guardSlot (st : Strand) (k : Nat) : Guard := st.guards.getD k Guard.initial

/-- R100: held generations of a slot other than the current one. -/
def Strand.heldOlder (st : Strand) (k : Nat) : Nat :=
  ((st.guardRefs.filter fun r => r.slot == k && r.gid != (st.guardSlot k).gid).map (·.gid)).dedup.length

/-- Whether the current generation of a slot is held. -/
def Strand.heldCurrent (st : Strand) (k : Nat) : Bool :=
  st.guardRefs.any fun r => r.slot == k && r.gid == (st.guardSlot k).gid

/-- What a captured generation has resolved to, if the queue heads can see it (R101); one that a rollback has taken back is still
to be opened again. -/
def Strand.judge (st : Strand) (r : Option GuardRef) : Option Bool :=
  match r with
  | none => some true
  | some r =>
    let g := st.guardSlot r.slot
    if r.slot == 0 then some true
    else if g.gid == r.gid then
      (match g.st with
       | .unresolved => none
       | .yes => if g.seen then some true else none
       | .no => if g.seen then some false else none)
    else if g.gid < r.gid then none
    else some ((g.older.lookup r.gid).getD false)

/-- R99: an unresolved generation of slot k is closed false. -/
def Strand.closeGen (st : Strand) (k : Nat) : Strand :=
  if (st.guardSlot k).st == .unresolved then
    { st with guards := st.guards.set k { st.guardSlot k with st := .no, seen := false } }
  else st

/-- R99: a new generation of slot k opens; none where it must wait for a held one (R100). -/
def Strand.openGen (st : Strand) (k : Nat) : Option Strand :=
  let g := st.guardSlot k
  if st.heldOlder k == 7 && st.heldCurrent k then none
  else
    let outcome := g.st == .yes
    let refs := st.guardRefs
    let older := (g.older.filter fun e => refs.any fun r => r.slot == k && r.gid == e.1) ++
      (if st.heldCurrent k then [(g.gid, outcome)] else [])
    some { st with guards := st.guards.set k ⟨.unresolved, g.gid + 1, older, true⟩ }

/-- The current generation of slot k resolves (R99). -/
def Strand.resolve (st : Strand) (k : Nat) (t : Bool) : Strand :=
  { st with guards := st.guards.set k { st.guardSlot k with st := if t then .yes else .no, seen := false } }

/-- R101, R174: the queue heads see the resolutions made so far; one that they had not seen ends a WFE. -/
def Strand.showGuards (st : Strand) : Strand :=
  { st with guards := st.guards.map fun g : Guard => { g with seen := true }, wake := st.wake || st.guards.any fun g => !g.seen }

/-- GUARDS (Table 1.5). -/
def Strand.guardsWord (st : Strand) : Word :=
  word ((List.range 8).foldl (fun a k =>
    let g := st.guardSlot k
    let v := match g.st with | .unresolved => 0 | .yes => 1 | .no => 2
    a + ((if k == 0 then 0 else st.heldOlder k) * 32 + (if k == 0 then 0 else g.gid % 8) * 4 + v) * 2 ^ (8 * k)) 0)

/-! ### Windows of commands (R235-R243) -/

/-- R243: an item of Table 11.1 closes the open window; with none open nothing changes. -/
def Strand.closeWindow (st : Strand) (code : Nat) : Strand :=
  match st.win with
  | none => st
  | some _ => { st with win := none, closer := code, dq := { st.dq with retained := [] }, cq := { st.cq with retained := [] } }

/-! ### Text (R33-R37) -/

/-- Bytes of an object's text pages (R364): its last page is padded with zero. -/
def CodeObj.textBytes (o : CodeObj) : Nat := (4 * o.words + 65535) / 65536 * 65536

/-- The loaded object of a partition in whose text pages an address lies, and the word's number in them. -/
def State.textAt (s : State) (part : Nat) (pc : Word) : Option (CodeObj × Nat) :=
  if bf pc 60 4 != 15 then none
  else
    let va := bf pc 0 60
    match s.objects.find? (fun o => o.part == part && decide (o.va ≤ va) && decide (va < o.va + o.textBytes)) with
    | some o => some (o, (va - o.va) / 4)
    | none => none

/-- The text word at an address, little-endian (R33). -/
def State.textWord (s : State) (o : CodeObj) (i : Nat) : W32 := BitVec.ofNat 32 (bytesNat (s.homeBytes (o.pa + 4 * i) 4))

/-- R35, R37: the fault of a fetch at an address, if any. -/
def State.fetchFault (s : State) (part : Nat) (pc : Word) : Option Nat :=
  match s.textAt part pc with
  | none => some 0x05
  | some (o, i) => if o.lits.contains i then some 0x07 else none

/-- Whether a word is ENTER (sop 24). -/
def isEnterWord (w : W32) : Bool := w.extractLsb' 24 8 == 24

/-! ### Outcomes of a word -/

/-- A sequencer fault: its code, TREC2, and the TRAP operand. -/
structure Flt where
  code : Nat
  addr : Word
  operand : Nat
deriving DecidableEq, Repr

/-- How a word ends: with its effect, a fault, a wait at its boundary, or a demand fault (R86 step 3). -/
inductive WRes where
  | ok (s : State)
  | fault (f : Flt)
  | wait (w : Stall)
  | park (p : Park)
deriving DecidableEq, Repr

/-- A fault with an address. -/
def flt (code : Nat) (addr : Word) : WRes := .fault ⟨code, addr, 0⟩

/-! ### Sequential flow (R90, R96, R97) -/

/-- R96: the end test at an address reached by sequential flow. -/
def endTest (pc : Word) : List LoopLevel → List LoopLevel × Word
  | [] => ([], pc)
  | l :: t =>
    if pc == l.start + word (4 * l.len) then
      if 0 < l.left then ({ l with left := l.left - 1 } :: t, l.start) else endTest pc t
    else (l :: t, pc)

/-- The next word of sequential flow after n bytes. -/
def Strand.flow (st : Strand) (n : Nat) : Strand :=
  let r := endTest (st.pc + word n) st.loops
  { st with pc := r.2, loops := r.1, afterCall := none }

/-- A re-execution comes one unit nearer to the dropped item (R240). -/
def Strand.reexecNext (st : Strand) : Option Reexec :=
  match st.reexec with
  | some r => if !st.again then some r else if r.left ≤ 1 then none else some { r with left := r.left - 1 }
  | none => none

/-- One unit (R164) is complete: an open window counts it. -/
def Strand.unitDone (st : Strand) : Strand :=
  { st with
    win := st.win.map fun w => { w with units := w.units + 1 },
    reexec := st.reexecNext,
    stall := none, jobs := [], moved := 0, boundary := false }

/-- A word of n bytes is complete: under REP its next issue follows, or PC moves past the target (R97). -/
def Strand.advance (st : Strand) (n : Nat) : Strand :=
  let st := st.unitDone
  if st.rep.left > 1 then
    { st with rep := { st.rep with left := st.rep.left - 1, made := st.rep.made + 1 }, afterCall := none }
  else Strand.flow { st with rep := RepState.none } n

/-- The word ends with a state whose executing strand then flows on. -/
def State.advance (s : State) (n : Nat) : State := { s with st := s.st.advance n }

/-- The body of a level holds an address. -/
def LoopLevel.holds (l : LoopLevel) (a : Word) : Bool :=
  decide (l.start.toNat ≤ a.toNat) && decide (a.toNat < l.start.toNat + 4 * l.len)

/-- R52: a taken branch or jump whose target lies outside the innermost body ends that level, and every enclosing level whose body
does not hold the target (log 99). -/
def exitLoops (target : Word) : List LoopLevel → List LoopLevel
  | [] => []
  | l :: t => if l.holds target then l :: t else t.filter (·.holds target)

/-! ### Spilling (R14-R19) -/

/-- R19: whether a spill that leaves SF frames and VB blocks spilled fits the region; with nothing to spill there is no
check. -/
def Strand.regionFits (st : Strand) (sf vb : Nat) : Bool :=
  (decide (sf ≤ st.sf) && decide (vb ≤ st.vb)) || decide (120 * sf + 256 * vb ≤ 64 * (st.spLen + 1))

/-- The first register of the oldest frame of fifteen. -/
def Strand.oldestFrame (st : Strand) : Nat := (st.wp + 240 - 15 * 14) % 240

/-- R14: the transfer a move to a fresh frame needs: the oldest of fifteen frames is spilled. -/
def Strand.pushJobs (st : Strand) : List SpillJob := if st.resident == 15 then [.frameOut st.oldestFrame st.sf] else []

/-- Frames spilled after the next push (R19). -/
def Strand.pushSf (st : Strand) : Nat := if st.resident == 15 then st.sf + 1 else st.sf

/-- R13, R14: the window moves to a fresh frame. -/
def Strand.pushFrame (st : Strand) : Strand :=
  { st with sf := st.pushSf, resident := if st.resident == 15 then 15 else st.resident + 1, wp := (st.wp + 15) % 240 }

/-- The caller's frame. -/
def Strand.callerFrame (st : Strand) : Nat := (st.wp + 240 - 15) % 240

/-- R14: the transfer a return needs: the caller's frame where it is spilled. -/
def Strand.popJobs (st : Strand) : List SpillJob :=
  if st.resident == 1 && st.sf != 0 then [.frameIn st.callerFrame (st.sf - 1)] else []

/-- R13, R14: the window returns to the caller's frame. -/
def Strand.popFrame (st : Strand) : Strand :=
  { st with wp := st.callerFrame, sf := if st.resident == 1 then st.sf - 1 else st.sf,
            resident := if st.resident == 1 then 1 else st.resident - 1 }

/-- R18: blocks that an ENTER of n blocks must spill. -/
def Strand.blocksOut (st : Strand) (n : Nat) : Nat := st.vres + n - 31

/-- R18: the transfers an ENTER of n blocks needs, the earlier spill first. -/
def Strand.enterJobs (st : Strand) (n : Nat) : List SpillJob :=
  let oldest := (st.vwp / 4 + 3 + 31 - st.vres) % 31
  (List.range (st.blocksOut n)).map fun i => .blockOut ((oldest + i) % 31) (st.vb + i)

/-- R17, R18: ENTER moves the vector window by n blocks. -/
def Strand.pushBlocks (st : Strand) (n : Nat) : Strand :=
  { st with vwp := (st.vwp + 4 * n) % 124, vres := min 31 (st.vres + n), vb := st.vb + st.blocksOut n }

/-- R18: blocks of the caller's window that a RET of n blocks must fill. -/
def Strand.blocksIn (st : Strand) (n : Nat) : Nat := min (3 - (st.vres - n)) st.vb

/-- The vector window a RET of n blocks returns to. -/
def Strand.callerVwp (st : Strand) (n : Nat) : Nat := (st.vwp + 124 - 4 * n % 124) % 124

/-- R18: the transfers it needs, the latest spill first. -/
def Strand.leaveJobs (st : Strand) (n : Nat) : List SpillJob :=
  (List.range (st.blocksIn n)).map fun i => .blockIn ((st.callerVwp n / 4 + 2 + 31 - (st.vres - n) - i) % 31) (st.vb - 1 - i)

/-- R17, R18: RET moves the vector window back by n blocks. -/
def Strand.popBlocks (st : Strand) (n : Nat) : Strand :=
  { st with vwp := st.callerVwp n, vres := max 3 (st.vres - n), vb := st.vb - st.blocksIn n }

/-- The destinations whose values are outstanding (R77, R87, R321). -/
def Strand.awaited (st : Strand) : List Nat := st.loads.map (·.dest) ++ st.spawning.map (·.dest)

/-- A value is outstanding. -/
def Strand.awaiting (st : Strand) : Bool := !st.loads.isEmpty || !st.spawning.isEmpty

/-- The fifteen registers of a frame have a load outstanding into one of them (R77). -/
def Strand.frameBusy (st : Strand) (f : Nat) : Bool := st.awaited.any fun d => decide ((d + 240 - f) % 240 < 15) && decide (d < 240)

/-- A job's registers have a load outstanding: its transfer waits (R77). DESIGN CHOICE: a vector block moves as it stands and waits for no V
command that names its registers, queued or in flight (log 114). -/
def Strand.jobBusy (st : Strand) : SpillJob → Bool
  | .frameOut f _ | .frameIn f _ => st.frameBusy f
  | .blockOut _ _ | .blockIn _ _ => false

/-- The s9 of the next frame has a load outstanding: a move to that frame waits (R77). -/
def Strand.linkBusy (st : Strand) : Bool := st.awaited.contains ((st.wp + 15 + 8) % 240)

/-- R15, R18: the tower bytes a job moves: offset and length in each of its cells. DESIGN CHOICE: a region laid beyond the tower's end
(SPILL is not checked against it) runs on at the physical addresses that follow (log 65). -/
def Strand.jobBytes (st : Strand) : SpillJob → Nat × Nat × List Nat
  | .frameOut _ k | .frameIn _ k => (64 * st.spBase + 120 * k, 120, [st.anchor])
  | .blockOut _ k | .blockIn _ k => (64 * st.spBase + 64 * (st.spLen + 1) - 256 * (k + 1), 256, st.grid)

/-- R334, R352: the first byte of the transfers that lies in a region another task holds or in reclaimed words. -/
def State.spillFault (s : State) (jobs : List SpillJob) : Option Word :=
  jobs.findSome? fun j =>
    let b := s.st.jobBytes j
    if b.2.2.any fun cell => s.reclaimedIn cell b.1 b.2.1 || s.heldHit s.st cell b.1 b.2.1 then some (word (14 * 2 ^ 60 + b.1)) else none

/-- R15: the bytes of the fifteen registers of the frame that begins at physical register f. -/
def Strand.frameBytes (st : Strand) (f : Nat) : List Byte :=
  ((List.range 15).map fun i => natBytes 8 (SMap.get 0 st.sregs ((f + i) % 240)).toNat).flatten

/-- The frame's registers from its bytes. -/
def Strand.setFrame (st : Strand) (f : Nat) (bs : List Byte) : Strand :=
  { st with sregs := (List.range 15).foldl (fun m i =>
      SMap.set 0 m ((f + i) % 240) (word (bytesNat ((bs.drop (8 * i)).take 8)))) st.sregs }

/-- R18: the bytes of the four registers of a block in a cell. -/
def State.blockBytes (s : State) (cell b : Nat) : List Byte :=
  ((List.range 4).map fun i => natBytes 64 (SMap.get 0 s.vregs (vKey cell (4 * b + i))).toNat).flatten

/-- A block's registers in a cell from their bytes. -/
def State.setBlock (s : State) (cell b : Nat) (bs : List Byte) : State :=
  { s with vregs := (List.range 4).foldl (fun m i =>
      SMap.set 0 m (vKey cell (4 * b + i)) (BitVec.ofNat 512 (bytesNat ((bs.drop (64 * i)).take 64)))) s.vregs }

/-- One job of the spill engine, from or to the region in the towers. -/
def State.spillMove (s : State) (j : SpillJob) : State :=
  let b := s.st.jobBytes j
  match j with
  | .frameOut f _ => s.directWrite (layout (towerPA s.st.anchor b.1) (s.st.frameBytes f)) false
  | .frameIn f _ => { s with st := s.st.setFrame f (s.homeBytes (towerPA s.st.anchor b.1) 120) }
  | .blockOut k _ => s.st.grid.foldl (fun s cell => s.directWrite (layout (towerPA cell b.1) (s.blockBytes cell k)) false) s
  | .blockIn k _ => s.st.grid.foldl (fun s cell => s.setBlock cell k (s.homeBytes (towerPA cell b.1) 256)) s

/-- The word at the boundary has the transfers it needs made, or waits for them (R14, R18, R164): `earlier` of those made belong
to a step of the word before this one. -/
def State.awaitJobs (s : State) (earlier : Nat) (jobs : List SpillJob) (go : WRes) : WRes :=
  if s.st.moved < earlier + jobs.length then
    .ok { s with st := { s.st with jobs := if s.st.jobs.isEmpty then jobs.drop (s.st.moved - earlier) else s.st.jobs, stall := some .spill } }
  else go

/-! ### Demand faults (R301-R305) -/

/-- The fault-queue entries of a cluster. -/
def State.fqOf (s : State) (cl : Nat) : List FqEntry := SMap.get [] s.fq cl

def State.setFq (s : State) (cl : Nat) (l : List FqEntry) : State := { s with fq := SMap.set [] s.fq cl l }

def State.heldOf (s : State) (cl : Nat) : List HeldFault := SMap.get [] s.held cl

def State.setHeld (s : State) (cl : Nat) (l : List HeldFault) : State := { s with held := SMap.set [] s.held cl l }

/-- Partitions that own a core of a cluster. -/
def State.clusterParts (s : State) (cl : Nat) : List Nat :=
  (List.range 16).filter fun p => (s.coresOf (cl / 32) p).any fun c => clusterOfCore c == cl % 32

/-- R302: the entries of a cluster reserved for a partition: four where it owns one of its cores. -/
def State.fqReserve (s : State) (cl part : Nat) : Nat := if (s.clusterParts cl).contains part then 4 else 0

/-- R302: entries a partition may take now: what is left of its reserve and of the shared ones, and no more than are free. -/
def State.fqFree (s : State) (cl part : Nat) : Nat :=
  let es := s.fqOf cl
  let used (p : Nat) : Nat := (es.filter (·.part == p)).length
  let shared := 64 - 4 * (s.clusterParts cl).length
  let sharedUsed := ((List.range 16).map fun p => used p - s.fqReserve cl p).sum
  min (64 - es.length) ((s.fqReserve cl part - used part) + (shared - sharedUsed))

/-- ARMED and OVF are kept per cluster and partition (Table 16.3); ARMED is 1 at reset (log 6). -/
def fqKey (cl part : Nat) : Nat := cl * 16 + part

/-- R304: a post or a hold while ARMED sends a handler signal and clears ARMED. -/
def State.fqNotify (s : State) (cl part : Nat) : State :=
  if SMap.get false s.disarmed (fqKey cl part) then s
  else State.handlerSignal { s with disarmed := SMap.set false s.disarmed (fqKey cl part) true } part

/-- The lowest free index of a cluster's fault queue (log 8). -/
def State.fqIndex (s : State) (cl : Nat) : Nat :=
  ((List.range 64).find? fun i => !(s.fqOf cl).any (·.idx == i)).getD 63

/-- R302: a fault takes a free entry of a cluster, with the faulters that wait for its page. -/
def State.fqTake (s : State) (cl : Nat) (h : HeldFault) (who : List Faulter) : State :=
  (s.setFq cl (s.fqOf cl ++ [⟨s.fqIndex cl, h.part, h.vpn, false, h.kind, h.cause, h.core, h.field, h.who.src, who⟩])).fqNotify cl h.part

/-- Two faults are of one partition and page. -/
def HeldFault.samePage (h k : HeldFault) : Bool := h.part == k.part && h.vpn == k.vpn

/-- R302: a demand fault joins an entry, takes a free one, which those held for its page join (R305), or is held. -/
def State.fqPost (s : State) (cl : Nat) (h : HeldFault) : State :=
  let es := s.fqOf cl
  if es.any fun e => e.part == h.part && e.vpn == h.vpn then
    s.setFq cl (es.map fun e =>
      if e.part == h.part && e.vpn == h.vpn then { e with faulters := e.faulters ++ [h.who] } else e)
  else if 0 < s.fqFree cl h.part then
    let q := s.heldOf cl
    (s.setHeld cl (q.filter fun k => !h.samePage k)).fqTake cl h ((q.filter h.samePage).map (·.who) ++ [h.who])
  else
    State.fqNotify { s.setHeld cl (s.heldOf cl ++ [h]) with fovf := SMap.set false s.fovf (fqKey cl h.part) true } cl h.part

/-- The fault a strand posts for a page (Table 16.3): CORE within the cluster, FIELD, SRC. -/
def Strand.heldFault (st : Strand) (p : Park) : HeldFault :=
  ⟨st.part, bf p.va 16 39, p.kind, p.cause, posInCluster st.core, st.field, ⟨st.sid, p.src⟩⟩

/-- R301: the executing strand parks on a demand fault of its sequencer or V queue; the V cycle of a command that waits for its page
stands still (R179). -/
def State.parkNow (s : State) (p : Park) : State :=
  State.fqPost { s with st := { s.st with park := some p, vfrozen := s.st.vfrozen || p.src == 1 } } s.st.cluster (s.st.heldFault p)

/-! ### Trap entry (R167) -/

/-- What the trap record says of a trap (Table 7.1). -/
structure TrapRec where
  code : Nat
  src : Nat
  issued : Nat
  repk : Nat
  operand : Nat
  addr : Word
  trec2 : Word
  resume : Word
deriving DecidableEq, Repr

/-- REPS (Table 1.5). -/
def RepState.word (r : RepState) : Word :=
  Machine.word (r.s3.toNat * 2 ^ 18 + r.s2.toNat * 2 ^ 16 + r.s1.toNat * 2 ^ 14 + r.made * 2 ^ 7 + r.left)

def RepState.ofWord (w : Word) : RepState :=
  ⟨bf w 0 7, bf w 7 7, BitVec.ofNat 2 (bf w 14 2), BitVec.ofNat 2 (bf w 16 2), BitVec.ofNat 2 (bf w 18 2)⟩

/-- LPS (Table 1.5). -/
def lpsWord (l : List LoopLevel) : Word :=
  match l with
  | [] => 0
  | x :: _ => word (x.left * 2 ^ 32 + x.len * 2 ^ 16 + l.length)

/-- R173: the levels after a write of LPS or TREC5. -/
def lpsWrite (l : List LoopLevel) (w : Word) : List LoopLevel :=
  match l.drop (l.length - bf w 0 3) with
  | [] => []
  | x :: t => { x with left := bf w 32 32, len := bf w 16 16 } :: t

/-- TREC0 (Table 7.1). -/
def TrapRec.word0 (t : TrapRec) : Word :=
  word (min t.issued 255 * 2 ^ 56 + t.repk * 2 ^ 50 + t.src * 2 ^ 32 + t.operand * 2 ^ 20 + t.code)

/-- R433: a fault 0x05 or 0x0D is entered in the violation log when it is raised (log 12). -/
def State.logRaised (s : State) (code : Nat) (addr : Word) (version : Nat) : State :=
  if code == 0x05 || code == 0x0D then s.logViol s.st.part code version s.st.taskNo addr else s

/-- R167: the record is written, loops and REP are set aside, STATUS becomes privileged and INTRAP, the window moves to a
fresh frame with s9 = 0, and PC is TVEC. -/
def Strand.enterTrap (st : Strand) (t : TrapRec) (now : Nat) : Strand :=
  let st := st.closeWindow 8
  let st := (((((((st.setSys 0x040 t.word0).setSys 0x041 t.addr).setSys 0x042 t.trec2).setSys 0x043 t.resume).setSys
    0x044 st.rep.word).setSys 0x045 (lpsWord st.loops)).setSys 0x046 st.status).setSys 0x047 (word now)
  let st := { st with heldLoops := st.loops, loops := [], rep := RepState.none, afterCall := none, stall := none, jobs := [], moved := 0,
                      boundary := false, pend := st.pend.filter fun p => !p.own }
  let st := (st.setSys 0x001 3).pushFrame
  { st.setRs 9 0 with pc := st.sysv 0x048 }

/-- A trap cannot be entered yet: a load is outstanding into the frame it spills or into its s9 (R77). -/
def Strand.trapBusy (st : Strand) : Bool := !st.intrap && (st.linkBusy || st.pushJobs.any st.jobBusy)

/-- R285: an access of the spill engine waits for an S access of the strand that is not performed. -/
def State.trapHeld (s : State) : Bool := s.st.trapBusy || (!s.st.intrap && !s.st.pushJobs.isEmpty && s.sOpen s.st)

/-- Trap entry of the executing strand (R167): a nested fault kills the task, and so does a spill that would overfill the region.
DESIGN CHOICE: a spill into bytes of a held region or reclaimed words (R334, R352) is logged as the violation it is and kills the
task as a nested fault 0x05 (log 66). -/
def State.trap (s : State) (t : TrapRec) : State :=
  if s.st.intrap then s.nestedFault s.st t.code t.addr
  else if !s.st.regionFits s.st.pushSf s.st.vb then s.nestedFault s.st 0x16 t.addr
  else match s.spillFault s.st.pushJobs with
    | some a => (s.logRaised 0x05 a 0).nestedFault s.st 0x05 t.addr
    | none =>
      let u := s.st.pushJobs.foldl State.spillMove s
      { u with st := u.st.enterTrap t s.now }

/-- A sequencer fault of the word at PC (R165): precise. -/
def State.seqFault (s : State) (f : Flt) : State :=
  if s.trapHeld then { s with st := { s.st with stall := some .spill } }
  else
    let s := State.logRaised { s with st := { s.st with trapped := none } } f.code f.addr 0
    s.trap ⟨f.code, 0, 0, 0, f.operand, s.st.pc, f.addr, s.st.pc⟩

/-- The fault a sequencer's access came to while it was parked (R306), to be raised at the boundary it stands at. -/
def Strand.ownPend (st : Strand) : Option PendFault := st.pend.find? (·.own)

/-- Engine faults wait for the next boundary, oldest first (R165, R166). -/
def Strand.oldestPend (st : Strand) : Option PendFault :=
  (st.pend.filter fun p => !p.own).foldl (fun m p => match m with
    | none => some p
    | some q => if p.seq < q.seq then some p else some q) none

/-- The sequencer stands in a WFE. -/
def Strand.inWfe (st : Strand) : Bool := match st.stall with | some (.wfe _) => true | _ => false

/-- R166, R170: the pending fault that the boundary takes: inside a handler only that of the word it stands at; a WFE ends first. -/
def Strand.boundaryPend (st : Strand) : Option PendFault :=
  if st.afterCall.isSome || st.inWfe then none
  else if st.intrap then st.ownPend
  else match st.oldestPend with
    | some p => some p
    | none => st.ownPend

/-- The strand waits at its boundary: a wait that goes on keeps the cycle it began in. -/
def Strand.waits (st : Strand) (w : Stall) : Strand :=
  { st with stall := some w, stallAt := if st.stall == some w then st.stallAt else st.cyc }

/-- The end of a word as a step's outcome. -/
def finish (s : State) (r : WRes) : Host.Outcome State Fault Refusal :=
  match r with
  | .ok s' => .next s'
  | .fault f => .next (s.seqFault f)
  | .wait w => .next { s with st := s.st.waits w }
  | .park p => .next (s.parkNow p)

/-! ### The return (R171) -/

/-- Whether a command is the one named. -/
def CmdId.is (k : CmdId) (c : Cmd) : Bool := c.seq == k.seq && c.lp == k.lp && c.repk == k.repk

/-- R171, R112, R141: the faulting command is to be discarded where it stands: at the head of its queue, or behind a command that has gone
back to the head since. -/
def Queue.dropCmd (q : Queue) (k : Option CmdId) : Queue :=
  let hit (c : Cmd) : Bool := match k with | some k => k.is c | none => false
  let mark (c : Cmd) : Cmd := { c with dropped := true }
  if q.items.any fun i => match i with | .cmd c => hit c | .outer _ => false then
    { q with items := q.items.map fun i => match i with | .cmd c => if hit c then .cmd (mark c) else .cmd c | i => i }
  else { q with cur := q.cur.map mark }

/-- The queue of a SRC code. -/
def srcQueue (n : Nat) : Option EngineQ := if n == 1 then some .V else if n == 2 then some .D else if n == 3 then some .C else none

/-- R171: window, loops, REP and STATUS come back, the stopped queue restarts with its faulting command performed again
(ACTION 0) or discarded (ACTION 1) unless a further fault of it is pending, and PC is TREC3. -/
def Strand.leaveTrap (st : Strand) : Strand :=
  let action := bf (st.sysv 0x040) 34 2
  let st := st.closeWindow 8
  let st := st.popFrame
  let st := { st with loops := lpsWrite st.heldLoops (st.sysv 0x045), heldLoops := [],
                      rep := RepState.ofWord (st.sysv 0x044), afterCall := none, stall := none, jobs := [], moved := 0, boundary := false }
  let st := st.setSys 0x001 (st.sysv 0x046 &&& 0x1F07)
  let st := match srcQueue (bf (st.sysv 0x040) 32 2) with
    | some q =>
      let v := if action == 1 then (st.queue q).dropCmd st.trapped else st.queue q
      st.setQueue q { v with stopped := st.pend.any fun p => p.src == bf (st.sysv 0x040) 32 2, cur := v.cur.map fun c : Cmd => ({ c with since := st.cyc } : Cmd) }
    | none => st
  { st with pc := st.sysv 0x043 }

/-- ERET (R171): outside a handler fault 0x03; ACTION 2 ends the task. -/
def State.eret (s : State) : WRes :=
  if !s.st.intrap then flt 0x03 0
  else if bf (s.st.sysv 0x040) 34 2 == 2 then
    let code := bf (s.st.sysv 0x040) 0 8
    .ok ((s.logFault s.st.part 2 0 0 s.st.taskNo s.st.placement (s.st.sysv 0x041) (word code)).endTask s.st code true)
  else s.awaitJobs 0 s.st.popJobs (.ok { s with st := s.st.leaveTrap })

end Sys2Proof.Machine
end

