-- ==== Sys2Proof/Machine/Flags.lean ====
section
/-! DEFINITION. Conditions and flags: the comparisons of branches, GSET and the set words (R78, R90, R99), and the sticky
flags of STATUS (R28, R29). No scalar word sets a flag (R77). -/

namespace Sys2Proof.Machine

/-- R90: the comparisons EQ, NE, LT, GE, LTN, GEN; the first six codes of GSET (R99). -/
inductive Cond where
  | eq
  | ne
  | lt
  | ge
  | ltn
  | gen
deriving DecidableEq, Repr

/-- Signed comparisons for lt and ge, unsigned for ltn and gen. -/
def Cond.holds (c : Cond) (a b : Word) : Bool :=
  match c with
  | .eq => a == b
  | .ne => a != b
  | .lt => a.slt b
  | .ge => !a.slt b
  | .ltn => a.ult b
  | .gen => !a.ult b

/-- R99: the comparison a GSET code 0-6 makes; code 6 (NZ) tests a alone. -/
def gsetTest (code : Nat) (a b : Word) : Bool :=
  match code with
  | 0 => Cond.eq.holds a b
  | 1 => Cond.ne.holds a b
  | 2 => Cond.lt.holds a b
  | 3 => Cond.ge.holds a b
  | 4 => Cond.ltn.holds a b
  | 5 => Cond.gen.holds a b
  | _ => a != 0

/-- R29: the sticky flags of a performed V command are ORed into STATUS[12:8]. -/
def Strand.orFlags (st : Strand) (f : FFlags) : Strand :=
  st.setSys 0x001 (st.status ||| (f.setWidth 64 <<< 8))

end Sys2Proof.Machine
end

