-- ==== Sys2Proof/Machine/Operands.lean ====
section
/-! DEFINITION. Operand forms: immediates (R80, R81), displacements (R90, R91), the steps of REP (R51), and what an engine
word captures when it is enqueued (R16, R20, R45, R49, R195). -/

namespace Sys2Proof.Machine

/-- A 14-bit immediate, sign-extended (R80). -/
def imm14 (i : BitVec 14) : Word := i.signExtend 64

/-- A 20-bit immediate, sign-extended (R81). -/
def imm20 (i : BitVec 20) : Word := i.signExtend 64

/-- A branch target: pc + sext(d) * 4 (R90). -/
def branchTarget (pc : Word) (i : BitVec 14) : Word := pc + imm14 i * 4

/-- A jump target: pc + sext(imm20) * 4 (R91). -/
def jumpTarget (pc : Word) (i : BitVec 20) : Word := pc + imm20 i * 4

/-- A word's low half sign-extended (Table 4.2). -/
def sext32 (w : W32) : Word := w.signExtend 64

/-- A word's low half zero-extended. -/
def zext32 (w : W32) : Word := w.setWidth 64

/-- The low half of a word. -/
def low32 (w : Word) : W32 := w.setWidth 32

/-! ### REP steps (R51) -/

/-- The step codes: 0 +0, 1 +1, 2 +2, 3 -1 (Table 2.2). -/
def stepOf (c : BitVec 2) : Int := if c == 0 then 0 else if c == 1 then 1 else if c == 2 then 2 else -1

/-- Register field n on issue k, wrapped in its set of m. -/
def stepField {w : Nat} (n : BitVec w) (k : Nat) (c : BitVec 2) (m : Nat) : BitVec w :=
  BitVec.ofNat w (((n.toNat : Int) + k * stepOf c) % (m : Int)).toNat

/-! ### Capture at enqueue -/

/-- R16: the physical register of a windowed name v0-v11; v12-v15 are 124-127. -/
def Strand.physV (st : Strand) (n : Nat) : Nat := if n ≥ 12 then 124 + (n - 12) else (st.vwp + n) % 124

/-- R20: a V source name: a bound stream with the number of its binding, or a register. -/
def Strand.vsrc (st : Strand) (n : BitVec 4) : VSrc :=
  if n.toNat ≥ 12 && st.qname.getD (n.toNat - 12) false then
    .stream (n.toNat - 12) (st.qbinds.getD (n.toNat - 12) 0)
  else .reg (st.physV n.toNat)

/-- R20: a V destination name; a bound one faults at issue. -/
def Strand.vdst (st : Strand) (n : BitVec 4) : VDst :=
  if n.toNat ≥ 12 && st.qname.getD (n.toNat - 12) false then .bound (n.toNat - 12) else .vec (st.physV n.toNat)

/-- R26: word n of the constant bank. -/
def Strand.const (st : Strand) (n : Nat) : W32 := SMap.get 0 st.bank n

/-- R45: a broadcast source as captured at enqueue. -/
def Strand.bsrc (st : Strand) (b : BSrc) : W32 :=
  match b with
  | .const n => st.const n.toNat
  | .scalar n => low32 (st.rs (baseReg n))
  | .literal w => w

/-- R45: the literal of a broadcast word takes the place of one word more. -/
def bcastBytes (b : BSrc) : Nat :=
  match b with
  | .literal _ => 8
  | _ => 4

/-- R49: a C word's scalar operand s(16+n). -/
def Strand.base (st : Strand) (n : BitVec 4) : Word := st.rs (baseReg n)

/-- R22: the guard reference a word captures; g0 is always true. -/
def Strand.capture (st : Strand) (g : Nat) : Option GuardRef :=
  if g == 0 then none else some ⟨g, (st.guardSlot g).gid⟩

/-- R43: the guard slot of a V word: COND 12-15 name g1-g4. -/
def condGuard (c : BitVec 4) : Nat := if c.toNat ≥ 12 then c.toNat - 11 else 0

/-- R43: the lane predicate of a V word: COND 0-11 name p0-p11; a guarded word acts as under p0. -/
def condPred (c : BitVec 4) : Nat := if c.toNat < 12 then c.toNat else 0

end Sys2Proof.Machine
end

