-- ==== Sys2Proof/Machine/Rep.lean ====
section
/-! DEFINITION. What REP does to its target (R51, Table 2.8), and the scalar registers a word names, for the interlock of
R77. -/

namespace Sys2Proof.Machine

/-- Table 2.8: whether an instruction may be the target of REP, and which of its three register fields step. -/
def repMask : Instr → Option (Bool × Bool × Bool)
  | .lui _ _ => none
  | .fli _ _ => none
  | .addpc _ _ => none
  | .j _ => none
  | .call _ => none
  | .rep _ _ _ _ => none
  | .loopb _ _ _ _ _ => none
  | .add _ _ _ => some (true, true, true)
  | .sub _ _ _ => some (true, true, true)
  | .mul _ _ _ => some (true, true, true)
  | .mulh _ _ _ => some (true, true, true)
  | .mulhn _ _ _ => some (true, true, true)
  | .div _ _ _ => some (true, true, true)
  | .divn _ _ _ => some (true, true, true)
  | .rem _ _ _ => some (true, true, true)
  | .remn _ _ _ => some (true, true, true)
  | .and _ _ _ => some (true, true, true)
  | .or _ _ _ => some (true, true, true)
  | .xor _ _ _ => some (true, true, true)
  | .andn _ _ _ => some (true, true, true)
  | .shl _ _ _ => some (true, true, true)
  | .shr _ _ _ => some (true, true, true)
  | .sra _ _ _ => some (true, true, true)
  | .min _ _ _ => some (true, true, true)
  | .minn _ _ _ => some (true, true, true)
  | .max _ _ _ => some (true, true, true)
  | .maxn _ _ _ => some (true, true, true)
  | .seq _ _ _ => some (true, true, true)
  | .slt _ _ _ => some (true, true, true)
  | .sltn _ _ _ => some (true, true, true)
  | .clz _ _ => some (true, true, true)
  | .ctz _ _ => some (true, true, true)
  | .popc _ _ => some (true, true, true)
  | .addw _ _ _ => some (true, true, true)
  | .subw _ _ _ => some (true, true, true)
  | .mulw _ _ _ => some (true, true, true)
  | .addi _ _ _ => some (true, true, false)
  | .andi _ _ _ => some (true, true, false)
  | .ori _ _ _ => some (true, true, false)
  | .xori _ _ _ => some (true, true, false)
  | .shli _ _ _ => some (true, true, false)
  | .shri _ _ _ => some (true, true, false)
  | .srai _ _ _ => some (true, true, false)
  | .slti _ _ _ => some (true, true, false)
  | .sltni _ _ _ => some (true, true, false)
  | .ld _ _ _ _ => none
  | .st _ _ _ _ => none
  | .amoAdd _ _ _ _ _ => none
  | .amoAnd _ _ _ _ _ => none
  | .amoOr _ _ _ _ _ => none
  | .amoXor _ _ _ _ _ => none
  | .amoMin _ _ _ _ _ => none
  | .amoMax _ _ _ _ _ => none
  | .amoMinn _ _ _ _ _ => none
  | .amoMaxn _ _ _ _ _ => none
  | .amoSwap _ _ _ _ _ => none
  | .amoCas _ _ _ _ _ => none
  | .amoFadd32 _ _ _ _ _ => none
  | .amoAddw _ _ _ _ _ => none
  | .amoCasw _ _ _ _ _ => none
  | .amoSwapw _ _ _ _ _ => none
  | .beq _ _ _ => none
  | .bne _ _ _ => none
  | .blt _ _ _ => none
  | .bge _ _ _ => none
  | .bltn _ _ _ => none
  | .bgen _ _ _ => none
  | .jr _ => none
  | .callr _ => none
  | .ret => none
  | .lit _ _ => none
  | .litn _ _ => none
  | .lith _ _ => none
  | .gset _ _ _ _ => none
  | .gsetUnres _ => none
  | .tkp _ _ => none
  | .tkw _ _ => none
  | .trap _ => none
  | .eretResume => none
  | .eretDiscard => none
  | .eretEnd => none
  | .srd _ _ => none
  | .swr _ _ => none
  | .fence _ _ => none
  | .nop => none
  | .refdDefer _ => none
  | .refdRelease _ => none
  | .refdRefreshNow _ => none
  | .inval _ => none
  | .wfe => none
  | .fork _ => none
  | .join => none
  | .syncs _ => none
  | .syncw _ => none
  | .syncc _ => none
  | .fid _ => none
  | .spawn _ _ => none
  | .signal _ => none
  | .tend => none
  | .bar => none
  | .barw _ _ => none
  | .bara => none
  | .yield => none
  | .wear _ => none
  | .enter _ => none
  | .cb _ _ => none
  | .loops _ _ => none
  | .vadd _ _ _ _ _ _ _ => some (true, true, true)
  | .vaddBcast _ _ _ _ _ => some (true, true, false)
  | .vsub _ _ _ _ _ _ _ => some (true, true, true)
  | .vsubBcast _ _ _ _ _ => some (true, true, false)
  | .vmul _ _ _ _ _ _ _ => some (true, true, true)
  | .vmulBcast _ _ _ _ _ => some (true, true, false)
  | .vmulh _ _ _ _ _ _ _ => some (true, true, true)
  | .vmulhBcast _ _ _ _ _ => some (true, true, false)
  | .vmulhn _ _ _ _ _ _ _ => some (true, true, true)
  | .vmulhnBcast _ _ _ _ _ => some (true, true, false)
  | .vmad _ _ _ _ _ _ _ => some (true, true, true)
  | .vmadBcast _ _ _ _ _ => some (true, true, false)
  | .vadds _ _ _ _ _ _ _ => some (true, true, true)
  | .vaddsBcast _ _ _ _ _ => some (true, true, false)
  | .vsubs _ _ _ _ _ _ _ => some (true, true, true)
  | .vsubsBcast _ _ _ _ _ => some (true, true, false)
  | .vaddsn _ _ _ _ _ _ _ => some (true, true, true)
  | .vaddsnBcast _ _ _ _ _ => some (true, true, false)
  | .vsubsn _ _ _ _ _ _ _ => some (true, true, true)
  | .vsubsnBcast _ _ _ _ _ => some (true, true, false)
  | .vmin _ _ _ _ _ _ _ => some (true, true, true)
  | .vminBcast _ _ _ _ _ => some (true, true, false)
  | .vmax _ _ _ _ _ _ _ => some (true, true, true)
  | .vmaxBcast _ _ _ _ _ => some (true, true, false)
  | .vminn _ _ _ _ _ _ _ => some (true, true, true)
  | .vminnBcast _ _ _ _ _ => some (true, true, false)
  | .vmaxn _ _ _ _ _ _ _ => some (true, true, true)
  | .vmaxnBcast _ _ _ _ _ => some (true, true, false)
  | .vabs _ _ _ _ _ _ => some (true, true, false)
  | .vand _ _ _ _ _ _ _ => some (true, true, true)
  | .vandBcast _ _ _ _ _ => some (true, true, false)
  | .vor _ _ _ _ _ _ _ => some (true, true, true)
  | .vorBcast _ _ _ _ _ => some (true, true, false)
  | .vxor _ _ _ _ _ _ _ => some (true, true, true)
  | .vxorBcast _ _ _ _ _ => some (true, true, false)
  | .vandn _ _ _ _ _ _ _ => some (true, true, true)
  | .vandnBcast _ _ _ _ _ => some (true, true, false)
  | .vshl _ _ _ _ _ _ _ => some (true, true, true)
  | .vshlBcast _ _ _ _ _ => some (true, true, false)
  | .vshr _ _ _ _ _ _ _ => some (true, true, true)
  | .vshrBcast _ _ _ _ _ => some (true, true, false)
  | .vsra _ _ _ _ _ _ _ => some (true, true, true)
  | .vsraBcast _ _ _ _ _ => some (true, true, false)
  | .vclz _ _ _ _ _ _ => some (true, true, false)
  | .vpopc _ _ _ _ _ _ => some (true, true, false)
  | .vcmp _ _ _ _ _ _ _ => some (true, true, true)
  | .vcmpn _ _ _ _ _ _ _ => some (true, true, true)
  | .fadd _ _ _ _ _ _ _ => some (true, true, true)
  | .faddBcast _ _ _ _ _ => some (true, true, false)
  | .fsub _ _ _ _ _ _ _ => some (true, true, true)
  | .fsubBcast _ _ _ _ _ => some (true, true, false)
  | .fmul _ _ _ _ _ _ _ => some (true, true, true)
  | .fmulBcast _ _ _ _ _ => some (true, true, false)
  | .ffma _ _ _ _ _ _ _ => some (true, true, true)
  | .ffmaBcast _ _ _ _ _ => some (true, true, false)
  | .ffms _ _ _ _ _ _ _ => some (true, true, true)
  | .ffmsBcast _ _ _ _ _ => some (true, true, false)
  | .fmin _ _ _ _ _ _ _ => some (true, true, true)
  | .fminBcast _ _ _ _ _ => some (true, true, false)
  | .fmax _ _ _ _ _ _ _ => some (true, true, true)
  | .fmaxBcast _ _ _ _ _ => some (true, true, false)
  | .fabs _ _ _ _ _ _ => some (true, true, false)
  | .fneg _ _ _ _ _ _ => some (true, true, false)
  | .frcp _ _ _ _ _ _ => some (true, true, false)
  | .frsq _ _ _ _ _ _ => some (true, true, false)
  | .fexp2 _ _ _ _ _ _ => some (true, true, false)
  | .flog2 _ _ _ _ _ _ => some (true, true, false)
  | .fcmp _ _ _ _ _ _ _ => some (true, true, true)
  | .fclass _ _ _ _ _ _ => some (true, true, false)
  | .vcvt _ _ _ _ _ _ => some (true, true, false)
  | .vscale _ _ _ _ _ _ _ => some (true, true, true)
  | .vqpack _ _ _ _ _ _ => some (true, true, false)
  | .vqunpk _ _ _ _ _ _ => some (true, true, false)
  | .vsel _ _ _ _ _ _ => some (true, true, true)
  | .vperm _ _ _ _ _ _ _ => some (true, true, true)
  | .vbcasts _ _ _ _ _ _ => some (true, true, false)
  | .vredadd _ _ _ _ _ _ _ => some (true, true, false)
  | .vredmax _ _ _ _ _ _ _ => some (true, true, false)
  | .vshf _ _ _ _ _ _ => some (true, true, false)
  | .vxtr _ _ _ _ _ => some (false, true, false)
  | .plog _ _ _ _ _ _ => some (true, true, true)
  | .pset _ _ _ _ _ _ => some (true, false, false)
  | .ptst _ _ _ => some (false, true, false)
  | .tld _ _ _ _ _ _ => some (true, true, false)
  | .tst _ _ _ _ _ _ => some (true, true, false)
  | .tldx _ _ _ _ _ _ _ => some (true, true, true)
  | .tstx _ _ _ _ _ _ _ => some (true, true, true)
  | .gld _ _ _ _ _ _ => some (true, true, true)
  | .gst _ _ _ _ _ _ => some (true, true, true)
  | .gldp _ _ _ _ _ _ => some (true, true, true)
  | .gamoAdd _ _ _ _ _ _ => some (true, true, true)
  | .gamoMin _ _ _ _ _ => some (true, true, true)
  | .gamoMax _ _ _ _ _ => some (true, true, true)
  | .gamoSwap _ _ _ _ _ => some (true, true, true)
  | .vnop _ _ => none
  | .vfence _ _ => none
  | .tcfg _ _ _ _ _ => none
  | .tzero _ _ _ _ => some (true, false, false)
  | .dot _ _ _ _ _ _ _ => some (true, true, true)
  | .dotc _ _ _ _ _ _ _ _ => some (true, true, true)
  | .sbppt _ _ _ _ _ _ => some (true, true, false)
  | .sbpsc _ _ _ _ _ _ => some (true, true, false)
  | .sbpma _ _ _ _ _ _ => some (true, true, false)
  | .sbpd _ _ _ _ _ _ _ => some (true, true, true)
  | .tout _ _ _ _ _ _ _ => some (true, true, false)
  | .tin _ _ _ _ _ _ => some (true, true, false)
  | .fmtw _ _ _ _ _ _ _ _ => none
  | .tdef _ _ _ _ => some (true, false, false)
  | .cpy _ f _ _ _ _ _ _ => if f.isNone then some (true, false, false) else none
  | .cpyb _ f _ _ _ _ _ => if f.isNone then some (true, false, false) else none
  | .cpyx _ f _ _ _ _ => if f.isNone then some (true, false, false) else none
  | .cpyr _ f _ _ _ _ _ _ => if f.isNone then some (true, false, false) else none
  | .cpye _ _ _ _ _ _ _ _ _ => none
  | .trel _ _ _ => some (true, false, false)
  | .qbind _ _ _ _ _ _ => none
  | .qunb _ _ _ => none
  | .qfence _ _ _ _ => none
  | .vlogClaim _ => none
  | .mbRead _ => none
  | .engineStateWrite _ _ => none
  | .cbaseWrite _ => none
  | .fqheadClaim _ => none
  | .fqCompleteResume _ => none
  | .fqCompleteFault _ => none
  | .fqCompleteKill _ => none
  | .fqstatWrite _ => none
  | .registerWrite _ _ => none
  | .creqAck _ _ => none
  | .uniso _ => none
  | .controlBlockWrite _ _ => none
  | .spillTransfer => none
  | .vIssue _ => none
  | .vPerformed => none
  | .dPerformed => none
  | .copyBegin => none
  | .copyPerformed => none
  | .copyDataFault _ _ => none
  | .commandDiscard _ => none
  | .guardResolutionVisible => none
  | .loopbIteration _ => none
  | .streamGroupDecode _ => none
  | .gather => none
  | .gatherPartnerTimeout => none
  | .tokenWatchdog _ => none
  | .tkwWatchdog => none
  | .tileWaitWatchdog => none
  | .wfeTimeout => none
  | .trapEntry => none
  | .checkerMismatch => none
  | .checkerTimeout => none
  | .dPoisonConsumed => none
  | .windowRollback => none
  | .tileRefetch => none
  | .pageWalk _ _ _ => none
  | .heldFaultPost _ => none
  | .handlerSignal _ => none
  | .outboundDrain _ _ _ => none
  | .homeWriteMerge _ => none
  | .homeAtomic _ => none
  | .routerMerge _ _ => none
  | .mergedReplySplit => none
  | .barrierArrival => none
  | .barwLimitExpiry => none
  | .invalMarker => none
  | .schedulerDecision _ _ => none
  | .dispatchComplete => none
  | .startReached _ => none
  | .deadlineMiss _ => none
  | .pressSave => none
  | .pressSaveDone => none
  | .stressUpdate _ _ _ _ => none
  | .lifetimeRecordWrite => none
  | .calendarSlot _ _ => none
  | .burstLand _ _ => none
  | .hbmLinkCrcFail _ => none
  | .channelRetrainDone _ _ => none
  | .refreshDue _ _ => none
  | .refreshBurst _ _ _ _ => none
  | .refreshGuard _ _ => none
  | .cellRemap _ _ _ => none
  | .d2dFlitCrcFail => none
  | .d2dRetrainDone _ => none
  | .expanderPoisonResponse _ => none
  | .expanderTimeout _ => none
  | .write _ _ _ _ => none
  | .read _ _ _ => none
  | .launch _ _ _ => none
  | .load _ _ _ => none
  | .unload _ _ => none
  | .transportSignal _ _ => none
  | .sequenceGapTimeout _ => none
  | .sessionOpen _ _ _ => none
  | .partitionConfigure _ => none
  | .partitionReset _ => none
  | .warmReset => none
  | .coldReset _ => none
  | .quote _ => none
  | .governorStep _ _ => none
  | .thermalTrip => none
  | .remoteRequest _ => none
  | .scaleupLinkCrcFail _ => none
  | .scaleupRetrainDone _ _ => none
  | .reachabilityChange _ _ => none
  | .fabricArrivalMsg _ _ _ => none
  | .fabricReleaseMsg _ => none
  | .ptpMessage _ _ => none
  | .holdover => none
  | .loadValueReturn _ => none
  | .powerFailure => none
  | .switchFailure _ => none
  | .preemptRequest => none
  | .measurementExtend _ _ => none

/-- The steps of a decoded target. -/
def repMaskOf (r : Except Reject Instr) : Option (Bool × Bool × Bool) :=
  match r with
  | .ok i => repMask i
  | .error _ => none

/-- R51: whether the form of a word is one REP may repeat, and which of its register fields step, by its class and op alone: a
permitted word that breaks a decode rule of its own faults in its own turn (R34). -/
def repForm (w : W32) : Option (Bool × Bool × Bool) :=
  match (fld w 30 2).toNat with
  | 0 =>
    let sop := (fld w 24 5).toNat
    if fld w 29 1 == 1 || 7 < sop then none else some (true, true, sop == 0)
  | 1 =>
    let op := fld w 16 6
    if op == 63 then none
    else if fld w 0 2 == 3 then some (true, true, false)
    else repMaskOf (decodeVector op 0 0 0 0 0 (if 59 ≤ op && op ≤ 61 then 3 else 0) 0)
  | 2 =>
    let op := (fld w 17 5).toNat
    if op == 0 || op == 10 then none else if 10 < op then some (false, false, false) else repMaskOf (decodeDot (fld w 17 5) 0 0 0 0)
  | _ => if fld w 25 1 == 1 then none else repMaskOf (decodeCopy (fld w 17 5) 0 false 0 0 0)

/-- R51: the instruction on issue k of a REP with steps s1, s2, s3. -/
def stepInstr (k : Nat) (s1 s2 s3 : BitVec 2) : Instr → Instr
  | .lui d i => .lui d i
  | .fli d i => .fli d i
  | .addpc d i => .addpc d i
  | .j i => .j i
  | .call i => .call i
  | .rep c b a n => .rep c b a n
  | .loopb r v d c l => .loopb r v d c l
  | .add d a b => .add (stepField d k s1 32) (stepField a k s2 32) (stepField b k s3 32)
  | .sub d a b => .sub (stepField d k s1 32) (stepField a k s2 32) (stepField b k s3 32)
  | .mul d a b => .mul (stepField d k s1 32) (stepField a k s2 32) (stepField b k s3 32)
  | .mulh d a b => .mulh (stepField d k s1 32) (stepField a k s2 32) (stepField b k s3 32)
  | .mulhn d a b => .mulhn (stepField d k s1 32) (stepField a k s2 32) (stepField b k s3 32)
  | .div d a b => .div (stepField d k s1 32) (stepField a k s2 32) (stepField b k s3 32)
  | .divn d a b => .divn (stepField d k s1 32) (stepField a k s2 32) (stepField b k s3 32)
  | .rem d a b => .rem (stepField d k s1 32) (stepField a k s2 32) (stepField b k s3 32)
  | .remn d a b => .remn (stepField d k s1 32) (stepField a k s2 32) (stepField b k s3 32)
  | .and d a b => .and (stepField d k s1 32) (stepField a k s2 32) (stepField b k s3 32)
  | .or d a b => .or (stepField d k s1 32) (stepField a k s2 32) (stepField b k s3 32)
  | .xor d a b => .xor (stepField d k s1 32) (stepField a k s2 32) (stepField b k s3 32)
  | .andn d a b => .andn (stepField d k s1 32) (stepField a k s2 32) (stepField b k s3 32)
  | .shl d a b => .shl (stepField d k s1 32) (stepField a k s2 32) (stepField b k s3 32)
  | .shr d a b => .shr (stepField d k s1 32) (stepField a k s2 32) (stepField b k s3 32)
  | .sra d a b => .sra (stepField d k s1 32) (stepField a k s2 32) (stepField b k s3 32)
  | .min d a b => .min (stepField d k s1 32) (stepField a k s2 32) (stepField b k s3 32)
  | .minn d a b => .minn (stepField d k s1 32) (stepField a k s2 32) (stepField b k s3 32)
  | .max d a b => .max (stepField d k s1 32) (stepField a k s2 32) (stepField b k s3 32)
  | .maxn d a b => .maxn (stepField d k s1 32) (stepField a k s2 32) (stepField b k s3 32)
  | .seq d a b => .seq (stepField d k s1 32) (stepField a k s2 32) (stepField b k s3 32)
  | .slt d a b => .slt (stepField d k s1 32) (stepField a k s2 32) (stepField b k s3 32)
  | .sltn d a b => .sltn (stepField d k s1 32) (stepField a k s2 32) (stepField b k s3 32)
  | .clz d a => .clz (stepField d k s1 32) (stepField a k s2 32)
  | .ctz d a => .ctz (stepField d k s1 32) (stepField a k s2 32)
  | .popc d a => .popc (stepField d k s1 32) (stepField a k s2 32)
  | .addw d a b => .addw (stepField d k s1 32) (stepField a k s2 32) (stepField b k s3 32)
  | .subw d a b => .subw (stepField d k s1 32) (stepField a k s2 32) (stepField b k s3 32)
  | .mulw d a b => .mulw (stepField d k s1 32) (stepField a k s2 32) (stepField b k s3 32)
  | .addi d a i => .addi (stepField d k s1 32) (stepField a k s2 32) i
  | .andi d a i => .andi (stepField d k s1 32) (stepField a k s2 32) i
  | .ori d a i => .ori (stepField d k s1 32) (stepField a k s2 32) i
  | .xori d a i => .xori (stepField d k s1 32) (stepField a k s2 32) i
  | .shli d a n => .shli (stepField d k s1 32) (stepField a k s2 32) n
  | .shri d a n => .shri (stepField d k s1 32) (stepField a k s2 32) n
  | .srai d a n => .srai (stepField d k s1 32) (stepField a k s2 32) n
  | .slti d a i => .slti (stepField d k s1 32) (stepField a k s2 32) i
  | .sltni d a i => .sltni (stepField d k s1 32) (stepField a k s2 32) i
  | .ld d a z o => .ld d a z o
  | .st s a z o => .st s a z o
  | .amoAdd d a b c r => .amoAdd d a b c r
  | .amoAnd d a b c r => .amoAnd d a b c r
  | .amoOr d a b c r => .amoOr d a b c r
  | .amoXor d a b c r => .amoXor d a b c r
  | .amoMin d a b c r => .amoMin d a b c r
  | .amoMax d a b c r => .amoMax d a b c r
  | .amoMinn d a b c r => .amoMinn d a b c r
  | .amoMaxn d a b c r => .amoMaxn d a b c r
  | .amoSwap d a b c r => .amoSwap d a b c r
  | .amoCas d a b c r => .amoCas d a b c r
  | .amoFadd32 d a b c r => .amoFadd32 d a b c r
  | .amoAddw d a b c r => .amoAddw d a b c r
  | .amoCasw d a b c r => .amoCasw d a b c r
  | .amoSwapw d a b c r => .amoSwapw d a b c r
  | .beq a b i => .beq a b i
  | .bne a b i => .bne a b i
  | .blt a b i => .blt a b i
  | .bge a b i => .bge a b i
  | .bltn a b i => .bltn a b i
  | .bgen a b i => .bgen a b i
  | .jr t => .jr t
  | .callr t => .callr t
  | .ret => .ret
  | .lit d lit => .lit d lit
  | .litn d lit => .litn d lit
  | .lith d lit => .lith d lit
  | .gset s a b c => .gset s a b c
  | .gsetUnres s => .gsetUnres s
  | .tkp c n => .tkp c n
  | .tkw c n => .tkw c n
  | .trap n => .trap n
  | .eretResume => .eretResume
  | .eretDiscard => .eretDiscard
  | .eretEnd => .eretEnd
  | .srd d i => .srd d i
  | .swr s i => .swr s i
  | .fence k c => .fence k c
  | .nop => .nop
  | .refdDefer s => .refdDefer s
  | .refdRelease s => .refdRelease s
  | .refdRefreshNow s => .refdRefreshNow s
  | .inval s => .inval s
  | .wfe => .wfe
  | .fork a => .fork a
  | .join => .join
  | .syncs n => .syncs n
  | .syncw n => .syncw n
  | .syncc n => .syncc n
  | .fid d => .fid d
  | .spawn d s => .spawn d s
  | .signal s => .signal s
  | .tend => .tend
  | .bar => .bar
  | .barw d s => .barw d s
  | .bara => .bara
  | .yield => .yield
  | .wear d => .wear d
  | .enter v => .enter v
  | .cb d n => .cb d n
  | .loops r l => .loops r l
  | .vadd t c d a b l y => .vadd t c (stepField d k s1 16) (stepField a k s2 16) (stepField b k s3 16) l y
  | .vaddBcast t c d a s => .vaddBcast t c (stepField d k s1 16) (stepField a k s2 16) s
  | .vsub t c d a b l y => .vsub t c (stepField d k s1 16) (stepField a k s2 16) (stepField b k s3 16) l y
  | .vsubBcast t c d a s => .vsubBcast t c (stepField d k s1 16) (stepField a k s2 16) s
  | .vmul t c d a b l y => .vmul t c (stepField d k s1 16) (stepField a k s2 16) (stepField b k s3 16) l y
  | .vmulBcast t c d a s => .vmulBcast t c (stepField d k s1 16) (stepField a k s2 16) s
  | .vmulh t c d a b l y => .vmulh t c (stepField d k s1 16) (stepField a k s2 16) (stepField b k s3 16) l y
  | .vmulhBcast t c d a s => .vmulhBcast t c (stepField d k s1 16) (stepField a k s2 16) s
  | .vmulhn t c d a b l y => .vmulhn t c (stepField d k s1 16) (stepField a k s2 16) (stepField b k s3 16) l y
  | .vmulhnBcast t c d a s => .vmulhnBcast t c (stepField d k s1 16) (stepField a k s2 16) s
  | .vmad t c d a b l y => .vmad t c (stepField d k s1 16) (stepField a k s2 16) (stepField b k s3 16) l y
  | .vmadBcast t c d a s => .vmadBcast t c (stepField d k s1 16) (stepField a k s2 16) s
  | .vadds t c d a b l y => .vadds t c (stepField d k s1 16) (stepField a k s2 16) (stepField b k s3 16) l y
  | .vaddsBcast t c d a s => .vaddsBcast t c (stepField d k s1 16) (stepField a k s2 16) s
  | .vsubs t c d a b l y => .vsubs t c (stepField d k s1 16) (stepField a k s2 16) (stepField b k s3 16) l y
  | .vsubsBcast t c d a s => .vsubsBcast t c (stepField d k s1 16) (stepField a k s2 16) s
  | .vaddsn t c d a b l y => .vaddsn t c (stepField d k s1 16) (stepField a k s2 16) (stepField b k s3 16) l y
  | .vaddsnBcast t c d a s => .vaddsnBcast t c (stepField d k s1 16) (stepField a k s2 16) s
  | .vsubsn t c d a b l y => .vsubsn t c (stepField d k s1 16) (stepField a k s2 16) (stepField b k s3 16) l y
  | .vsubsnBcast t c d a s => .vsubsnBcast t c (stepField d k s1 16) (stepField a k s2 16) s
  | .vmin t c d a b l y => .vmin t c (stepField d k s1 16) (stepField a k s2 16) (stepField b k s3 16) l y
  | .vminBcast t c d a s => .vminBcast t c (stepField d k s1 16) (stepField a k s2 16) s
  | .vmax t c d a b l y => .vmax t c (stepField d k s1 16) (stepField a k s2 16) (stepField b k s3 16) l y
  | .vmaxBcast t c d a s => .vmaxBcast t c (stepField d k s1 16) (stepField a k s2 16) s
  | .vminn t c d a b l y => .vminn t c (stepField d k s1 16) (stepField a k s2 16) (stepField b k s3 16) l y
  | .vminnBcast t c d a s => .vminnBcast t c (stepField d k s1 16) (stepField a k s2 16) s
  | .vmaxn t c d a b l y => .vmaxn t c (stepField d k s1 16) (stepField a k s2 16) (stepField b k s3 16) l y
  | .vmaxnBcast t c d a s => .vmaxnBcast t c (stepField d k s1 16) (stepField a k s2 16) s
  | .vabs t c d a l y => .vabs t c (stepField d k s1 16) (stepField a k s2 16) l y
  | .vand t c d a b l y => .vand t c (stepField d k s1 16) (stepField a k s2 16) (stepField b k s3 16) l y
  | .vandBcast t c d a s => .vandBcast t c (stepField d k s1 16) (stepField a k s2 16) s
  | .vor t c d a b l y => .vor t c (stepField d k s1 16) (stepField a k s2 16) (stepField b k s3 16) l y
  | .vorBcast t c d a s => .vorBcast t c (stepField d k s1 16) (stepField a k s2 16) s
  | .vxor t c d a b l y => .vxor t c (stepField d k s1 16) (stepField a k s2 16) (stepField b k s3 16) l y
  | .vxorBcast t c d a s => .vxorBcast t c (stepField d k s1 16) (stepField a k s2 16) s
  | .vandn t c d a b l y => .vandn t c (stepField d k s1 16) (stepField a k s2 16) (stepField b k s3 16) l y
  | .vandnBcast t c d a s => .vandnBcast t c (stepField d k s1 16) (stepField a k s2 16) s
  | .vshl t c d a b l y => .vshl t c (stepField d k s1 16) (stepField a k s2 16) (stepField b k s3 16) l y
  | .vshlBcast t c d a s => .vshlBcast t c (stepField d k s1 16) (stepField a k s2 16) s
  | .vshr t c d a b l y => .vshr t c (stepField d k s1 16) (stepField a k s2 16) (stepField b k s3 16) l y
  | .vshrBcast t c d a s => .vshrBcast t c (stepField d k s1 16) (stepField a k s2 16) s
  | .vsra t c d a b l y => .vsra t c (stepField d k s1 16) (stepField a k s2 16) (stepField b k s3 16) l y
  | .vsraBcast t c d a s => .vsraBcast t c (stepField d k s1 16) (stepField a k s2 16) s
  | .vclz t c d a l y => .vclz t c (stepField d k s1 16) (stepField a k s2 16) l y
  | .vpopc t c d a l y => .vpopc t c (stepField d k s1 16) (stepField a k s2 16) l y
  | .vcmp t c d a b l y => .vcmp t c (stepField d k s1 12) (stepField a k s2 16) (stepField b k s3 16) l y
  | .vcmpn t c d a b l y => .vcmpn t c (stepField d k s1 12) (stepField a k s2 16) (stepField b k s3 16) l y
  | .fadd t c d a b l y => .fadd t c (stepField d k s1 16) (stepField a k s2 16) (stepField b k s3 16) l y
  | .faddBcast t c d a s => .faddBcast t c (stepField d k s1 16) (stepField a k s2 16) s
  | .fsub t c d a b l y => .fsub t c (stepField d k s1 16) (stepField a k s2 16) (stepField b k s3 16) l y
  | .fsubBcast t c d a s => .fsubBcast t c (stepField d k s1 16) (stepField a k s2 16) s
  | .fmul t c d a b l y => .fmul t c (stepField d k s1 16) (stepField a k s2 16) (stepField b k s3 16) l y
  | .fmulBcast t c d a s => .fmulBcast t c (stepField d k s1 16) (stepField a k s2 16) s
  | .ffma t c d a b l y => .ffma t c (stepField d k s1 16) (stepField a k s2 16) (stepField b k s3 16) l y
  | .ffmaBcast t c d a s => .ffmaBcast t c (stepField d k s1 16) (stepField a k s2 16) s
  | .ffms t c d a b l y => .ffms t c (stepField d k s1 16) (stepField a k s2 16) (stepField b k s3 16) l y
  | .ffmsBcast t c d a s => .ffmsBcast t c (stepField d k s1 16) (stepField a k s2 16) s
  | .fmin t c d a b l y => .fmin t c (stepField d k s1 16) (stepField a k s2 16) (stepField b k s3 16) l y
  | .fminBcast t c d a s => .fminBcast t c (stepField d k s1 16) (stepField a k s2 16) s
  | .fmax t c d a b l y => .fmax t c (stepField d k s1 16) (stepField a k s2 16) (stepField b k s3 16) l y
  | .fmaxBcast t c d a s => .fmaxBcast t c (stepField d k s1 16) (stepField a k s2 16) s
  | .fabs t c d a l y => .fabs t c (stepField d k s1 16) (stepField a k s2 16) l y
  | .fneg t c d a l y => .fneg t c (stepField d k s1 16) (stepField a k s2 16) l y
  | .frcp t c d a l y => .frcp t c (stepField d k s1 16) (stepField a k s2 16) l y
  | .frsq t c d a l y => .frsq t c (stepField d k s1 16) (stepField a k s2 16) l y
  | .fexp2 t c d a l y => .fexp2 t c (stepField d k s1 16) (stepField a k s2 16) l y
  | .flog2 t c d a l y => .flog2 t c (stepField d k s1 16) (stepField a k s2 16) l y
  | .fcmp t c d a b l y => .fcmp t c (stepField d k s1 12) (stepField a k s2 16) (stepField b k s3 16) l y
  | .fclass t c d a l y => .fclass t c (stepField d k s1 16) (stepField a k s2 16) l y
  | .vcvt t c d a b l => .vcvt t c (stepField d k s1 16) (stepField a k s2 16) b l
  | .vscale t c d a b l y => .vscale t c (stepField d k s1 16) (stepField a k s2 16) (stepField b k s3 16) l y
  | .vqpack t c d a b l => .vqpack t c (stepField d k s1 16) (stepField a k s2 16) b l
  | .vqunpk t c d a b l => .vqunpk t c (stepField d k s1 16) (stepField a k s2 16) b l
  | .vsel t c d a b l => .vsel t c (stepField d k s1 16) (stepField a k s2 16) (stepField b k s3 12) l
  | .vperm t c d a b l y => .vperm t c (stepField d k s1 16) (stepField a k s2 16) (stepField b k s3 16) l y
  | .vbcasts t c d a b l => .vbcasts t c (stepField d k s1 16) (stepField a k s2 16) b l
  | .vredadd t c d a b l y => .vredadd t c (stepField d k s1 16) (stepField a k s2 16) b l y
  | .vredmax t c d a b l y => .vredmax t c (stepField d k s1 16) (stepField a k s2 16) b l y
  | .vshf t c d a b l => .vshf t c (stepField d k s1 16) (stepField a k s2 16) b l
  | .vxtr t c a b l => .vxtr t c (stepField a k s2 16) b l
  | .plog t c d a b l => .plog t c (stepField d k s1 12) (stepField a k s2 12) (stepField b k s3 12) l
  | .pset t c d a b l => .pset t c (stepField d k s1 12) a b l
  | .ptst t c a => .ptst t c (stepField a k s2 12)
  | .tld t c d a b l => .tld t c (stepField d k s1 16) (stepField a k s2 16) b l
  | .tst t c d a b l => .tst t c (stepField d k s1 16) (stepField a k s2 16) b l
  | .tldx t c d a b l y => .tldx t c (stepField d k s1 16) (stepField a k s2 16) (stepField b k s3 16) l y
  | .tstx t c d a b l y => .tstx t c (stepField d k s1 16) (stepField a k s2 16) (stepField b k s3 16) l y
  | .gld t c d a b y => .gld t c (stepField d k s1 16) (stepField a k s2 16) (stepField b k s3 16) y
  | .gst t c d a b y => .gst t c (stepField d k s1 16) (stepField a k s2 16) (stepField b k s3 16) y
  | .gldp t c d a b y => .gldp t c (stepField d k s1 16) (stepField a k s2 16) (stepField b k s3 16) y
  | .gamoAdd t c d a b y => .gamoAdd t c (stepField d k s1 16) (stepField a k s2 16) (stepField b k s3 16) y
  | .gamoMin t c d a b => .gamoMin t c (stepField d k s1 16) (stepField a k s2 16) (stepField b k s3 16)
  | .gamoMax t c d a b => .gamoMax t c (stepField d k s1 16) (stepField a k s2 16) (stepField b k s3 16)
  | .gamoSwap t c d a b => .gamoSwap t c (stepField d k s1 16) (stepField a k s2 16) (stepField b k s3 16)
  | .vnop t c => .vnop t c
  | .vfence t c => .vfence t c
  | .tcfg t x g h k => .tcfg t x g h k
  | .tzero t x g a => .tzero t x g (stepField a k s1 16)
  | .dot t x g c a b s => .dot t x g (stepField c k s1 16) (stepField a k s2 64) (stepField b k s3 64) s
  | .dotc t x g c a z b s => .dotc t x g (stepField c k s1 16) (stepField a k s2 16) z (stepField b k s3 64) s
  | .sbppt t x g p w r => .sbppt t x g (stepField p k s1 4) (stepField w k s2 64) r
  | .sbpsc t x g p a s => .sbpsc t x g (stepField p k s1 4) (stepField a k s2 64) s
  | .sbpma t x g c p r => .sbpma t x g (stepField c k s1 16) (stepField p k s2 4) r
  | .sbpd t x g c w a s => .sbpd t x g (stepField c k s1 16) (stepField w k s2 64) (stepField a k s3 64) s
  | .tout t x g c a f e => .tout t x g (stepField c k s1 16) (stepField a k s2 64) f e
  | .tin t x g c a f => .tin t x g (stepField c k s1 16) (stepField a k s2 64) f
  | .fmtw t x g n a b o c => .fmtw t x g n a b o c
  | .tdef t g l a => .tdef t g (stepField l k s1 64) a
  | .cpy t f g l a b d p => .cpy t f g (stepField l k s1 64) a b d p
  | .cpyb t f g l a b p => .cpyb t f g (stepField l k s1 64) a b p
  | .cpyx t f g l a b => .cpyx t f g (stepField l k s1 64) a b
  | .cpyr t f g l a b d p => .cpyr t f g (stepField l k s1 64) a b d p
  | .cpye t f g a b c h p d => .cpye t f g a b c h p d
  | .trel t g l => .trel t g (stepField l k s1 64)
  | .qbind t g q a b c => .qbind t g q a b c
  | .qunb t g q => .qunb t g q
  | .qfence t g m s => .qfence t g m s
  | .vlogClaim d => .vlogClaim d
  | .mbRead d => .mbRead d
  | .engineStateWrite i s => .engineStateWrite i s
  | .cbaseWrite s => .cbaseWrite s
  | .fqheadClaim d => .fqheadClaim d
  | .fqCompleteResume s => .fqCompleteResume s
  | .fqCompleteFault s => .fqCompleteFault s
  | .fqCompleteKill s => .fqCompleteKill s
  | .fqstatWrite s => .fqstatWrite s
  | .registerWrite i s => .registerWrite i s
  | .creqAck cell bank => .creqAck cell bank
  | .uniso same => .uniso same
  | .controlBlockWrite off v => .controlBlockWrite off v
  | .spillTransfer => .spillTransfer
  | .vIssue gap => .vIssue gap
  | .vPerformed => .vPerformed
  | .dPerformed => .dPerformed
  | .copyBegin => .copyBegin
  | .copyPerformed => .copyPerformed
  | .copyDataFault k landed => .copyDataFault k landed
  | .commandDiscard q => .commandDiscard q
  | .guardResolutionVisible => .guardResolutionVisible
  | .loopbIteration q => .loopbIteration q
  | .streamGroupDecode q => .streamGroupDecode q
  | .gather => .gather
  | .gatherPartnerTimeout => .gatherPartnerTimeout
  | .tokenWatchdog q => .tokenWatchdog q
  | .tkwWatchdog => .tkwWatchdog
  | .tileWaitWatchdog => .tileWaitWatchdog
  | .wfeTimeout => .wfeTimeout
  | .trapEntry => .trapEntry
  | .checkerMismatch => .checkerMismatch
  | .checkerTimeout => .checkerTimeout
  | .dPoisonConsumed => .dPoisonConsumed
  | .windowRollback => .windowRollback
  | .tileRefetch => .tileRefetch
  | .pageWalk cluster part va => .pageWalk cluster part va
  | .heldFaultPost cluster => .heldFaultPost cluster
  | .handlerSignal part => .handlerSignal part
  | .outboundDrain die core n => .outboundDrain die core n
  | .homeWriteMerge home => .homeWriteMerge home
  | .homeAtomic n => .homeAtomic n
  | .routerMerge m n => .routerMerge m n
  | .mergedReplySplit => .mergedReplySplit
  | .barrierArrival => .barrierArrival
  | .barwLimitExpiry => .barwLimitExpiry
  | .invalMarker => .invalMarker
  | .schedulerDecision die part => .schedulerDecision die part
  | .dispatchComplete => .dispatchComplete
  | .startReached n => .startReached n
  | .deadlineMiss n => .deadlineMiss n
  | .pressSave => .pressSave
  | .pressSaveDone => .pressSaveDone
  | .stressUpdate die core bti em => .stressUpdate die core bti em
  | .lifetimeRecordWrite => .lifetimeRecordWrite
  | .calendarSlot channel slot => .calendarSlot channel slot
  | .burstLand corrected bad => .burstLand corrected bad
  | .hbmLinkCrcFail n => .hbmLinkCrcFail n
  | .channelRetrainDone channel ok => .channelRetrainDone channel ok
  | .refreshDue cell bank => .refreshDue cell bank
  | .refreshBurst cell bank corrected bad => .refreshBurst cell bank corrected bad
  | .refreshGuard cell bank => .refreshGuard cell bank
  | .cellRemap die core cell => .cellRemap die core cell
  | .d2dFlitCrcFail => .d2dFlitCrcFail
  | .d2dRetrainDone ok => .d2dRetrainDone ok
  | .expanderPoisonResponse n => .expanderPoisonResponse n
  | .expanderTimeout n => .expanderTimeout n
  | .write h va len data => .write h va len data
  | .read h va len => .read h va len
  | .launch h va image => .launch h va image
  | .load h va len => .load h va len
  | .unload h handle => .unload h handle
  | .transportSignal h va => .transportSignal h va
  | .sequenceGapTimeout session => .sequenceGapTimeout session
  | .sessionOpen session part chain => .sessionOpen session part chain
  | .partitionConfigure c => .partitionConfigure c
  | .partitionReset part => .partitionReset part
  | .warmReset => .warmReset
  | .coldReset b => .coldReset b
  | .quote nonce => .quote nonce
  | .governorStep power tj => .governorStep power tj
  | .thermalTrip => .thermalTrip
  | .remoteRequest r => .remoteRequest r
  | .scaleupLinkCrcFail link => .scaleupLinkCrcFail link
  | .scaleupRetrainDone link ok => .scaleupRetrainDone link ok
  | .reachabilityChange pkg up => .reachabilityChange pkg up
  | .fabricArrivalMsg dom pkg n => .fabricArrivalMsg dom pkg n
  | .fabricReleaseMsg dom => .fabricReleaseMsg dom
  | .ptpMessage grand offset => .ptpMessage grand offset
  | .holdover => .holdover
  | .loadValueReturn n => .loadValueReturn n
  | .powerFailure => .powerFailure
  | .switchFailure sw => .switchFailure sw
  | .preemptRequest => .preemptRequest
  | .measurementExtend reg digest => .measurementExtend reg digest

/-- The scalar register a broadcast source reads (R45). -/
def bcastRegs (s : BSrc) : List (BitVec 5) :=
  match s with
  | .scalar n => [baseReg n]
  | _ => []

/-- The scalar registers a word names (R12, R49). -/
def wordRegs : Instr → List (BitVec 5)
  | .lui d _ => [d]
  | .fli d _ => [d]
  | .addpc d _ => [d]
  | .j _ => []
  | .call _ => []
  | .rep _ _ _ _ => []
  | .loopb r _ _ _ _ => [r]
  | .add d a b => [d, a, b]
  | .sub d a b => [d, a, b]
  | .mul d a b => [d, a, b]
  | .mulh d a b => [d, a, b]
  | .mulhn d a b => [d, a, b]
  | .div d a b => [d, a, b]
  | .divn d a b => [d, a, b]
  | .rem d a b => [d, a, b]
  | .remn d a b => [d, a, b]
  | .and d a b => [d, a, b]
  | .or d a b => [d, a, b]
  | .xor d a b => [d, a, b]
  | .andn d a b => [d, a, b]
  | .shl d a b => [d, a, b]
  | .shr d a b => [d, a, b]
  | .sra d a b => [d, a, b]
  | .min d a b => [d, a, b]
  | .minn d a b => [d, a, b]
  | .max d a b => [d, a, b]
  | .maxn d a b => [d, a, b]
  | .seq d a b => [d, a, b]
  | .slt d a b => [d, a, b]
  | .sltn d a b => [d, a, b]
  | .clz d a => [d, a]
  | .ctz d a => [d, a]
  | .popc d a => [d, a]
  | .addw d a b => [d, a, b]
  | .subw d a b => [d, a, b]
  | .mulw d a b => [d, a, b]
  | .addi d a _ => [d, a]
  | .andi d a _ => [d, a]
  | .ori d a _ => [d, a]
  | .xori d a _ => [d, a]
  | .shli d a _ => [d, a]
  | .shri d a _ => [d, a]
  | .srai d a _ => [d, a]
  | .slti d a _ => [d, a]
  | .sltni d a _ => [d, a]
  | .ld d a _ _ => [d, a]
  | .st s a _ _ => [s, a]
  | .amoAdd d a b _ _ => [d, a, b]
  | .amoAnd d a b _ _ => [d, a, b]
  | .amoOr d a b _ _ => [d, a, b]
  | .amoXor d a b _ _ => [d, a, b]
  | .amoMin d a b _ _ => [d, a, b]
  | .amoMax d a b _ _ => [d, a, b]
  | .amoMinn d a b _ _ => [d, a, b]
  | .amoMaxn d a b _ _ => [d, a, b]
  | .amoSwap d a b _ _ => [d, a, b]
  | .amoCas d a b _ _ => [d, a, b]
  | .amoFadd32 d a b _ _ => [d, a, b]
  | .amoAddw d a b _ _ => [d, a, b]
  | .amoCasw d a b _ _ => [d, a, b]
  | .amoSwapw d a b _ _ => [d, a, b]
  | .beq a b _ => [a, b]
  | .bne a b _ => [a, b]
  | .blt a b _ => [a, b]
  | .bge a b _ => [a, b]
  | .bltn a b _ => [a, b]
  | .bgen a b _ => [a, b]
  | .jr t => [t]
  | .callr t => [t]
  | .ret => [9]
  | .lit d _ => [d]
  | .litn d _ => [d]
  | .lith d _ => [d]
  | .gset _ a b _ => [a, b]
  | .gsetUnres _ => []
  | .tkp _ _ => []
  | .tkw _ _ => []
  | .trap _ => []
  | .eretResume => []
  | .eretDiscard => []
  | .eretEnd => []
  | .srd d _ => [d]
  | .swr s _ => [s]
  | .fence _ _ => []
  | .nop => []
  | .refdDefer s => [s]
  | .refdRelease s => [s]
  | .refdRefreshNow s => [s]
  | .inval s => [s]
  | .wfe => []
  | .fork a => [a]
  | .join => []
  | .syncs _ => []
  | .syncw _ => []
  | .syncc _ => []
  | .fid d => [d]
  | .spawn d s => [d, s]
  | .signal s => [s]
  | .tend => []
  | .bar => []
  | .barw d s => [d, s]
  | .bara => []
  | .yield => []
  | .wear d => [d]
  | .enter _ => []
  | .cb d _ => [d]
  | .loops r _ => [r]
  | .vadd _ _ _ _ _ _ _ => []
  | .vaddBcast _ _ _ _ s => bcastRegs s
  | .vsub _ _ _ _ _ _ _ => []
  | .vsubBcast _ _ _ _ s => bcastRegs s
  | .vmul _ _ _ _ _ _ _ => []
  | .vmulBcast _ _ _ _ s => bcastRegs s
  | .vmulh _ _ _ _ _ _ _ => []
  | .vmulhBcast _ _ _ _ s => bcastRegs s
  | .vmulhn _ _ _ _ _ _ _ => []
  | .vmulhnBcast _ _ _ _ s => bcastRegs s
  | .vmad _ _ _ _ _ _ _ => []
  | .vmadBcast _ _ _ _ s => bcastRegs s
  | .vadds _ _ _ _ _ _ _ => []
  | .vaddsBcast _ _ _ _ s => bcastRegs s
  | .vsubs _ _ _ _ _ _ _ => []
  | .vsubsBcast _ _ _ _ s => bcastRegs s
  | .vaddsn _ _ _ _ _ _ _ => []
  | .vaddsnBcast _ _ _ _ s => bcastRegs s
  | .vsubsn _ _ _ _ _ _ _ => []
  | .vsubsnBcast _ _ _ _ s => bcastRegs s
  | .vmin _ _ _ _ _ _ _ => []
  | .vminBcast _ _ _ _ s => bcastRegs s
  | .vmax _ _ _ _ _ _ _ => []
  | .vmaxBcast _ _ _ _ s => bcastRegs s
  | .vminn _ _ _ _ _ _ _ => []
  | .vminnBcast _ _ _ _ s => bcastRegs s
  | .vmaxn _ _ _ _ _ _ _ => []
  | .vmaxnBcast _ _ _ _ s => bcastRegs s
  | .vabs _ _ _ _ _ _ => []
  | .vand _ _ _ _ _ _ _ => []
  | .vandBcast _ _ _ _ s => bcastRegs s
  | .vor _ _ _ _ _ _ _ => []
  | .vorBcast _ _ _ _ s => bcastRegs s
  | .vxor _ _ _ _ _ _ _ => []
  | .vxorBcast _ _ _ _ s => bcastRegs s
  | .vandn _ _ _ _ _ _ _ => []
  | .vandnBcast _ _ _ _ s => bcastRegs s
  | .vshl _ _ _ _ _ _ _ => []
  | .vshlBcast _ _ _ _ s => bcastRegs s
  | .vshr _ _ _ _ _ _ _ => []
  | .vshrBcast _ _ _ _ s => bcastRegs s
  | .vsra _ _ _ _ _ _ _ => []
  | .vsraBcast _ _ _ _ s => bcastRegs s
  | .vclz _ _ _ _ _ _ => []
  | .vpopc _ _ _ _ _ _ => []
  | .vcmp _ _ _ _ _ _ _ => []
  | .vcmpn _ _ _ _ _ _ _ => []
  | .fadd _ _ _ _ _ _ _ => []
  | .faddBcast _ _ _ _ s => bcastRegs s
  | .fsub _ _ _ _ _ _ _ => []
  | .fsubBcast _ _ _ _ s => bcastRegs s
  | .fmul _ _ _ _ _ _ _ => []
  | .fmulBcast _ _ _ _ s => bcastRegs s
  | .ffma _ _ _ _ _ _ _ => []
  | .ffmaBcast _ _ _ _ s => bcastRegs s
  | .ffms _ _ _ _ _ _ _ => []
  | .ffmsBcast _ _ _ _ s => bcastRegs s
  | .fmin _ _ _ _ _ _ _ => []
  | .fminBcast _ _ _ _ s => bcastRegs s
  | .fmax _ _ _ _ _ _ _ => []
  | .fmaxBcast _ _ _ _ s => bcastRegs s
  | .fabs _ _ _ _ _ _ => []
  | .fneg _ _ _ _ _ _ => []
  | .frcp _ _ _ _ _ _ => []
  | .frsq _ _ _ _ _ _ => []
  | .fexp2 _ _ _ _ _ _ => []
  | .flog2 _ _ _ _ _ _ => []
  | .fcmp _ _ _ _ _ _ _ => []
  | .fclass _ _ _ _ _ _ => []
  | .vcvt _ _ _ _ _ _ => []
  | .vscale _ _ _ _ _ _ _ => []
  | .vqpack _ _ _ _ _ _ => []
  | .vqunpk _ _ _ _ _ _ => []
  | .vsel _ _ _ _ _ _ => []
  | .vperm _ _ _ _ _ _ _ => []
  | .vbcasts _ _ _ _ _ _ => []
  | .vredadd _ _ _ _ _ _ _ => []
  | .vredmax _ _ _ _ _ _ _ => []
  | .vshf _ _ _ _ _ _ => []
  | .vxtr _ _ _ _ _ => []
  | .plog _ _ _ _ _ _ => []
  | .pset _ _ _ _ _ _ => []
  | .ptst _ _ _ => []
  | .tld _ _ _ a _ _ => [baseReg a]
  | .tst _ _ _ a _ _ => [baseReg a]
  | .tldx _ _ _ a _ _ _ => [baseReg a]
  | .tstx _ _ _ a _ _ _ => [baseReg a]
  | .gld _ _ _ a _ _ => [baseReg a]
  | .gst _ _ _ a _ _ => [baseReg a]
  | .gldp _ _ _ a _ _ => [baseReg a]
  | .gamoAdd _ _ _ a _ _ => [baseReg a]
  | .gamoMin _ _ _ a _ => [baseReg a]
  | .gamoMax _ _ _ a _ => [baseReg a]
  | .gamoSwap _ _ _ a _ => [baseReg a]
  | .vnop _ _ => []
  | .vfence _ _ => []
  | .tcfg _ _ _ _ _ => []
  | .tzero _ _ _ _ => []
  | .dot _ _ _ _ _ _ _ => []
  | .dotc _ _ _ _ _ _ _ _ => []
  | .sbppt _ _ _ _ _ _ => []
  | .sbpsc _ _ _ _ _ _ => []
  | .sbpma _ _ _ _ _ _ => []
  | .sbpd _ _ _ _ _ _ _ => []
  | .tout _ _ _ _ _ _ _ => []
  | .tin _ _ _ _ _ _ => []
  | .fmtw _ _ _ _ _ _ _ _ => []
  | .tdef _ _ _ a => [baseReg a]
  | .cpy _ _ _ _ a b _ _ => [baseReg a, baseReg b]
  | .cpyb _ _ _ _ a b _ => [baseReg a, baseReg b]
  | .cpyx _ _ _ _ a b => [baseReg a, baseReg b]
  | .cpyr _ _ _ _ a b _ _ => [baseReg a, baseReg b]
  | .cpye _ _ _ a b c _ _ _ => [baseReg a, baseReg b, baseReg c]
  | .trel _ _ _ => []
  | .qbind _ _ _ a b c => [baseReg a, baseReg b, baseReg c]
  | .qunb _ _ _ => []
  | .qfence _ _ _ _ => []
  | .vlogClaim d => [d]
  | .mbRead d => [d]
  | .engineStateWrite _ s => [s]
  | .cbaseWrite s => [s]
  | .fqheadClaim d => [d]
  | .fqCompleteResume s => [s]
  | .fqCompleteFault s => [s]
  | .fqCompleteKill s => [s]
  | .fqstatWrite s => [s]
  | .registerWrite _ s => [s]
  | .creqAck _ _ => []
  | .uniso _ => []
  | .controlBlockWrite _ _ => []
  | .spillTransfer => []
  | .vIssue _ => []
  | .vPerformed => []
  | .dPerformed => []
  | .copyBegin => []
  | .copyPerformed => []
  | .copyDataFault _ _ => []
  | .commandDiscard _ => []
  | .guardResolutionVisible => []
  | .loopbIteration _ => []
  | .streamGroupDecode _ => []
  | .gather => []
  | .gatherPartnerTimeout => []
  | .tokenWatchdog _ => []
  | .tkwWatchdog => []
  | .tileWaitWatchdog => []
  | .wfeTimeout => []
  | .trapEntry => []
  | .checkerMismatch => []
  | .checkerTimeout => []
  | .dPoisonConsumed => []
  | .windowRollback => []
  | .tileRefetch => []
  | .pageWalk _ _ _ => []
  | .heldFaultPost _ => []
  | .handlerSignal _ => []
  | .outboundDrain _ _ _ => []
  | .homeWriteMerge _ => []
  | .homeAtomic _ => []
  | .routerMerge _ _ => []
  | .mergedReplySplit => []
  | .barrierArrival => []
  | .barwLimitExpiry => []
  | .invalMarker => []
  | .schedulerDecision _ _ => []
  | .dispatchComplete => []
  | .startReached _ => []
  | .deadlineMiss _ => []
  | .pressSave => []
  | .pressSaveDone => []
  | .stressUpdate _ _ _ _ => []
  | .lifetimeRecordWrite => []
  | .calendarSlot _ _ => []
  | .burstLand _ _ => []
  | .hbmLinkCrcFail _ => []
  | .channelRetrainDone _ _ => []
  | .refreshDue _ _ => []
  | .refreshBurst _ _ _ _ => []
  | .refreshGuard _ _ => []
  | .cellRemap _ _ _ => []
  | .d2dFlitCrcFail => []
  | .d2dRetrainDone _ => []
  | .expanderPoisonResponse _ => []
  | .expanderTimeout _ => []
  | .write _ _ _ _ => []
  | .read _ _ _ => []
  | .launch _ _ _ => []
  | .load _ _ _ => []
  | .unload _ _ => []
  | .transportSignal _ _ => []
  | .sequenceGapTimeout _ => []
  | .sessionOpen _ _ _ => []
  | .partitionConfigure _ => []
  | .partitionReset _ => []
  | .warmReset => []
  | .coldReset _ => []
  | .quote _ => []
  | .governorStep _ _ => []
  | .thermalTrip => []
  | .remoteRequest _ => []
  | .scaleupLinkCrcFail _ => []
  | .scaleupRetrainDone _ _ => []
  | .reachabilityChange _ _ => []
  | .fabricArrivalMsg _ _ _ => []
  | .fabricReleaseMsg _ => []
  | .ptpMessage _ _ => []
  | .holdover => []
  | .loadValueReturn _ => []
  | .powerFailure => []
  | .switchFailure _ => []
  | .preemptRequest => []
  | .measurementExtend _ _ => []

end Sys2Proof.Machine
end

