-- ==== Sys2Proof/Machine/Sequencer.lean ====
section
/-! DEFINITION. What the sequencer meets at a word: the charge of the time that passes (R335), the fetch and decode of text
(R33-R37), outstanding registers, pending engine faults (R164-R166). -/

namespace Sys2Proof.Machine

/-- R335: wear charged over (t, t + dt] at n fields under a stress index with 12 fraction bits, in units of
2^-16. -/
def chargeOver (n stress t dt : Nat) : Nat :=
  (t + dt) * n * stress * 2 ^ 16 / (4 * 4096 * 10 ^ 9) - t * n * stress * 2 ^ 16 / (4 * 4096 * 10 ^ 9)

/-- Time passes for a strand: core cycles at the governor's clock in MHz, which neither a park nor a save of the press counts
(R176, R198), nor the V cycle while a V command waits for its page (R179), its charge, and resolutions reach the queue heads (R101). -/
def Strand.tick (st : Strand) (clock stress t dt : Nat) : Strand :=
  let n := st.cyFrac + clock * dt
  let st : Strand := if st.park.isSome || st.saving then st
    else { st with vcyc := if st.vfrozen then st.vcyc else st.vcyc + n / 1000, cyc := st.cyc + n / 1000, cyFrac := n % 1000 }
  st.showGuards.setSys 0x00B (st.charge + word (chargeOver (gangFields st.gang) stress t dt))

/-- R354, R355: a change of a core's state stores its lifetime record and is logged as class 12; at the budget a core that holds a task has its retirement
pending, which its partition's fault log records (R330). -/
def State.coreAged (s : State) (k : Nat) (old new : CoreState) : State :=
  let s := s.setCore k new
  let s := if old.stage == new.stage then s
    else State.logDie s.storeRecords (k / 256) 12 (some (k % 256)) 0 0 0 0 (word new.stage)
  if decide (157680000 * 2 ^ 16 ≤ new.wear) && !new.rpend && !new.retired then
    let s := s.setCore k { new with rpend := true }
    match s.ownerOf k with
    | some p => s.logFault p 6 0 0 0 0 0 (word (2 ^ 12 + k))
    | none => s
  else s

/-- The charge of one running task over an interval goes to its core and partition too (R335). -/
def State.chargeTask (s : State) (st : Strand) (t dt : Nat) : State :=
  if st.gidx != 0 then s
  else
    let c := s.coreAt (coreIndex st.die st.core)
    let w := chargeOver (gangFields st.gang) c.stress t dt
    if w == 0 then s
    else
      let s := s.coreAged (coreIndex st.die st.core) c { c with wear := c.wear + w }
      s.setPart st.part { s.part st.part with wear := (s.part st.part).wear + w }

/-- The fault of Table 7.2 a rejected word raises. -/
def rejectCode : Reject → Nat
  | .illegal => 0x01
  | .reservedBits => 0x02
  | .truncated => 0x05

/-- The profile a word needs: 1 V1, 2 D1, 3 C1, 0 the scalar base. -/
def wordClass (w : W32) : Nat := (fld w 30 2).toNat

/-- Whether an object declares the profile of a word class (R361). -/
def CodeObj.declares (o : CodeObj) (cls : Nat) : Bool :=
  match cls with
  | 0 => true
  | 1 => o.vProf != 0
  | 2 => o.dProf != 0
  | _ => o.cProf != 0

/-- R34, R36: decoding of a word with the word after it, on a strand of an object. -/
def decodeIn (o : CodeObj) (w l : W32) : Except Nat Instr :=
  if !o.declares (wordClass w) then .error 0x13
  else if wordClass w == 3 && fld w 25 1 == 1 && wordClass l == 2 && !o.declares 2 then .error 0x13
  else
    match decode w l with
    | .ok i => .ok i
    | .error r => .error (rejectCode r)

/-- R34-R37: the instruction at an address of a partition's text, or the fault with TREC2. -/
def State.fetch (s : State) (part : Nat) (pc : Word) : Except (Nat × Word) Instr :=
  match s.textAt part pc with
  | none => .error (0x05, pc)
  | some (o, i) =>
    if o.lits.contains i then .error (0x07, pc)
    else
      match decodeIn o (s.textWord o i) (s.textWord o (i + 1)) with
      | .ok x => .ok x
      | .error c => .error (c, 0)

/-- The target of a REP at an address: the steps of its form; none where no word is fetched there (R35, R37), or its form is
not permitted. -/
def State.repTarget (s : State) (pc : Word) : Option (Bool × Bool × Bool) :=
  match s.textAt s.st.part pc with
  | none => none
  | some (o, i) => if o.lits.contains i then none else repForm (s.textWord o i)

/-- R77, R87, R321: the word names a register whose value is outstanding. -/
def Strand.interlocked (st : Strand) (i : Instr) : Bool :=
  (wordRegs i).any fun r => r != 0 && st.awaited.contains (st.phys r.toNat)

/-- The trap of a pending engine fault at this boundary. -/
def State.takePend (s : State) (p : PendFault) : State :=
  let s := { s with st := { s.st with pend := s.st.pend.filter (· != p), trapped := if p.src == 0 then none else some ⟨p.seq, p.lp, p.repk⟩ } }
  s.trap ⟨p.code, p.src, p.issued, p.repk, 0, p.addr, p.trec2, s.st.pc⟩

/-- R51: the word at PC as an active REP steps it. -/
def Strand.stepped (st : Strand) (i : Instr) : Instr :=
  if st.rep.left == 0 then i else stepInstr st.rep.made st.rep.s1 st.rep.s2 st.rep.s3 i

end Sys2Proof.Machine
end

