-- ==== Sys2Proof/Machine/Alu.lean ====
section
/-! DEFINITION. Register and immediate arithmetic and constants (R77-R84). -/

namespace Sys2Proof.Machine

/-- A word that writes v to rd and flows on over n bytes (R77). -/
def State.writeRd (s : State) (d : BitVec 5) (v : Word) (n : Nat) : State :=
  State.advance { s with st := s.st.setRs d v } n

/-- R78: rd := f(a, b). -/
def aluRR (f : Word → Word → Word) (d a b : BitVec 5) (s : State) : Host.Outcome State Fault Refusal :=
  .next (s.writeRd d (f (s.st.rs a) (s.st.rs b)) 4)

/-- R78: rd := f(a). -/
def aluR (f : Word → Word) (d a : BitVec 5) (s : State) : Host.Outcome State Fault Refusal :=
  .next (s.writeRd d (f (s.st.rs a)) 4)

/-- R80: rd := f(a, sext(imm14)). -/
def aluRI (f : Word → Word → Word) (d a : BitVec 5) (i : BitVec 14) (s : State) : Host.Outcome State Fault Refusal :=
  .next (s.writeRd d (f (s.st.rs a) (imm14 i)) 4)

/-- R80: rd := a shifted by n. -/
def aluSh (f : Word → Nat → Word) (d a : BitVec 5) (n : BitVec 6) (s : State) : Host.Outcome State Fault Refusal :=
  .next (s.writeRd d (f (s.st.rs a) n.toNat) 4)

/-- A truth value as a register value. -/
def boolWord (b : Bool) : Word := if b then 1 else 0

/-- Table 4.2: bits [127:64] of the signed product. -/
def mulHigh (a b : Word) : Word := BitVec.ofInt 64 (a.toInt * b.toInt / 2 ^ 64)

/-- Table 4.2: bits [127:64] of the unsigned product. -/
def mulHighN (a b : Word) : Word := word (a.toNat * b.toNat / 2 ^ 64)

/-- R79: the quotient, truncated toward zero; -1 for a zero divisor. -/
def divide (a b : Word) : Word := if b == 0 then -1 else BitVec.ofInt 64 (a.toInt.tdiv b.toInt)

/-- R79: the remainder, with the sign of the dividend; the dividend for a zero divisor. -/
def remainder (a b : Word) : Word := if b == 0 then a else BitVec.ofInt 64 (a.toInt.tmod b.toInt)

/-- R79: the unsigned quotient; all ones for a zero divisor. -/
def divideN (a b : Word) : Word := if b == 0 then -1 else word (a.toNat / b.toNat)

/-- R79: the unsigned remainder; the dividend for a zero divisor. -/
def remainderN (a b : Word) : Word := if b == 0 then a else word (a.toNat % b.toNat)

/-- Table 4.2: the amount of a register shift is b[5:0]. -/
def shiftOf (b : Word) : Nat := bf b 0 6

/-- Leading zero bits of a word; 64 for zero (Table 4.2). -/
def leadingZeros (a : Word) : Word := if a == 0 then 64 else word (63 - Nat.log2 a.toNat)

/-- Trailing zero bits; 64 for zero (Table 4.2). -/
def trailingZeros (a : Word) : Word := word (((List.range 64).find? fun i => a.getLsbD i).getD 64)

/-- One bits (Table 4.2). -/
def oneBits (a : Word) : Word := word ((List.range 64).filter fun i => a.getLsbD i).length

/-- ADD (R78). -/
def execAdd (d a b : BitVec 5) (s : State) : Host.Outcome State Fault Refusal := aluRR (fun a b => a + b) d a b s

/-- SUB (R78). -/
def execSub (d a b : BitVec 5) (s : State) : Host.Outcome State Fault Refusal := aluRR (fun a b => a - b) d a b s

/-- MUL (R78). -/
def execMul (d a b : BitVec 5) (s : State) : Host.Outcome State Fault Refusal := aluRR (fun a b => a * b) d a b s

/-- MULH (R78). -/
def execMulh (d a b : BitVec 5) (s : State) : Host.Outcome State Fault Refusal := aluRR (mulHigh) d a b s

/-- MULHN (R78). -/
def execMulhn (d a b : BitVec 5) (s : State) : Host.Outcome State Fault Refusal := aluRR (mulHighN) d a b s

/-- DIV (R79). -/
def execDiv (d a b : BitVec 5) (s : State) : Host.Outcome State Fault Refusal := aluRR (divide) d a b s

/-- DIVN (R79). -/
def execDivn (d a b : BitVec 5) (s : State) : Host.Outcome State Fault Refusal := aluRR (divideN) d a b s

/-- REM (R79). -/
def execRem (d a b : BitVec 5) (s : State) : Host.Outcome State Fault Refusal := aluRR (remainder) d a b s

/-- REMN (R79). -/
def execRemn (d a b : BitVec 5) (s : State) : Host.Outcome State Fault Refusal := aluRR (remainderN) d a b s

/-- AND (R78). -/
def execAnd (d a b : BitVec 5) (s : State) : Host.Outcome State Fault Refusal := aluRR (fun a b => a &&& b) d a b s

/-- OR (R78). -/
def execOr (d a b : BitVec 5) (s : State) : Host.Outcome State Fault Refusal := aluRR (fun a b => a ||| b) d a b s

/-- XOR (R78). -/
def execXor (d a b : BitVec 5) (s : State) : Host.Outcome State Fault Refusal := aluRR (fun a b => a ^^^ b) d a b s

/-- ANDN (R78). -/
def execAndn (d a b : BitVec 5) (s : State) : Host.Outcome State Fault Refusal := aluRR (fun a b => a &&& ~~~b) d a b s

/-- SHL (R78). -/
def execShl (d a b : BitVec 5) (s : State) : Host.Outcome State Fault Refusal := aluRR (fun a b => a <<< shiftOf b) d a b s

/-- SHR (R78). -/
def execShr (d a b : BitVec 5) (s : State) : Host.Outcome State Fault Refusal := aluRR (fun a b => a >>> shiftOf b) d a b s

/-- SRA (R78). -/
def execSra (d a b : BitVec 5) (s : State) : Host.Outcome State Fault Refusal := aluRR (fun a b => a.sshiftRight (shiftOf b)) d a b s

/-- MIN (R78). -/
def execMin (d a b : BitVec 5) (s : State) : Host.Outcome State Fault Refusal := aluRR (fun a b => if a.slt b then a else b) d a b s

/-- MINN (R78). -/
def execMinn (d a b : BitVec 5) (s : State) : Host.Outcome State Fault Refusal := aluRR (fun a b => if a.ult b then a else b) d a b s

/-- MAX (R78). -/
def execMax (d a b : BitVec 5) (s : State) : Host.Outcome State Fault Refusal := aluRR (fun a b => if a.slt b then b else a) d a b s

/-- MAXN (R78). -/
def execMaxn (d a b : BitVec 5) (s : State) : Host.Outcome State Fault Refusal := aluRR (fun a b => if a.ult b then b else a) d a b s

/-- SEQ (R78). -/
def execSeq (d a b : BitVec 5) (s : State) : Host.Outcome State Fault Refusal := aluRR (fun a b => boolWord (a == b)) d a b s

/-- SLT (R78). -/
def execSlt (d a b : BitVec 5) (s : State) : Host.Outcome State Fault Refusal := aluRR (fun a b => boolWord (a.slt b)) d a b s

/-- SLTN (R78). -/
def execSltn (d a b : BitVec 5) (s : State) : Host.Outcome State Fault Refusal := aluRR (fun a b => boolWord (a.ult b)) d a b s

/-- CLZ (R78). -/
def execClz (d a : BitVec 5) (s : State) : Host.Outcome State Fault Refusal := aluR leadingZeros d a s

/-- CTZ (R78). -/
def execCtz (d a : BitVec 5) (s : State) : Host.Outcome State Fault Refusal := aluR trailingZeros d a s

/-- POPC (R78). -/
def execPopc (d a : BitVec 5) (s : State) : Host.Outcome State Fault Refusal := aluR oneBits d a s

/-- ADDW (R78): on the low halves, sign-extended. -/
def execAddw (d a b : BitVec 5) (s : State) : Host.Outcome State Fault Refusal :=
  aluRR (fun a b => sext32 (low32 a + low32 b)) d a b s

/-- SUBW (R78): on the low halves, sign-extended. -/
def execSubw (d a b : BitVec 5) (s : State) : Host.Outcome State Fault Refusal :=
  aluRR (fun a b => sext32 (low32 a - low32 b)) d a b s

/-- MULW (R78): on the low halves, sign-extended. -/
def execMulw (d a b : BitVec 5) (s : State) : Host.Outcome State Fault Refusal :=
  aluRR (fun a b => sext32 (low32 a * low32 b)) d a b s

/-- ADDI (R80). -/
def execAddi (d a : BitVec 5) (i : BitVec 14) (s : State) : Host.Outcome State Fault Refusal := aluRI (fun a i => a + i) d a i s

/-- ANDI (R80). -/
def execAndi (d a : BitVec 5) (i : BitVec 14) (s : State) : Host.Outcome State Fault Refusal := aluRI (fun a i => a &&& i) d a i s

/-- ORI (R80). -/
def execOri (d a : BitVec 5) (i : BitVec 14) (s : State) : Host.Outcome State Fault Refusal := aluRI (fun a i => a ||| i) d a i s

/-- XORI (R80). -/
def execXori (d a : BitVec 5) (i : BitVec 14) (s : State) : Host.Outcome State Fault Refusal := aluRI (fun a i => a ^^^ i) d a i s

/-- SLTI (R80). -/
def execSlti (d a : BitVec 5) (i : BitVec 14) (s : State) : Host.Outcome State Fault Refusal := aluRI (fun a i => boolWord (a.slt i)) d a i s

/-- SLTNI (R80). -/
def execSltni (d a : BitVec 5) (i : BitVec 14) (s : State) : Host.Outcome State Fault Refusal := aluRI (fun a i => boolWord (a.ult i)) d a i s

/-- SHLI (R80). -/
def execShli (d a : BitVec 5) (n : BitVec 6) (s : State) : Host.Outcome State Fault Refusal := aluSh (fun a n => a <<< n) d a n s

/-- SHRI (R80). -/
def execShri (d a : BitVec 5) (n : BitVec 6) (s : State) : Host.Outcome State Fault Refusal := aluSh (fun a n => a >>> n) d a n s

/-- SRAI (R80). -/
def execSrai (d a : BitVec 5) (n : BitVec 6) (s : State) : Host.Outcome State Fault Refusal := aluSh (fun a n => a.sshiftRight n) d a n s

/-- LUI (R81): rd := sext(imm20) << 12. -/
def execLui (d : BitVec 5) (i : BitVec 20) (s : State) : Host.Outcome State Fault Refusal :=
  .next (s.writeRd d (imm20 i <<< 12) 4)

/-- FLI (R81): rd := zext(imm20 << 12). -/
def execFli (d : BitVec 5) (i : BitVec 20) (s : State) : Host.Outcome State Fault Refusal :=
  .next (s.writeRd d (word (i.toNat * 2 ^ 12)) 4)

/-- ADDPC (R81): rd := pc + sext(imm20) * 4. -/
def execAddpc (d : BitVec 5) (i : BitVec 20) (s : State) : Host.Outcome State Fault Refusal :=
  .next (s.writeRd d (jumpTarget s.st.pc i) 4)

/-- LIT (R82): rd := sext(L). -/
def execLit (d : BitVec 5) (lit : W32) (s : State) : Host.Outcome State Fault Refusal := .next (s.writeRd d (sext32 lit) 8)

/-- LITN (R82): rd := zext(L). -/
def execLitn (d : BitVec 5) (lit : W32) (s : State) : Host.Outcome State Fault Refusal := .next (s.writeRd d (zext32 lit) 8)

/-- LITH (R82): rd := (zext(L) << 32) OR rd[31:0]. -/
def execLith (d : BitVec 5) (lit : W32) (s : State) : Host.Outcome State Fault Refusal :=
  .next (s.writeRd d (zext32 lit <<< 32 ||| zext32 (low32 (s.st.rs d))) 8)

/-- CB (R83): rd := sext(cN), from the bank as it stands. -/
def execCb (d : BitVec 5) (n : BitVec 8) (s : State) : Host.Outcome State Fault Refusal :=
  .next (s.writeRd d (sext32 (s.st.const n.toNat)) 4)

end Sys2Proof.Machine
end

