-- ==== Sys2Proof/Machine/Control.lean ====
section
/-! DEFINITION. Control space (R356, R357, R383, R413): the registers of the die blocks and of the hub block, their reads,
and the checks and effects of a store. -/

namespace Sys2Proof.Machine

/-- CETHR of a die (R351): 32 by default. -/
def State.cethrOf (s : State) (die : Nat) : Nat := SMap.get 32 s.cethr die

/-- CORESTAT (Table 19.3). -/
def CoreState.statWord (c : CoreState) : Word :=
  word (c.stage * 2 ^ 62 + b2n c.rpend * 2 ^ 61 + b2n c.mpend * 2 ^ 60 + c.stress % 2 ^ 16 * 2 ^ 32)

/-- BANKSTAT (Table 19.3). -/
def Bank.statWord (b : Bank) : Word :=
  word (b2n b.deferred * 2 ^ 63 + b2n b.strong * 2 ^ 62 + b2n b.creq * 2 ^ 61 + b2n b.inv * 2 ^ 60 +
    min b.cecnt (2 ^ 16 - 1) * 2 ^ 32 + bitsOf b.stamp 20 32)

def Ring.empty : Ring := ⟨0, false, []⟩

/-- Word i of slot j of a ring. -/
def Ring.slotWord (r : Ring) (j i : Nat) : Word :=
  let e := SMap.get ⟨0, 0, 0, 0⟩ r.slots j
  match i with
  | 0 => e.w0
  | 1 => e.w1
  | 2 => e.w2
  | _ => e.w3

/-- LOGHEAD (Table 19.2), FLOGHEAD (R437). -/
def Ring.head (r : Ring) : Word := word (b2n r.ovf * 2 ^ 63 + r.next)

/-- R358, R398: word i of slot j of a log as the reader's partition sees it: an entry of its own PART or of a shared unit, else 0 (log 21). -/
def Ring.viewWord (r : Ring) (part j i : Nat) : Word :=
  let w0 := (SMap.get ⟨0, 0, 0, 0⟩ r.slots j).w0
  if wbit w0 51 || bf w0 52 4 == part then r.slotWord j i else 0

/-- A register of die d's control block (Table 19.2); other offsets read 0. -/
def State.dieRead (s : State) (d off : Nat) : Word :=
  if off < 0x4000 then
    let c := s.coreAt (coreIndex d (off / 64))
    match off % 64 with
    | 0 => c.statWord
    | 8 => word c.wear
    | 16 => word (c.remap1.toNat * 2 ^ 16 + c.remap0.toNat)
    | _ => 0
  else if off == 0x10000 then s.lehrCfg d
  else if off == 0x10008 then word (s.cethrOf d)
  else if 0x200000 ≤ off && off < 0x200000 + 8 * 64 && off % 8 == 0 then word (SMap.get 0 s.errcnt (d * 64 + (off - 0x200000) / 8))
  else if off == 0x300000 then (SMap.get Ring.empty s.logs d).head
  else if 0x400000 ≤ off && off < 0x400000 + 32 * 4096 && off % 8 == 0 then
    (SMap.get Ring.empty s.logs d).viewWord s.st.part ((off - 0x400000) / 32) (off % 32 / 8)
  else if 0x1000000 ≤ off && off < 0x1200000 && off % 8 == 0 then
    (s.bankAt (d * 16384 + (off - 0x1000000) / 128) (off % 128 / 8)).statWord
  else 0

/-- EXPSTAT (Table 22.3). -/
def Hub.expstat (h : Hub) : Word :=
  word (b2n h.iso * 2 ^ 63 + b2n h.up * 2 ^ 62 + h.devs.length % 2 ^ 8 * 2 ^ 48 + h.width % 2 ^ 8 * 2 ^ 32 + min h.tmocnt (2 ^ 16 - 1))

/-- PWRSTAT (Table 22.6). -/
def Hub.pwrstat (h : Hub) : Word :=
  word (h.power % 2 ^ 16 * 2 ^ 48 + h.clock % 2 ^ 12 * 2 ^ 36 + h.tj % 2 ^ 8 * 2 ^ 28 + h.bootfail % 2 ^ 4 * 2 ^ 24 + min h.throt (2 ^ 24 - 1))

/-- LINKSTAT (Table 24.2). -/
def Link.statWord (l : Link) : Word := word (l.state % 4 * 2 ^ 62 + min l.retrains (2 ^ 16 - 1) * 2 ^ 32 + min l.replays (2 ^ 32 - 1))

/-- TIMESTAT (Table 24.2): OFFSET saturates at 32 signed bits. -/
def Hub.timestat (h : Hub) : Word := word (h.timeState % 4 * 2 ^ 62 + intBits 32 (satI h.timeMeas 32))

/-- GROUP word i of group g (Table 24.2): members, and V in bit 63 of word 2. -/
def Hub.groupWord (h : Hub) (g i : Nat) : Word :=
  let m := SMap.get [] h.groups g
  let bits := m.foldl (fun a p => if p / 64 == i then a ||| 2 ^ (p % 64) else a) 0
  word (if i == 2 && !m.isEmpty then bits + 2 ^ 63 else bits)

/-- A register of the hub's control block (Tables 22.1, 24.1); other offsets read 0. -/
def State.hubRead (s : State) (off : Nat) : Word :=
  if off % 8 != 0 then 0
  else if off == 0 then s.hub.expstat
  else if off == 8 then word s.hub.tmo
  else if 0x100000 ≤ off && off < 0x102000 then word (SMap.get 0 s.hbmCnt ((off - 0x100000) / 8))
  else if 0x200000 ≤ off && off < 0x200000 + 8 * 64 then word (SMap.get 0 s.errcnt (128 + (off - 0x200000) / 8))
  else if off == 0x300000 then (SMap.get Ring.empty s.logs 2).head
  else if 0x400000 ≤ off && off < 0x400000 + 32 * 4096 then
    (SMap.get Ring.empty s.logs 2).viewWord s.st.part ((off - 0x400000) / 32) (off % 32 / 8)
  else if 0x500000 ≤ off && off < 0x500400 then
    let p := s.part ((off - 0x500000) / 64)
    if off % 64 == 0 then word p.root else if off % 64 == 8 then p.fhrec else 0
  else if 0x510000 ≤ off && off < 0x511000 then word (SMap.get 0 s.partOf ((off - 0x510000) / 8))
  else if 0x540000 ≤ off && off < 0x540080 then (s.part ((off - 0x540000) / 8)).flog.head
  else if 0x550000 ≤ off && off < 0x570000 then
    (s.part ((off - 0x550000) / 8192)).flog.slotWord (off % 8192 / 32) (off % 32 / 8)
  else if off == 0x600000 then s.hub.pwrstat
  else if off == 0x700000 then word (s.hub.domain % 2 ^ 11 * 2 ^ 32 + s.hub.pkg)
  else if off == 0x700008 then word s.hub.fabTmo
  else if off == 0x700010 then s.hub.timestat
  else if off == 0x700018 then s.hub.timeCfg
  else if 0x710000 ≤ off && off < 0x710000 + 8 * 36 then (SMap.get Link.initial s.hub.links ((off - 0x710000) / 8)).statWord
  else if 0x720000 ≤ off && off < 0x720000 + 8 * 96 then SMap.get 0 s.hub.windows ((off - 0x720000) / 8)
  else if 0x730000 ≤ off && off < 0x730000 + 32 * 15 && off % 32 < 24 then s.hub.groupWord ((off - 0x730000) / 32) (off % 32 / 8)
  else 0

/-- A control-space register by offset (R383). -/
def State.controlRead (s : State) (off : Nat) : Word :=
  if off < 2 ^ 36 then s.dieRead 0 off
  else if off < 2 ^ 37 then s.dieRead 1 (off - 2 ^ 36)
  else s.hubRead (off - 2 ^ 37)

/-- R351: a write of 1 to CREQ re-encodes the bank under the stronger code; its error count restarts (R352). -/
def State.ackCreq (s : State) (cell bank : Nat) : State :=
  let b := s.bankAt cell bank
  if b.creq then s.setBank cell bank { b with creq := false, strong := true, cecnt := 0 } else s

/-- The zero fields of a die's read-only registers (Tables 9.1, 19.3, 19.5). -/
def dieZero (off : Nat) : Word :=
  if off < 0x4000 then (if off % 64 == 0 then 0x0FFF0000FFFFFFFF else if off % 64 == 16 then 0xFFFFFFFF3FC03FC0 else 0)
  else if 0x400000 ≤ off && off < 0x400000 + 32 * 4096 && off % 32 == 0 then 0x0004000000000000
  else 0

/-- R357: a store to a die's block; none where its value breaks no rule, else the fault. -/
def State.dieWrite (s : State) (d off : Nat) (v : Word) : Except Nat State :=
  if off == 0x10000 then
    let rp := bf v 0 5
    let g := bf v 16 5
    if rp < 1 || 16 < rp || g < rp || 19 < g then .error 0x01
    else if bf v 21 43 != 0 || bf v 5 11 != 0 then .error 0x02
    else .ok { s with lehr := SMap.set [] s.lehr d ((s.now, v) :: SMap.get [] s.lehr d) }
  else if off == 0x10008 then
    if bf v 0 16 == 0 then .error 0x01
    else if bf v 16 48 != 0 then .error 0x02
    else .ok { s with cethr := SMap.set 32 s.cethr d (bf v 0 16) }
  else if off == 0x300000 then
    let r := SMap.get Ring.empty s.logs d
    if bf v 13 50 != 0 then .error 0x02
    else .ok (if wbit v 63 then { s with logs := SMap.set Ring.empty s.logs d { r with ovf := false } } else s)
  else if 0x1000000 ≤ off && off < 0x1200000 && off % 8 == 0 then
    if bf v 48 12 != 0 then .error 0x02
    else .ok (if wbit v 61 then s.ackCreq (d * 16384 + (off - 0x1000000) / 128) (off % 128 / 8) else s)
  else if v &&& dieZero off != 0 then .error 0x02
  else .ok s

/-- The zero fields of the hub's read-only registers (Tables 22.3, 24.2). -/
def hubZero (off : Nat) : Word :=
  if off == 0 then 0x3F00FF00FFFF0000
  else if 0x400000 ≤ off && off < 0x400000 + 32 * 4096 then (if off % 32 == 0 then 0x0004000000000000 else 0)
  else if 0x510000 ≤ off && off < 0x511000 then 0xFFFFFFFFFFFFFFE0
  else if off == 0x700000 then 0xFFFFF800FFFFFF00
  else if off == 0x700010 then 0x3FFFFFFF00000000
  else if off == 0x700018 then 0xFFFFFFFFFFFFFD00
  else if 0x710000 ≤ off && off < 0x710000 + 8 * 36 then 0x3FFF000000000000
  else if 0x720000 ≤ off && off < 0x720000 + 8 * 96 then 0x7FFFF800FFFFFF00
  else if 0x730000 ≤ off && off < 0x730000 + 32 * 15 && off % 32 == 16 then 0x7FFFFFFFFFFF0000
  else 0

/-- R357: a store to the hub's block. -/
def State.hubWrite (s : State) (off : Nat) (v : Word) : Except Nat State :=
  if off == 8 || off == 0x700008 then
    let tmo := bf v 0 10
    if tmo == 0 || 1000 < tmo then .error 0x01
    else if off == 8 then
      (if bf v 10 53 != 0 then .error 0x02
       else .ok { s with hub := { s.hub with tmo := tmo, unisoReq := s.hub.unisoReq || (wbit v 63 && s.hub.iso) } })
    else if bf v 10 54 != 0 then .error 0x02
    else .ok { s with hub := { s.hub with fabTmo := tmo } }
  else if off == 0x300000 then
    let r := SMap.get Ring.empty s.logs 2
    if bf v 13 50 != 0 then .error 0x02
    else .ok (if wbit v 63 then { s with logs := SMap.set Ring.empty s.logs 2 { r with ovf := false } } else s)
  else if 0x540000 ≤ off && off < 0x540080 && off % 8 == 0 then
    let n := (off - 0x540000) / 8
    let p := s.part n
    if bf v 8 55 != 0 then .error 0x02
    else .ok (if wbit v 63 then s.setPart n { p with flog := { p.flog with ovf := false } } else s)
  else if v &&& hubZero off != 0 then .error 0x02
  else .ok s

/-- R357, R383: a privileged 8-byte store to control space. -/
def State.controlWrite (s : State) (off : Nat) (v : Word) : Except Nat State :=
  if !s.st.priv then .error 0x03
  else if off < 2 ^ 36 then s.dieWrite 0 off v
  else if off < 2 ^ 37 then s.dieWrite 1 (off - 2 ^ 36) v
  else s.hubWrite (off - 2 ^ 37) v

/-- Whether a physical address lies in control space. -/
def paIsControl (pa : Nat) : Bool := paPackage pa == 255 && paSpace pa == 3

/-- CONTROL_BLOCK_WRITE (R357): a store of the executing strand to the control block, by its offset. -/
def execControlBlockWrite (off : Nat) (v : BitVec 64) (s : State) : Host.Outcome State Fault Refusal :=
  if !s.st.live then .next s
  else
    match s.controlWrite off v with
    | .error c => finish s (flt c 0)
    | .ok t => .next t

/-- CREQ_ACK (R351): a write of 1 to the CREQ bit of a bank. -/
def execCreqAck (cell bank : Nat) (s : State) : Host.Outcome State Fault Refusal := .next (s.ackCreq cell bank)

end Sys2Proof.Machine
end

