-- ==== Sys2Proof/Machine/LoadStore.lean ====
section
/-! DEFINITION. Scalar loads and stores (R85-R89) and their order (R280-R289). -/

namespace Sys2Proof.Machine

/-! ### What an access waits for -/

/-- R230: a QFENCE whose mask holds S stands in the C queue: scalar accesses wait for it. -/
def Strand.sFence (st : Strand) : Bool :=
  st.cq.cmds.any fun c => !c.done && match c.pay with
    | .c (.qfence m _) _ => decide (m / 8 % 2 = 1) && st.judge c.guard != some false
    | _ => false

/-- R289: what a release at a scope waits for: the strand's S and R writes and those it has read at their homes, its loads
returned. -/
def State.relBlocked (s : State) (st : Strand) (scope : Nat) : Bool :=
  (decide (3 ≤ scope) && s.releaseBlocked st [0, 1]) || st.loads.any (·.kind != 2)

/-- R289: the release that a `fence.rel` has laid on the next scalar store or AMO is not yet met. -/
def State.relWait (s : State) (st : Strand) : Bool := match st.relPend with | some scope => s.relBlocked st scope | none => false

/-- R280: an outstanding load or atomic of the strand touches one of these bytes. -/
def Strand.overlaps (st : Strand) (pa n : Nat) : Bool :=
  st.loads.any fun l => decide (l.pa < pa + n) && decide (pa < l.pa + l.size)

/-- R267: an outstanding acquire holds the later S and R accesses. -/
def Strand.acqBlocked (st : Strand) (kind : Nat) : Bool := kind != 2 && st.loads.any (·.acq)

/-- What a scalar access to an address of a kind waits for, if anything. -/
def State.accessWait (s : State) (st : Strand) (pa n kind : Nat) : Option Stall :=
  if st.sFence || s.sOpen st then some .fence
  else if st.overlaps pa n then some .interlock
  else if st.acqBlocked kind then some .fence
  else if kind == 0 && s.sBlocked st then some .fence
  else none

/-! ### Loads and stores -/

/-- R85: the access sizes and the extension of codes 0-6: b, h, w, d, bn, hn, wn. -/
def ldSize (z : Nat) : Nat := if z == 0 || z == 4 then 1 else if z == 1 || z == 5 then 2 else if z == 2 || z == 6 then 4 else 8

/-- Whether a size code sign-extends. -/
def ldSigned (z : Nat) : Bool := decide (z < 3)

/-- R87: n little-endian bytes as a register value. -/
def extend (n : Nat) (signed : Bool) (x : Nat) : Word :=
  if signed then BitVec.ofInt 64 (bitsInt (8 * n) x) else word x

/-- The address of R85 with its offset wrapped to 60 bits: what is logged where the exact one lies outside the space. -/
def wrappedAddr (base : Word) (disp : Int) : Word :=
  word (bf base 60 4 * 2 ^ 60 + (((bf base 0 60 : Int) + disp) % 2 ^ 60).toNat)

/-- R237: a load executed in a window is entered in its load log; a 65th closes the window. Answers the place. -/
def Strand.logLoad (st : Strand) (v : Word) : Strand × Option (Nat × Nat) :=
  match st.win with
  | none => (st, none)
  | some w =>
    if 64 ≤ w.loads.length then (st.closeWindow 11, none)
    else ({ st with win := some { w with loads := w.loads ++ [v] } }, some (w.startSeq, w.loads.length))

/-- R240: in a re-execution a load takes its value from the load log. -/
def Strand.loggedLoad (st : Strand) : Option (Word × Strand) :=
  match st.reexec with
  | some r => if st.again then some (r.loads.headD 0, { st with reexec := some { r with loads := r.loads.tail } }) else none
  | none => none

/-- Whether an access leaves the package's own arrays, so that its answer is always outstanding: expander, remote. -/
def paIsFar (pa : Nat) : Bool := paPackage pa != 255 || paSpace pa == 2

/-- The schedule's choice whether the next access is outstanding (log 4), and the schedule after it. -/
def State.takeLate (s : State) : Bool × State := (s.late.headD false, { s with late := s.late.tail })

/-- LD at a checked physical address. A load that leaves the package's own arrays holds its word until the answer, so
that its fault is precise (R77, R391); another one may return behind later words, having met no fault. -/
def State.loadAt (s : State) (d : BitVec 5) (pa kind size : Nat) (signed : Bool) (addr : Word) : WRes :=
  let st := s.st
  match (if s.outMixed st.coreIdx pa size then some .fence else s.accessWait st pa size kind) with
  | some w => .wait w
  | none =>
    if paIsControl pa then
      if !st.priv then flt 0x03 0
      else if size != 8 then flt 0x05 addr
      else .ok (State.writeRd { s with st := (st.logLoad (s.controlRead (paOffset pa))).1 } d (s.controlRead (paOffset pa)) 4)
    else
      match (if paIsFar pa then none else s.firstPoison st.coreIdx pa size) with
      | some a => flt 0x0C (word (addr.toNat + (a - pa)))
      | none =>
        let (late, s) := s.takeLate
        let v := extend size signed (bytesNat (s.coreBytes st.coreIdx pa size))
        let (st', slot) := s.st.logLoad 0
        let l : PendLoad :=
          ⟨if d == 0 then 256 else st.phys d.toNat, pa, addr, st.pc, kind, size, signed, false, false, slot, s.time, paIsFar pa || kind == 0, v, st.seq⟩
        let wait := s.stalled st.die pa
        if paIsFar pa || (wait && kind == 0) then .ok { s with st := { st' with loads := st'.loads ++ [l], stall := some .interlock } }
        else if (late || wait) && kind != 0 then .ok (State.advance { s with st := { st' with loads := st'.loads ++ [l] } } 4)
        else
          let s := s.noteRead st.coreIdx st.sid pa size
          .ok (State.writeRd { s with st := (s.st.logLoad v).1 } d v 4)

/-- LD (R85-R87). -/
def State.ldWord (s : State) (d a : BitVec 5) (z : BitVec 3) (o : BitVec 11) : WRes :=
  match s.st.loggedLoad with
  | some (v, st) => .ok (State.writeRd { s with st := st } d v 4)
  | none =>
    let base := s.st.rs a
    match addressOf base o.toInt with
    | none => flt 0x05 (wrappedAddr base o.toInt)
    | some addr =>
      match s.check s.st s.st.anchor addr (ldSize z.toNat) .load with
      | .fault c _ => flt c addr
      | .absent cause => .park ⟨addr, 0, cause, 0⟩
      | .ok pa kind _ _ => (s.cacheFor s.st addr).loadAt d pa kind (ldSize z.toNat) (ldSigned z.toNat) addr

/-- LD. -/
def execLd (d : BitVec 5) (a : BitVec 5) (z : BitVec 3) (o : BitVec 11) (s : State) : Host.Outcome State Fault Refusal :=
  finish s (s.ldWord d a z o)

/-- ST at a checked physical address: only these bytes are written (R87). -/
def State.storeAt (s : State) (v : Word) (pa kind size : Nat) (addr : Word) : WRes :=
  let st := { s.st with relPend := none }
  match (if s.relWait s.st then some .fence else s.accessWait s.st pa size kind) with
  | some w => .wait w
  | none =>
    if paIsControl pa then
      if !st.priv then flt 0x03 0
      else if size != 8 then flt 0x05 addr
      else
        match s.controlWrite (paOffset pa) v with
        | .error c => flt c 0
        | .ok t => .ok (State.advance { t with st := if kind == 0 then t.st.closeWindow 3 else t.st } 4)
    else
      let s := { s with st := if kind == 0 then st.closeWindow 3 else st }
      .ok (State.advance (s.fineWrite st.coreIdx st.sid kind st.pc (layout pa (natBytes size v.toNat))) 4)

/-- ST (R85-R87). -/
def State.stWord (s : State) (r a : BitVec 5) (z : BitVec 3) (o : BitVec 11) : WRes :=
  let base := s.st.rs a
  match addressOf base o.toInt with
  | none => flt 0x05 (wrappedAddr base o.toInt)
  | some addr =>
    match s.check s.st s.st.anchor addr (ldSize z.toNat) .store with
    | .fault c _ => flt c addr
    | .absent cause => .park ⟨addr, 1, cause, 0⟩
    | .ok pa kind _ _ => (s.cacheFor s.st addr).storeAt (s.st.rs r) pa kind (ldSize z.toNat) addr

/-- ST. -/
def execSt (s' : BitVec 5) (a : BitVec 5) (z : BitVec 3) (o : BitVec 11) (s : State) : Host.Outcome State Fault Refusal :=
  finish s (s.stWord s' a z o)

/-! ### Values that return later -/

/-- An engine or sequencer fault found behind its word: pending until the next boundary (R165), where it comes before the press
(R166). -/
def Strand.addPend (st : Strand) (p : PendFault) : Strand := { st with pend := st.pend ++ [p], boundary := false }

/-- R77, R166: the answer to the word the strand waits at is a fault. Behind a pending engine fault the word meets its
checks again. -/
def State.answerFault (s : State) (code : Nat) (a : Word) : State :=
  if s.st.oldestPend.isSome && !s.st.intrap then s else s.seqFault ⟨code, a, 0⟩

/-- LOAD_VALUE_RETURN (R87): the nth outstanding load of the executing strand returns: its bytes as they stand, behind what another package
may have written of its own, and forwarded by the core's buffer (R282). It waits while its channel or the die link retrains (R384, R387). A
word that waits for it completes, or takes its fault. Behind later words, where the bytes have become poisoned, it returns the value at its
issue; where their home answers with an error, its register stands and fault 0x05 is pending at the next boundary (R387, log 68). With no
nth load it is the status of the strand's oldest SPAWN in flight that returns (R321). -/
def execLoadValueReturn (n : Nat) (s : State) : Host.Outcome State Fault Refusal :=
  match (s.st.loads.filter fun l => !l.amo)[n]? with
  | none => .next (if s.st.live then s.spawnLands else s)
  | some l =>
   if s.outMixed s.st.coreIdx l.pa l.size || s.stalled s.st.die l.pa then .next s else
    let st := { s.st with loads := s.st.loads.erase l, stall := if l.held then none else s.st.stall }
    let s := { s with st := st }
    let s := if s.outForwards st.coreIdx l.pa l.size then s else s.foreignWrite l.pa l.size
    let bad := s.firstPoison st.coreIdx l.pa l.size
    if l.held && bad.isSome then
      .next ((s.notePoison st.part st.coreIdx (bad.getD 0)).answerFault 0x0C (word (l.va.toNat + (bad.getD 0 - l.pa))))
    else if !s.reachable l.pa then
      .next (if l.held then s.answerFault 0x05 l.va
        else State.logRaised { s with st := s.st.addPend ⟨0x05, 0, 0, l.addr, l.va, 0, l.seq, ⟨0, 0, 0, 0⟩, false⟩ } 0x05 l.va 0)
    else
      let v := if bad.isSome then l.early else extend l.size l.signed (bytesNat (s.coreBytes st.coreIdx l.pa l.size))
      let st := if l.dest == 256 then st else { st with sregs := SMap.set 0 st.sregs l.dest v }
      let st := match l.slot, st.win with
        | some (q, i), some w => if w.startSeq == q then { st with win := some { w with loads := w.loads.set i v } } else st
        | _, _ => st
      let s := s.noteRead st.coreIdx st.sid l.pa l.size
      let s := State.crossed { s with st := st } st.die l.pa
      .next (if l.held then s.advance 4 else s)

/-- OUTBOUND_DRAIN (R282): line n of a core's outbound buffer goes to its home; it waits for one whose channel or link retrains (R384, R387). -/
def execOutboundDrain (die core n : Nat) (s : State) : Host.Outcome State Fault Refusal :=
  let waits := match (s.outQ (coreIndex die core))[n]? with | some e => s.stalled die e.line | none => false
  .next (if waits then s else s.drainOut (coreIndex die core) n)

/-- HOME_WRITE_MERGE (R264): a home merges its oldest queued write into the array, no channel slice while its channel retrains (R387). -/
def execHomeWriteMerge (home : Nat) (s : State) : Host.Outcome State Fault Refusal :=
  .next (if decide (32768 ≤ home) && (s.chan (home - 32768)).retraining then s else s.mergeOldest home)

end Sys2Proof.Machine
end

