-- ==== Sys2Proof/Machine/Amo.lean ====
section
/-! DEFINITION. AMO (R265-R272, R294): the operations of Table 14.2 at their home, the waits of the orders, merging in the
routers, and the answers. -/

namespace Sys2Proof.Machine

/-- Table 14.2: the width in bytes of op 0-13; 14 and 15 stand for the signed 32-bit MIN and MAX of GAMO (R137). -/
def amoSize (op : Nat) : Nat := if op < 10 then 8 else 4

/-- Table 14.2: the new value of an operation; `e` is the expected value of a CAS. None: not written. -/
def amoNew (op : Nat) (old b e : Word) : Option Word :=
  match op with
  | 0 => some (old + b)
  | 1 => some (old &&& b)
  | 2 => some (old ||| b)
  | 3 => some (old ^^^ b)
  | 4 => some (if b.slt old then b else old)
  | 5 => some (if old.slt b then b else old)
  | 6 => some (if b.ult old then b else old)
  | 7 => some (if old.ult b then b else old)
  | 8 => some b
  | 9 => if old == e then some b else none
  | 10 => some (word (Fmt.fp32.add (bf old 0 32) (bf b 0 32)).1)
  | 11 => some (zext32 (low32 old + low32 b))
  | 12 => if low32 old == low32 e then some (zext32 (low32 b)) else none
  | 13 => some (zext32 (low32 b))
  | 14 => some (zext32 (if (low32 b).slt (low32 old) then low32 b else low32 old))
  | _ => some (zext32 (if (low32 old).slt (low32 b) then low32 b else low32 old))

/-- Table 14.2: what rd receives of the old value. -/
def amoResult (op : Nat) (old : Word) : Word :=
  if op < 10 then old else if op == 10 then zext32 (low32 old) else sext32 (low32 old)

/-- The old value at a home: W little-endian bytes. -/
def State.amoOld (s : State) (op pa : Nat) : Word := word (bytesNat (s.homeBytes pa (amoSize op)))

/-- The poisoned byte an atomic would read at its home, if any (R271). -/
def State.amoPoison (s : State) (op pa : Nat) : Option Nat :=
  ((List.range (amoSize op)).map (pa + ·)).find? s.homePoison

/-- The read and the write of an atomic, one indivisible action at the home (R266, R267). -/
def State.amoDo (s : State) (op pa : Nat) (b e : Word) : Word × State :=
  let old := s.amoOld op pa
  match amoNew op old b e with
  | some v => (old, s.directWrite (layout pa (natBytes (amoSize op) v.toNat)) false)
  | none => (old, s)

/-- R271: an atomic met poison: the die counts it once, at the home (class 13); at the expander the hub logs it for the asker (R390), and one
in another package is that package's. -/
def State.logAmoPoison (s : State) (who : Option Strand) (pa : Nat) : State :=
  if paPackage pa != 255 then s
  else if paIsTower pa then
    s.logDie (paCell pa / 16384) 13 (some (paCell pa / 64 % 256)) (paCell pa % 64) 0 0 pa 0
  else if paSpace pa == 2 then (match who with | some t => s.notePoison t.part t.coreIdx pa | none => s)
  else s.logDie (paChannel pa / 128) 13 none 0 0 (paChannel pa % 128) pa 0

/-- R280: the core's buffer holds a write to the line of an atomic that the strand made or has read. -/
def State.amoLine (s : State) (st : Strand) (pa : Nat) : Bool :=
  (s.outQ st.coreIdx).any fun e => (e.sid == st.sid || e.readers.contains st.sid) && e.line == pa - pa % 64

/-- R285, R294: what an AMO waits for before it leaves the strand. -/
def State.amoWait (s : State) (st : Strand) (pa n kind scope order : Nat) : Option Stall :=
  match (if s.relWait st then some .fence else s.accessWait st pa n kind) with
  | some w => some w
  | none =>
    if s.amoLine st pa then some .fence
    else if kind != 2 && decide (order / 2 = 1) &&
        ((st.loads.any fun l => l.kind != 2) || (decide (3 ≤ scope) && s.releaseBlocked st [0, 1])) then some .fence
    else none

/-- The core that a part of a request came from. -/
def State.partCore (s : State) (p : AtomPart) : Option Nat := (s.strand p.sid).map Strand.coreIdx

/-- R261: a request of the core to this address is still on its way: a later one goes behind it. -/
def State.netBusy (s : State) (core pa : Nat) : Bool :=
  s.net.any fun q => q.pa == pa && q.parts.any fun p => s.partCore p == some core

/-- AMO at a checked physical address: at once, or outstanding (log 4) while the words behind it go on under the order it asks for
(R267, R294); one that leaves the package's own arrays, or that no choice lets go by, holds its word until the answer, so that a fault of
its home is precise (R77, R272). -/
def State.amoAt (s : State) (op : Nat) (d b : BitVec 5) (pa kind scope order : Nat) (addr : Word) : WRes :=
  match s.amoWait s.st pa (amoSize op) kind scope order with
  | some w => .wait w
  | none =>
    if paIsControl pa then flt 0x05 addr
    else
      let (late, s) := s.takeLate
      let s := { s with st := { s.st.closeWindow 2 with relPend := none } }
      let st := s.st
      let pass : Bool := late && !paIsFar pa
      if pass || paIsFar pa || s.netBusy st.coreIdx pa || s.stalled st.die pa then
        let dest := if d == 0 then 256 else st.phys d.toNat
        let l : PendLoad := ⟨dest, pa, addr, st.pc, kind, amoSize op, false, true, kind != 2 && order % 2 == 1, none, s.time, !pass,
          s.amoOld op pa, st.seq⟩
        let r : AtomReq := ⟨op, pa, addr, order, scope, st.rs b, [⟨st.sid, dest, none, st.pc, st.rs b, st.rs d⟩], s.time⟩
        let t : State := { s with st := { st with loads := st.loads ++ [l] }, net := s.net ++ [r] }
        .ok (if pass then t.advance 4 else { t with st := { t.st with stall := some .interlock } })
      else
        match s.amoPoison op pa with
        | some a => .ok (State.seqFault (s.logAmoPoison (some st) a) ⟨0x0C, word (addr.toNat + (a - pa)), 0⟩)
        | none =>
          let r := s.amoDo op pa (st.rs b) (st.rs d)
          .ok (r.2.writeRd d (amoResult op r.1) 4)

/-- AMO (R266): the checks of Table 4.5 with both rights, then the operation. -/
def State.amoWord (s : State) (op : Nat) (d a b : BitVec 5) (scope order : Nat) : WRes :=
  let addr := s.st.rs a
  match s.check s.st s.st.anchor addr (amoSize op) .atomic with
  | .fault c _ => flt c addr
  | .absent cause => .park ⟨addr, 2, cause, 0⟩
  | .ok pa kind _ _ => (s.cacheFor s.st addr).amoAt op d b pa kind scope order addr

/-- AMO ADD (Table 14.2, op 0). -/
def execAmoAdd (d : BitVec 5) (a : BitVec 5) (b : BitVec 5) (c : BitVec 3) (r : BitVec 2) (s : State) : Host.Outcome State Fault Refusal :=
  finish s (s.amoWord 0 d a b c.toNat r.toNat)

/-- AMO AND (Table 14.2, op 1). -/
def execAmoAnd (d : BitVec 5) (a : BitVec 5) (b : BitVec 5) (c : BitVec 3) (r : BitVec 2) (s : State) : Host.Outcome State Fault Refusal :=
  finish s (s.amoWord 1 d a b c.toNat r.toNat)

/-- AMO OR (Table 14.2, op 2). -/
def execAmoOr (d : BitVec 5) (a : BitVec 5) (b : BitVec 5) (c : BitVec 3) (r : BitVec 2) (s : State) : Host.Outcome State Fault Refusal :=
  finish s (s.amoWord 2 d a b c.toNat r.toNat)

/-- AMO XOR (Table 14.2, op 3). -/
def execAmoXor (d : BitVec 5) (a : BitVec 5) (b : BitVec 5) (c : BitVec 3) (r : BitVec 2) (s : State) : Host.Outcome State Fault Refusal :=
  finish s (s.amoWord 3 d a b c.toNat r.toNat)

/-- AMO MIN (Table 14.2, op 4). -/
def execAmoMin (d : BitVec 5) (a : BitVec 5) (b : BitVec 5) (c : BitVec 3) (r : BitVec 2) (s : State) : Host.Outcome State Fault Refusal :=
  finish s (s.amoWord 4 d a b c.toNat r.toNat)

/-- AMO MAX (Table 14.2, op 5). -/
def execAmoMax (d : BitVec 5) (a : BitVec 5) (b : BitVec 5) (c : BitVec 3) (r : BitVec 2) (s : State) : Host.Outcome State Fault Refusal :=
  finish s (s.amoWord 5 d a b c.toNat r.toNat)

/-- AMO MINN (Table 14.2, op 6). -/
def execAmoMinn (d : BitVec 5) (a : BitVec 5) (b : BitVec 5) (c : BitVec 3) (r : BitVec 2) (s : State) : Host.Outcome State Fault Refusal :=
  finish s (s.amoWord 6 d a b c.toNat r.toNat)

/-- AMO MAXN (Table 14.2, op 7). -/
def execAmoMaxn (d : BitVec 5) (a : BitVec 5) (b : BitVec 5) (c : BitVec 3) (r : BitVec 2) (s : State) : Host.Outcome State Fault Refusal :=
  finish s (s.amoWord 7 d a b c.toNat r.toNat)

/-- AMO SWAP (Table 14.2, op 8). -/
def execAmoSwap (d : BitVec 5) (a : BitVec 5) (b : BitVec 5) (c : BitVec 3) (r : BitVec 2) (s : State) : Host.Outcome State Fault Refusal :=
  finish s (s.amoWord 8 d a b c.toNat r.toNat)

/-- AMO CAS (Table 14.2, op 9). -/
def execAmoCas (d : BitVec 5) (a : BitVec 5) (b : BitVec 5) (c : BitVec 3) (r : BitVec 2) (s : State) : Host.Outcome State Fault Refusal :=
  finish s (s.amoWord 9 d a b c.toNat r.toNat)

/-- AMO FADD32 (Table 14.2, op 10). -/
def execAmoFadd32 (d : BitVec 5) (a : BitVec 5) (b : BitVec 5) (c : BitVec 3) (r : BitVec 2) (s : State) : Host.Outcome State Fault Refusal :=
  finish s (s.amoWord 10 d a b c.toNat r.toNat)

/-- AMO ADDW (Table 14.2, op 11). -/
def execAmoAddw (d : BitVec 5) (a : BitVec 5) (b : BitVec 5) (c : BitVec 3) (r : BitVec 2) (s : State) : Host.Outcome State Fault Refusal :=
  finish s (s.amoWord 11 d a b c.toNat r.toNat)

/-- AMO CASW (Table 14.2, op 12). -/
def execAmoCasw (d : BitVec 5) (a : BitVec 5) (b : BitVec 5) (c : BitVec 3) (r : BitVec 2) (s : State) : Host.Outcome State Fault Refusal :=
  finish s (s.amoWord 12 d a b c.toNat r.toNat)

/-- AMO SWAPW (Table 14.2, op 13). -/
def execAmoSwapw (d : BitVec 5) (a : BitVec 5) (b : BitVec 5) (c : BitVec 3) (r : BitVec 2) (s : State) : Host.Outcome State Fault Refusal :=
  finish s (s.amoWord 13 d a b c.toNat r.toNat)

/-! ### Requests on their way (R269-R272) -/

/-- Ops that may merge (R269). -/
def amoMerges (op : Nat) : Bool := op < 8 || op == 10 || op == 11 || op == 14 || op == 15

/-- R269: whether two requests may become one. -/
def AtomReq.mayMerge (x y : AtomReq) : Bool :=
  x.pa == y.pa && x.op == y.op && amoMerges x.op && x.order % 2 == 0 && y.order % 2 == 0 && decide (3 ≤ x.scope) &&
    decide (3 ≤ y.scope) && decide (x.parts.length + y.parts.length ≤ 16)

/-- R261: two requests to one address share a source: they are delivered in the order they were sent. -/
def State.sameSource (s : State) (x y : AtomReq) : Bool :=
  x.pa == y.pa && x.parts.any fun a => (s.partCore a).isSome && y.parts.any fun b => s.partCore b == s.partCore a

/-- ROUTER_MERGE (R269): the nth request joins the mth, behind its parts, with the operands combined; it passes none that R261 keeps
in order with it, nor goes behind a later one of its source. -/
def execRouterMerge (m n : Nat) (s : State) : Host.Outcome State Fault Refusal :=
  match s.net[m]?, s.net[n]? with
  | some x, some y =>
    let between := (s.net.drop (min m n + 1)).take (max m n - min m n - 1)
    if m != n && x.mayMerge y && !(between.any (s.sameSource y)) && !(decide (n < m) && s.sameSource x y) then
      let z : AtomReq := { x with operand := (amoNew x.op x.operand y.operand 0).getD x.operand, parts := x.parts ++ y.parts }
      .next { s with net := (s.net.set m z).eraseIdx n }
    else .next s
  | _, _ => .next s

/-- The load a part of a request stands for. -/
def State.partLoad (s : State) (q : AtomReq) (p : AtomPart) : Option PendLoad :=
  (s.strand p.sid).bind fun st => st.loads.find? fun l => l.amo && l.pa == q.pa && l.dest == p.dest

/-- HOME_ATOMIC (R266, R272): the nth request is performed at its home, which answers with the old value, poison or an
error; at a home in another package, behind what that one may have written of its own; it waits while its channel or the die link retrains. -/
def execHomeAtomic (n : Nat) (s : State) : Host.Outcome State Fault Refusal :=
  match s.net[n]? with
  | none => .next s
  | some q =>
    let die := ((q.parts.head?.bind s.partCore).getD 0) / 256
    if (s.net.take n).any (s.sameSource q) || s.stalled die q.pa then .next s
    else
      let s := State.foreignWrite ({ s with net := s.net.eraseIdx n }.crossed die q.pa) q.pa (amoSize q.op)
      if !s.reachable q.pa then .next { s with replies := s.replies ++ [⟨q, 0, some 0x05⟩] }
      else
        match s.amoPoison q.op q.pa with
        | some a => .next (State.logAmoPoison { s with replies := s.replies ++ [⟨q, word a, some 0x0C⟩] }
            (q.parts.head?.bind fun p => s.strand p.sid) a)
        | none =>
          let e := match q.parts with | p :: _ => p.e | [] => 0
          let r := s.amoDo q.op q.pa q.operand e
          .next { r.2 with replies := r.2.replies ++ [⟨q, r.1, none⟩] }

/-- One lane's answer to a GAMO: its old value, or the refusal, of which the lowest grid index and lane counts (R115). -/
def Atoms.answer (a : Atoms) (g j : Nat) (old : W32) (fault : Option (Nat × Word)) : Atoms :=
  match fault with
  | none => { a with left := a.left - 1, got := a.got ++ [((g, j), old)] }
  | some f =>
    let lower : Bool := match a.bad with | some (k, _) => decide (g < k.1) || (g == k.1 && decide (j < k.2)) | none => true
    { a with left := a.left - 1, bad := if lower then some ((g, j), f) else a.bad }

/-- The lanes of a GAMO hear the answer. -/
def Strand.answerLane (st : Strand) (id g j : Nat) (old : W32) (fault : Option (Nat × Word)) : Strand :=
  { st with flights := st.flights.map fun f => match f.atoms with
      | some a => if a.id == id then { f with atoms := some (a.answer g j old fault) } else f
      | none => f }

/-- R270: the answer to one part: a lane hears it, or its register receives the old value of its place in the serial order and a word
that waits completes or takes its fault. A refused AMO whose word has gone by leaves its register, and its fault is pending at the next
boundary (R271, R272, log 68). -/
def State.answerPart (s : State) (q : AtomReq) (p : AtomPart) (old : Word) (fault : Option Nat) : State :=
  match p.lane with
  | some (id, g, j, va) =>
    s.mod p.sid fun t => t.answerLane id g j (low32 old) (fault.map fun c => (c, if c == 0x0C then word (va.toNat + (old.toNat - q.pa)) else va))
  | none =>
    match s.partLoad q p with
    | none => s
    | some l =>
      s.onStrand p.sid fun s =>
        let st := { s.st with loads := s.st.loads.erase l, stall := if l.held then none else s.st.stall }
        match fault with
        | some c =>
          let a := if c == 0x0C then word (l.va.toNat + (old.toNat - q.pa)) else l.va
          if l.held then State.answerFault { s with st := st } c a
          else State.logRaised { s with st := st.addPend ⟨c, 0, 0, l.addr, a, 0, l.seq, ⟨0, 0, 0, 0⟩, false⟩ } c a 0
        | none =>
          let done : Strand := if p.dest == 256 then st else { st with sregs := SMap.set 0 st.sregs p.dest (amoResult q.op old) }
          if l.held then State.advance { s with st := done } 4 else { s with st := done }

/-- The parts of a merged request with their old values (R270). -/
def partOlds (op : Nat) (old : Word) : List AtomPart → List (AtomPart × Word)
  | [] => []
  | p :: t => (p, old) :: partOlds op ((amoNew op old p.b 0).getD old) t

/-- What each part of an answered request hears: its old value, or with a fault the address every part is given (R271). -/
def AtomReply.split (r : AtomReply) : List (AtomPart × Word) :=
  if r.fault.isSome then r.req.parts.map fun p => (p, r.old) else partOlds r.req.op r.old r.req.parts

/-- MERGED_REPLY_SPLIT (R270, R271): the oldest answer goes back to every part of its request. -/
def execMergedReplySplit (s : State) : Host.Outcome State Fault Refusal :=
  match s.replies with
  | [] => .next s
  | r :: rest => .next (r.split.foldl (fun s e => s.answerPart r.req e.1 e.2 r.fault) { s with replies := rest })

end Sys2Proof.Machine
end

