-- ==== Sys2Proof/Machine/Branch.lean ====
section
/-! DEFINITION. Branches, jumps, calls and returns (R90-R95), LOOPS and REP (R51, R52, R96, R97), guard slots and tokens
from the sequencer (R99-R105). -/

namespace Sys2Proof.Machine

/-! ### Transfers (R92) -/

/-- Table 4.6, steps 1 to 3: the fault of a transfer to a target, if any. -/
def State.targetFault (s : State) (target : Word) : Option Nat :=
  if bf target 0 2 != 0 then some 0x04 else s.fetchFault s.st.part target

/-- A taken branch or jump (R52, R92). -/
def State.jumpTo (s : State) (target : Word) : WRes :=
  match s.targetFault target with
  | some c => flt c target
  | none =>
    let st := s.st.unitDone
    .ok { s with st := { st with pc := target, loops := exitLoops target st.loops, afterCall := none } }

/-- R90: a conditional branch. -/
def State.branch (s : State) (c : Cond) (a b : BitVec 5) (i : BitVec 14) : WRes :=
  if c.holds (s.st.rs a) (s.st.rs b) then s.jumpTo (branchTarget s.st.pc i) else .ok (s.advance 4)

/-- BEQ (R90). -/
def execBeq (a : BitVec 5) (b : BitVec 5) (i : BitVec 14) (s : State) : Host.Outcome State Fault Refusal :=
  finish s (s.branch .eq a b i)

/-- BNE (R90). -/
def execBne (a : BitVec 5) (b : BitVec 5) (i : BitVec 14) (s : State) : Host.Outcome State Fault Refusal :=
  finish s (s.branch .ne a b i)

/-- BLT (R90). -/
def execBlt (a : BitVec 5) (b : BitVec 5) (i : BitVec 14) (s : State) : Host.Outcome State Fault Refusal :=
  finish s (s.branch .lt a b i)

/-- BGE (R90). -/
def execBge (a : BitVec 5) (b : BitVec 5) (i : BitVec 14) (s : State) : Host.Outcome State Fault Refusal :=
  finish s (s.branch .ge a b i)

/-- BLTN (R90). -/
def execBltn (a : BitVec 5) (b : BitVec 5) (i : BitVec 14) (s : State) : Host.Outcome State Fault Refusal :=
  finish s (s.branch .ltn a b i)

/-- BGEN (R90). -/
def execBgen (a : BitVec 5) (b : BitVec 5) (i : BitVec 14) (s : State) : Host.Outcome State Fault Refusal :=
  finish s (s.branch .gen a b i)

/-- J (R91). -/
def execJ (i : BitVec 20) (s : State) : Host.Outcome State Fault Refusal := finish s (s.jumpTo (jumpTarget s.st.pc i))

/-- JR (R91). -/
def execJr (t : BitVec 5) (s : State) : Host.Outcome State Fault Refusal := finish s (s.jumpTo (s.st.rs t))

/-- The word at a text address. -/
def State.wordAt (s : State) (pc : Word) : Option (W32 × W32) :=
  (s.textAt s.st.part pc).map fun e => (s.textWord e.1 e.2, s.textWord e.1 (e.2 + 1))

/-- R93: the ENTER of a call: its own faults, and the vector spill it needs. -/
def State.enterFault (s : State) (w : W32) : Option Flt :=
  match decode w 0 with
  | .error r => some ⟨rejectCode r, 0, 0⟩
  | .ok _ =>
    let n := (fld w 0 2).toNat
    if !s.st.regionFits s.st.pushSf (s.st.vb + s.st.blocksOut n) then some ⟨0x16, 0, 0⟩
    else (s.spillFault (s.st.enterJobs n)).map fun a => ⟨0x05, a, 0⟩

/-- R93: the call itself, once the transfers of the pair are made. -/
def Strand.callEntry (st : Strand) (target : Word) : Strand :=
  let u := (st.closeWindow 7).unitDone.pushFrame
  { u.setRs 9 (st.pc + 4) with pc := target, afterCall := some st.pc }

/-- R92, R93: the call and the checks of the ENTER it pairs with: a fault of the ENTER undoes both, and names the call; a frame
that the call has spilled by then stays in the tower. -/
def State.callTo (s : State) (target : Word) : WRes :=
  match s.targetFault target with
  | some c => flt c target
  | none =>
    match s.wordAt target with
    | none => flt 0x05 target
    | some (w, _) =>
      if !isEnterWord w then flt 0x17 target
      else if !s.st.regionFits s.st.pushSf s.st.vb then flt 0x16 0
      else match s.spillFault s.st.pushJobs with
      | some a => flt 0x05 a
      | none =>
        s.awaitJobs 0 s.st.pushJobs (match s.enterFault w with
          | some f => .fault f
          | none => s.awaitJobs s.st.pushJobs.length (s.st.enterJobs (fld w 0 2).toNat)
              (if s.st.linkBusy then .wait .interlock else .ok { s with st := s.st.callEntry target }))

/-- CALL (R93). -/
def execCall (i : BitVec 20) (s : State) : Host.Outcome State Fault Refusal := finish s (s.callTo (jumpTarget s.st.pc i))

/-- CALLR (R93): rt is read before the window moves. -/
def execCallr (t : BitVec 5) (s : State) : Host.Outcome State Fault Refusal := finish s (s.callTo (s.st.rs t))

/-- ENTER (R17, R94): only behind the call word just executed. -/
def State.enterWord (s : State) (v : BitVec 2) : WRes :=
  match s.st.afterCall with
  | none => flt 0x17 s.st.pc
  | some _ =>
    let st := s.st.pushBlocks v.toNat
    let st := st.setRs 9 (setBf (st.rs 9) 0 2 v.toNat)
    .ok (State.advance { s with st := st } 4)

/-- ENTER. -/
def execEnter (v : BitVec 2) (s : State) : Host.Outcome State Fault Refusal := finish s (s.enterWord v)

/-- R95: the strand after a return to a target. -/
def Strand.returnTo (st : Strand) (target : Word) (n : Nat) : Strand :=
  { ((st.closeWindow 7).unitDone.popFrame).popBlocks n with pc := target, afterCall := none }

/-- RET (R95): both windows move back and PC is s9 without its low bits; loops stay (R52). -/
def State.retWord (s : State) : WRes :=
  let r := s.st.rs 9
  let target := setBf r 0 2 0
  match s.targetFault target with
  | some c => flt c target
  | none =>
    let jobs := s.st.popJobs ++ s.st.leaveJobs (bf r 0 2)
    match s.spillFault jobs with
    | some a => flt 0x05 a
    | none => s.awaitJobs 0 jobs (.ok { s with st := s.st.returnTo target (bf r 0 2) })

/-- RET. -/
def execRet (s : State) : Host.Outcome State Fault Refusal := finish s s.retWord

/-! ### Loops (R96, R97) -/

/-- Whether a word is the S long form of a lop. -/
def isLong (lop : Nat) (w : W32) : Bool := fld w 29 3 == 1 && (fld w 25 4).toNat == lop

/-- Whether a word is REP (lop 5). -/
def isRepWord (w : W32) : Bool := isLong 5 w

/-- R52, R97: a LOOPS of l words is refused: a fifth level, an end at a marked word, a body that ends with a REP. -/
def State.loopsRefused (s : State) (l : Nat) : Bool :=
  let e := s.st.pc + 4 + word (4 * l)
  let marked : Bool := match s.textAt s.st.part e with | some (o, i) => o.lits.contains i | none => false
  let lastRep : Bool := match s.textAt s.st.part (e - 4) with
    | some (o, i) => !o.lits.contains i && isRepWord (s.textWord o i)
    | none => false
  decide (4 ≤ s.st.loops.length) || marked || lastRep

/-- LOOPS (R52, R96). DESIGN CHOICE: a count of 0 sets the PC to E, where the levels around it meet their end test at once, as in
sequential flow (log 49). -/
def State.loopsWord (s : State) (r : BitVec 5) (l : BitVec 14) : WRes :=
  let start := s.st.pc + 4
  let e := start + word (4 * l.toNat)
  if s.loopsRefused l.toNat then flt 0x01 0
  else
    let n := bf (s.st.rs r) 0 32
    let st := s.st.unitDone
    if n == 0 then
      let t := endTest e st.loops
      .ok { s with st := { st with pc := t.2, loops := t.1, afterCall := none } }
    else .ok { s with st := { st with pc := start, loops := ⟨start, l.toNat, n - 1⟩ :: st.loops, afterCall := none } }

/-- LOOPS. -/
def execLoops (r : BitVec 5) (l : BitVec 14) (s : State) : Host.Outcome State Fault Refusal := finish s (s.loopsWord r l)

/-- REP (R51, R97): its target is checked, and PC moves to it with the REP state set. -/
def State.repWord (s : State) (c b a : BitVec 2) (n : BitVec 6) : WRes :=
  match s.repTarget (s.st.pc + 4) with
  | none => flt 0x01 0
  | some (m1, m2, m3) =>
    if (!m1 && a != 0) || (!m2 && b != 0) || (!m3 && c != 0) then flt 0x02 0
    else .ok { s with st := ({ s.st.unitDone with rep := ⟨n.toNat + 1, 0, a, b, c⟩ } : Strand).flow 4 }

/-- REP. -/
def execRep (c : BitVec 2) (b : BitVec 2) (a : BitVec 2) (n : BitVec 6) (s : State) : Host.Outcome State Fault Refusal :=
  finish s (s.repWord c b a n)

/-! ### Guards and tokens (R99-R105) -/

/-- GSET (R99): a comparison decides the current generation, or opens and decides a fresh one. -/
def State.gsetWord (s : State) (k : Nat) (t : Bool) : WRes :=
  if (s.st.guardSlot k).st == .unresolved then .ok (State.advance { s with st := s.st.resolve k t } 4)
  else
    match s.st.openGen k with
    | none => .wait .guardOpen
    | some st => .ok (State.advance { s with st := st.resolve k t } 4)

/-- GSET. -/
def execGset (k : BitVec 3) (a : BitVec 5) (b : BitVec 5) (c : BitVec 3) (s : State) : Host.Outcome State Fault Refusal :=
  finish s (s.gsetWord k.toNat (gsetTest c.toNat (s.st.rs a) (s.st.rs b)))

/-- GSET UNRESOLVE (R99): an unresolved generation is closed false before the wait for a held one. -/
def State.gsetUnresWord (s : State) (k : Nat) : WRes :=
  let st := s.st.closeGen k
  match st.openGen k with
  | none => .ok { s with st := st.waits .guardOpen }
  | some st => .ok (State.advance { s with st := st } 4)

/-- GSET UNRESOLVE (R99). -/
def execGsetUnres (k : BitVec 3) (s : State) : Host.Outcome State Fault Refusal := finish s (s.gsetUnresWord k.toNat)

/-- GUARD_RESOLUTION_VISIBLE (R101): the queue heads see the resolutions made so far. -/
def execGuardResolutionVisible (s : State) : Host.Outcome State Fault Refusal := .next { s with st := s.st.showGuards }

end Sys2Proof.Machine
end

