-- ==== Sys2Proof/Machine/FaultQueue.lean ====
section
/-! DEFINITION. The fault queue of a cluster as the handler meets it: FQSTAT, FQHEAD, completion and overflow
(R302-R307), and the walk. -/

namespace Sys2Proof.Machine

/-- FQSTAT.CLSEL of a strand (Table 16.3). -/
def Strand.clsel (st : Strand) : Nat := (st.sysv 0x050).toNat

/-- FQSTAT (Table 16.3). -/
def State.fqstat (s : State) (st : Strand) : Word :=
  let cl := st.clsel
  let es := (s.fqOf cl).filter (·.part == st.part)
  let key := fqKey cl st.part
  word (cl * 2 ^ 56 + min ((s.heldOf cl).filter (·.part == st.part)).length 64 * 2 ^ 32 + b2n (SMap.get false s.fovf key) * 2 ^ 31 +
    (es.filter (!·.claimed)).length * 2 ^ 16 + (es.filter (·.claimed)).length * 2 ^ 8 +
    b2n (!SMap.get false s.disarmed key) * 2 ^ 7 + s.fqFree cl st.part)

/-- FQHEAD as it returns an entry. -/
def FqEntry.head (e : FqEntry) : Word :=
  word (2 ^ 63 + e.idx * 2 ^ 57 + e.kind * 2 ^ 54 + e.cause * 2 ^ 52 + e.core * 2 ^ 49 + e.field * 2 ^ 47 + e.src * 2 ^ 45 + e.vpn)

/-- R303: SRD of FQHEAD claims the oldest posted entry of the partition; with none it sets ARMED. -/
def State.fqClaim (s : State) : Word × State :=
  let cl := s.st.clsel
  match (s.fqOf cl).find? (fun e => e.part == s.st.part && !e.claimed) with
  | some e => (e.head, s.setFq cl ((s.fqOf cl).map fun x => if x.idx == e.idx then { x with claimed := true } else x))
  | none => (0, { s with disarmed := SMap.set false s.disarmed (fqKey cl s.st.part) false })

/-- A strand's demand fault ends: its sequencer or V queue goes on, or its C head begins again from its checks (R306); a wait it
stood in goes on with its count (R198). -/
def Strand.unpark (st : Strand) (src : Nat) : Strand := if src == 3 then { st with cheld := none } else { st with park := none }

/-- R306, RESULT 1: the access takes fault 0x05 at the next boundary, as a fault of its source. -/
def Strand.failPark (st : Strand) (src : Nat) : Strand :=
  let p := if src == 3 then st.cheld else st.park
  let va : Word := (p.map (·.va)).getD 0
  let st' := st.unpark src
  match srcQueue src with
  | some q =>
    let v := st'.queue q
    let addr := (v.cur.map (·.addr)).getD 0
    let repk := (v.cur.map (·.repk)).getD 0
    let seq := (v.cur.map (·.seq)).getD 0
    let lp := (v.cur.map (·.lp)).getD ⟨0, 0, 0, 0⟩
    (st'.setQueue q { v with stopped := true }).addPend ⟨0x05, src, 0, addr, va, repk, seq, lp, false⟩
  | none => st'.addPend ⟨0x05, 0, 0, st'.pc, va, 0, st'.seq, ⟨0, 0, 0, 0⟩, true⟩

/-- R305: the oldest held fault that may take an entry is posted, and the others held for its page join it; one whose page has an
entry joins that. -/
def State.postHeld (s : State) (cl : Nat) : State :=
  let may (h : HeldFault) : Bool := (s.fqOf cl).any (fun e => e.part == h.part && e.vpn == h.vpn) || decide (0 < s.fqFree cl h.part)
  match takeFirst may (s.heldOf cl) with
  | some (h, rest) =>
    let same := rest.filter h.samePage
    let s := s.setHeld cl (rest.filter fun k => !h.samePage k)
    same.foldl (fun s k => s.fqPost cl k) (s.fqPost cl h)
  | none => s

/-- R306 for one faulter. -/
def State.completeFaulter (s : State) (e : FqEntry) (result : Nat) (f : Faulter) : State :=
  match s.strand f.sid with
  | none => s
  | some st =>
    match result with
    | 0 => { s.mod f.sid fun t => t.unpark f.src with resume := s.resume ++ [f] }
    | 1 =>
      let va : Word := ((if f.src == 3 then st.cheld else st.park).map (·.va)).getD 0
      (match f.src == 3, st.rollback with
       | true, some (.poison _ byte dword _ _ _) => s.machineCheck st 10 dword byte
       | _, _ => State.logViol (s.mod f.sid fun t => t.failPark f.src) st.part 0x05 0 st.taskNo va)
    | _ =>
      (s.logFault st.part 3 0 0 st.taskNo st.placement (word (15 * 2 ^ 60 + e.vpn * 2 ^ 16)) 0x06).endTask st 0x06 true

/-- R306, R312: a strand's access whose page has come is performed again behind those whose pages came before it. -/
def State.resumeWaits (s : State) (src : Nat) : Bool :=
  match s.resume with
  | f :: rest => f != ⟨s.st.sid, src⟩ && rest.contains ⟨s.st.sid, src⟩
  | [] => false

/-- It has had its turn. -/
def State.resumed (s : State) (src : Nat) : State := { s with resume := s.resume.filter (· != ⟨s.st.sid, src⟩) }

/-- R306: completion of an entry, for every faulter joined to it in parking order; the entry is free and a held fault may
take it (R305). -/
def State.fqComplete (s : State) (cl : Nat) (e : FqEntry) (result : Nat) : State :=
  let s := s.setFq cl ((s.fqOf cl).filter fun x => x.idx != e.idx)
  (e.faulters.foldl (fun s f => s.completeFaulter e result f) s).postHeld cl

/-- R303: SWR of FQHEAD. -/
def State.fqheadWord (s : State) (v : Word) : WRes :=
  let cl := s.st.clsel
  match (s.fqOf cl).find? (fun e => e.idx == bf v 57 6 && e.part == s.st.part && e.claimed) with
  | none => flt 0x01 0
  | some e =>
    if bf v 43 2 == 3 then flt 0x01 0
    else if bf v 39 4 != 0 then flt 0x02 0
    else if s.releaseBlocked s.st [0, 1, 2] || (s.st.loads.any fun l => l.kind != 2) then .wait .fence
    else .ok (State.fqComplete { s with st := (s.st.closeWindow 9).advance 4 } cl e (bf v 43 2))

/-- R303: SWR of FQSTAT: CLSEL is written, and OVF cleared by a 1. DESIGN CHOICE: the OVF of the cluster that the write selects (log 119). -/
def State.fqstatWord (s : State) (v : Word) : WRes :=
  if bf v 62 2 != 0 || bf v 40 16 != 0 || bf v 23 8 != 0 || bf v 15 1 != 0 then flt 0x02 0
  else
    let s := if wbit v 31 then { s with fovf := SMap.set false s.fovf (fqKey (bf v 56 6) s.st.part) false } else s
    .ok { s with st := ((s.st.setSys 0x050 (word (bf v 56 6))).closeWindow 9).advance 4 }

/-- PAGE_WALK (R296-R299): a far translator walks for a page; a present leaf is cached, nothing else changes. -/
def execPageWalk (cluster part va : Nat) (s : State) : Host.Outcome State Fault Refusal :=
  .next (s.cache cluster part va (s.lookup cluster part va false))

/-- HELD_FAULT_POST (R305): the oldest held fault of a cluster that may take an entry is posted. -/
def execHeldFaultPost (cluster : Nat) (s : State) : Host.Outcome State Fault Refusal := .next (s.postHeld cluster)

/-- HANDLER_SIGNAL (R436): the hub acts on the record that FHREC of a partition names. -/
def execHandlerSignal (part : Nat) (s : State) : Host.Outcome State Fault Refusal := .next (s.handlerSignal part)

end Sys2Proof.Machine
end

