-- ==== Sys2Proof/Machine/Lehr.lean ====
section
/-! DEFINITION. The lehr and the scrubber of a die (R346-R353): refresh passes, deferrals and their guard, corrected and
uncorrected errors, capacity requests, and the replacement of a cell by a spare. -/

namespace Sys2Proof.Machine

/-- A die event that names a cell and a bank (R358). -/
def State.logBank (s : State) (k cell bank : Nat) (pa : Nat) (detail : Word) : State :=
  s.logDie (cellDie cell) k (some (cell / 64 % 256)) (cell % 64) bank 0 pa detail

/-- R348: at the guard the deferral is cleared, the pass is forced and class 4 is counted. -/
def State.forcePass (s : State) (cell bank : Nat) : State :=
  let b := s.bankAt cell bank
  State.logBank (s.setBank cell bank (({ b with deferred := false, by' := 0 } : Bank).startPass s.now)) 4 cell bank 0 0

/-- R347: REFD on one bank. ACTION 0 defers it, unless its guard is due; 1 releases it, and a due pass starts; 2 starts a
pass. -/
def State.refdBank (s : State) (action key cell bank : Nat) : State :=
  let b := s.bankAt cell bank
  let free : Bank := { b with deferred := false, by' := 0 }
  match action with
  | 0 =>
    if s.bankAtGuard cell b then (if b.running then s else s.forcePass cell bank)
    else s.setBank cell bank { b with deferred := true, by' := key, running := false, bursts := 0 }
  | 1 => State.startDue (s.setBank cell bank free) cell bank
  | _ => s.setBank cell bank (free.startPass s.now)

/-- R347: REFD over the grid and the mask. -/
def State.refd (s : State) (action mask : Nat) : State :=
  s.st.grid.foldl (fun s c =>
    (List.range 16).foldl (fun s b => if bitsOf mask b 1 == 1 then s.refdBank action s.st.taskKey c b else s) s) s

/-- R346: as time passes the pass of every bank that has come due starts: of the banks that have had one, and of those whose first is due
since TIME was `was`. -/
def State.lehrTick (s : State) (was : Nat) : State :=
  let s := s.banks.foldl (fun s e => s.startDue (e.1 / 16) (e.1 % 16)) s
  (List.range 2).foldl (fun s die =>
    let p := max 1 (s.rperiod die 0)
    let lo := min dieBanks (was * dieBanks / p)
    (List.range (min dieBanks (s.now * dieBanks / p) - lo)).foldl (fun s i => s.startDue (die * 16384 + (lo + i) / 16) ((lo + i) % 16)) s) s

/-- REFRESH_DUE (R346): the pass of a due bank that is not deferred starts. -/
def execRefreshDue (cell bank : Nat) (s : State) : Host.Outcome State Fault Refusal := .next (s.startDue cell bank)

/-- REFRESH_GUARD (R348). -/
def execRefreshGuard (cell bank : Nat) (s : State) : Host.Outcome State Fault Refusal :=
  let b := s.bankAt cell bank
  .next (if !b.running && s.bankAtGuard cell b then s.forcePass cell bank else s)

/-- R351: the bank's error count has reached CETHR: a capacity request with its entry and handler signal. -/
def State.capacityRequest (s : State) (cell bank : Nat) : State :=
  let b := s.bankAt cell bank
  if b.strong || b.creq || b.cecnt < s.cethrOf (cellDie cell) then s
  else
    let s := State.logBank (s.setBank cell bank { b with creq := true }) 3 cell bank 0 (word b.cecnt)
    match s.ownerOf (cell / 64) with
    | some p => s.handlerSignal p
    | none => s

/-- R351-R353: what a bank's error counts bring: a capacity request, re-encoding without
acknowledgement, or the core's MPEND for a cell to be replaced. -/
def State.scrubCheck (s : State) (cell bank : Nat) : State :=
  let s := s.capacityRequest cell bank
  let b := s.bankAt cell bank
  let full : Bool := decide (4 * s.cethrOf (cellDie cell) ≤ b.cecnt)
  let s := if !b.strong && full then s.setBank cell bank { b with creq := false, strong := true, cecnt := 0 } else s
  if (b.strong && full) || decide (16 ≤ b.bad) then
    s.setCore (cell / 64) { s.coreAt (cell / 64) with mpend := true }
  else s

/-- An uncorrected error (R350, R435): the 8-byte unit is marked and class 2 counted; a queued write is not touched. -/
def State.scrubBad (s : State) (cell bank off : Nat) : State :=
  let pa := towerPA cell (off - off % 8)
  let b := s.bankAt cell bank
  State.logBank ((s.setBank cell bank { b with bad := b.bad + 1 }).mark pa true) 2 cell bank pa 0

/-- REFRESH_BURST (R346, R350): a burst of a running pass, with the errors it corrects and the offsets of the bank it
finds beyond correction; the 256th completes the pass and advances the stamp. -/
def execRefreshBurst (cell bank corrected : Nat) (bad : List Nat) (s : State) : Host.Outcome State Fault Refusal :=
  let b := s.bankAt cell bank
  if !b.running then .next s
  else
    let b := if b.bursts + 1 == 256 then { b with running := false, bursts := 0, stamp := b.began } else { b with bursts := b.bursts + 1 }
    let s := s.setBank cell bank { b with cecnt := min (b.cecnt + corrected) (2 ^ 16 - 1) }
    let s := (List.replicate corrected ()).foldl (fun s _ => s.count (cellDie cell * 64 + 1)) s
    let mine := bad.filter fun o => decide (o < Config.towerBytes) && bankOf (s.spanAt cell o) o == bank
    .next ((mine.foldl (fun s o => s.scrubBad cell bank o) s).scrubCheck cell bank)

/-- A remap entry (Table 9.1). -/
def remapEntry (cell : Nat) : BitVec 16 := BitVec.ofNat 16 (2 ^ 15 + cell % 64)

/-- Whether a spare is free and in service (Table 9.1). -/
def spareFree (e : BitVec 16) : Bool := !e.getLsbD 15 && !e.getLsbD 14

/-- R184: the spare that stands in for a cell has failed: it is out of service. -/
def failSpare (cell : Nat) (e : BitVec 16) : BitVec 16 := if e == remapEntry cell then 2 ^ 14 else e

/-- R353: whether a cell is one to be replaced. -/
def State.cellFailed (s : State) (cell : Nat) : Bool :=
  (List.range 16).any fun b =>
    let k := s.bankAt cell b
    decide (16 ≤ k.bad) || (k.strong && decide (4 * s.cethrOf (cellDie cell) ≤ k.cecnt))

/-- R184, R353: the cell's tower goes to a spare with its poison, a fresh set of banks counts for it, whose words stay reclaimed where they were (R352), the remap entry is
written and class 10 logged; with no spare left the core is retired, as its partition's fault log records (R437). A spare that failed
in its place is out of service. -/
def State.remapCell (s : State) (cell : Nat) : State :=
  let core := cell / 64
  let old := s.coreAt core
  let c : CoreState := { old with remap0 := failSpare cell old.remap0, remap1 := failSpare cell old.remap1 }
  let fresh (s : State) : State := (List.range 16).foldl (fun s b =>
    let k := s.bankAt cell b
    s.setBank cell b { k with deferred := false, by' := 0, creq := false, cecnt := 0, bad := 0, running := false,
                              bursts := 0, stamp := s.now }) s
  if spareFree c.remap0 then
    State.logBank ((fresh s).setCore core { c with remap0 := remapEntry cell, mpend := false }) 10 cell 0 0 (word (remapEntry cell).toNat)
  else if spareFree c.remap1 then
    State.logBank ((fresh s).setCore core { c with remap1 := remapEntry cell, mpend := false }) 10 cell 0 0 (word (remapEntry cell).toNat)
  else (s.setCore core c).retireNow core

/-- CELL_REMAP (R353): the sparing logic replaces a failed cell of an idle core. -/
def execCellRemap (die core cell : Nat) (s : State) : Host.Outcome State Fault Refusal :=
  let k := coreIndex die core
  .next (if (s.coreAt k).mpend && !s.coreBusy k && s.cellFailed (cellIndex die core cell) then s.remapCell (cellIndex die core cell) else s)

end Sys2Proof.Machine
end

