-- ==== Sys2Proof/Machine/System.lean ====
section
/-! DEFINITION. The SYS words: TRAP and ERET (R171, R172), SRD and SWR with the access rules of R27-R29 and R173, FENCE
(R289), REFD (R347), INVAL (R291), NOP and WFE (R174). -/

namespace Sys2Proof.Machine

/-! ### TRAP and ERET -/

/-- TRAP (R172): the boundary behind the word takes fault 0x14 with the operand. -/
def execTrap (n : BitVec 10) (s : State) : Host.Outcome State Fault Refusal :=
  let t := s.advance 4
  finish s (if s.trapHeld then .wait .spill else .ok (t.trap ⟨0x14, 0, 0, 0, n.toNat, s.st.pc, 0, t.st.pc⟩))

/-- ERET (R171): TREC0.ACTION decides what it does with the faulting command. -/
def execEretResume (s : State) : Host.Outcome State Fault Refusal := finish s s.eret

/-- ERET under TREC0.ACTION 1 (R171): the word is the same. -/
def execEretDiscard (s : State) : Host.Outcome State Fault Refusal := finish s s.eret

/-- ERET under TREC0.ACTION 2 (R171): the word is the same. -/
def execEretEnd (s : State) : Host.Outcome State Fault Refusal := finish s s.eret

/-! ### System registers (R27, Table 1.4) -/

/-- Access classes of Table 1.4. -/
inductive SysAccess where
  | ro
  | rw
  | rop
  | p
deriving DecidableEq, Repr

/-- Table 1.4: the access of an index. -/
def sysAccess (i : Nat) : Option SysAccess :=
  if i == 0x001 || (0x020 ≤ i && i ≤ 0x02F) then some .rw
  else if i == 0x000 || i == 0x002 || i == 0x003 || i == 0x005 || i == 0x00A || i == 0x00B || (0x010 ≤ i && i ≤ 0x01D) then some .ro
  else if i == 0x004 || (0x006 ≤ i && i ≤ 0x009) || i == 0x00C || i == 0x00D || (0x040 ≤ i && i ≤ 0x047) then some .rop
  else if 0x048 ≤ i && i ≤ 0x053 && i != 0x04A && i != 0x04B && i != 0x04C && i != 0x04D && i != 0x04E && i != 0x04F then some .p
  else none

/-- SPILL (Table 1.5). -/
def Strand.spillWord (st : Strand) : Word := word (st.vb * 2 ^ 46 + st.sf * 2 ^ 30 + st.spLen * 2 ^ 15 + st.spBase)

/-- EXTn (Table 1.5). -/
def Extent.word (e : Extent) : Word :=
  Machine.word (e.home * 2 ^ 37 + b2n e.g * 2 ^ 36 + b2n e.wr * 2 ^ 35 + b2n e.rd * 2 ^ 34 + e.kind * 2 ^ 32 + e.units)

/-- A system register as SRD reads it, but for FQHEAD and VLOG, whose reads act (R173). -/
def State.sysRead (s : State) (i : Nat) : Word :=
  let st := s.st
  match i with
  | 0x000 => st.pc
  | 0x003 => word st.placement
  | 0x006 => st.rep.word
  | 0x007 => lpsWord st.loops
  | 0x008 => st.tok.word
  | 0x009 => st.guardsWord
  | 0x00A => word s.now
  | 0x00C => st.spillWord
  | 0x050 => s.fqstat st
  | _ => if 0x010 ≤ i && i ≤ 0x01D then (st.extent (i - 0x010)).word else st.sysv i

/-- R433: SRD of VLOG claims the oldest unread entry of the partition. -/
def State.vlogClaim (s : State) : Word × State :=
  let p := s.part s.st.part
  match p.vlog with
  | [] => (0, s)
  | e :: rest =>
    (word (2 ^ 63 + b2n p.vovf * 2 ^ 62 + e.code * 2 ^ 48 + e.version * 2 ^ 32 + e.task),
     { s.setPart s.st.part { p with vlog := rest, vovf := false } with st := s.st.setSys 0x053 e.addr })

/-- A V command that writes MB. -/
def VCmd.writesMb (c : VCmd) : Bool := c.op == .xtr || c.op == .ptst

/-- R29: a V command that writes MB has been enqueued and not performed. -/
def Strand.mbPending (st : Strand) : Bool :=
  (st.flights.any fun f => f.mb.isSome && !f.landed) || st.vq.nexts.any fun c => match c.pay with | .v v => v.writesMb | _ => false

/-- SRD (R173). -/
def State.srdWord (s : State) (d : BitVec 5) (i : Nat) : WRes :=
  match sysAccess i with
  | none => flt 0x01 0
  | some a =>
    if a == .p && !s.st.priv then flt 0x03 0
    else if i == 0x005 && s.st.mbPending then .wait .mailbox
    else if i == 0x051 then .ok ((s.fqClaim).2.writeRd d (s.fqClaim).1 4)
    else if i == 0x052 then .ok ((s.vlogClaim).2.writeRd d (s.vlogClaim).1 4)
    else .ok (s.writeRd d (s.sysRead i) 4)

/-- SRD. -/
def execSrd (d : BitVec 5) (i : BitVec 10) (s : State) : Host.Outcome State Fault Refusal := finish s (s.srdWord d i.toNat)

/-- R29: nothing stands in the engine queues, and no V result has posts to make: no generation is held. -/
def Strand.queuesEmpty (st : Strand) : Bool := st.vq.isEmpty && st.dq.isEmpty && st.cq.isEmpty && st.flightsDone

/-- The word is complete with a strand whose window an SWR has closed (Table 11.1, code 9). -/
def State.swrDone (s : State) (st : Strand) : WRes := .ok (State.advance { s with st := st.closeWindow 9 } 4)

/-- R28, R173: REPS and TREC4 limits. -/
def repsReserved (v : Word) : Bool := decide (64 < bf v 0 7) || decide (63 < bf v 7 7)

/-- R173: LPS and TREC5 limits against the levels held. -/
def lpsReserved (l : List LoopLevel) (v : Word) : Bool :=
  decide (l.length < bf v 0 3) || (bf v 0 3 != 0 && bf v 16 16 == 0)

/-- R29: GUARDS as written: generation and state of g1-g7. -/
def guardsOf (v : Word) : List Guard :=
  (List.range 8).map fun k =>
    if k == 0 then ⟨.yes, 0, [], true⟩
    else
      let b := bf v (8 * k) 8
      ⟨if b % 4 == 0 then .unresolved else if b % 4 == 1 then .yes else .no, b / 4 % 8, [], true⟩

/-- R29, R147: reserved format codes of an FTn value. -/
def ftReserved (v : Word) : Bool :=
  !fmtIn (BitVec.ofNat 4 (bf v 9 4)) || !fmtIn (BitVec.ofNat 4 (bf v 5 4)) || !fmtOut (BitVec.ofNat 4 (bf v 1 4))

/-- R83: the address in the 1 KiB bank that a reload fails on, and its fault; else the physical address. -/
def State.bankCheck (s : State) (v : Word) : Except (Nat × Word) Nat :=
  let addr := word (15 * 2 ^ 60 + bf v 10 45 * 2 ^ 10)
  match s.check s.st s.st.anchor addr 1024 .load with
  | .fault c _ => .error (c, addr)
  | .absent _ => .error (0x05, addr)
  | .ok pa _ _ _ =>
    if paIsControl pa then .error (0x05, addr)
    else match s.firstPoison s.st.coreIdx pa 1024 with
    | some a => .error (0x0C, word (addr.toNat + (a - pa)))
    | none => .ok pa

/-- R26: the 256 words of a bank at a physical address. -/
def State.bankWords (s : State) (core pa : Nat) : SMap W32 :=
  (List.range 256).foldl (fun m i => SMap.set 0 m i (BitVec.ofNat 32 (bytesNat (s.coreBytes core (pa + 4 * i) 4)))) []

/-- R83: the page kind of the bank a CBASE value names. -/
def State.bankKind (s : State) (v : Word) : Nat :=
  match s.lookup s.st.cluster s.st.part (bf v 10 45 * 2 ^ 10) false with
  | .leaf l _ => leafKind l
  | .absent _ => 2

/-- R83: a reload reads its bank as a scalar load does: what it waits for. -/
def State.bankWait (s : State) (v : Word) (pa : Nat) : Option Stall :=
  if s.outMixed s.st.coreIdx pa 1024 then some .fence else s.accessWait s.st pa 1024 (s.bankKind v)

/-- R26, R83: CBASE and the bank it names. -/
def State.cbaseWord (s : State) (v : Word) : WRes :=
  if bf v 0 10 != 0 || bf v 55 9 != 0 then flt 0x02 0
  else
    match s.bankCheck v with
    | .error (c, a) => flt c a
    | .ok pa =>
      match s.bankWait v pa with
      | some w => .wait w
      | none =>
        let t := State.noteRead (s.foreignWrite pa 1024) s.st.coreIdx s.st.sid pa 1024
        match t.firstPoison s.st.coreIdx pa 1024 with
        | some a => flt 0x0C (word (15 * 2 ^ 60 + bf v 10 45 * 2 ^ 10 + (a - pa)))
        | none => t.swrDone { t.st.setSys 0x00D v with bank := t.bankWords t.st.coreIdx pa }

/-- The write of a REPS value: the word after SWR runs under it (R173). -/
def State.repsWord (s : State) (v : Word) : WRes :=
  if repsReserved v then flt 0x01 0
  else if bf v 20 44 != 0 then flt 0x02 0
  else .ok { s with st := { (s.st.closeWindow 9).advance 4 with rep := RepState.ofWord v } }

/-- A checked write of index i: reserved values, then zero fields, then the register. -/
def State.swrValue (s : State) (i : Nat) (v : Word) : WRes :=
  let st := s.st
  match i with
  | 0x001 =>
    if bf v 13 51 != 0 || bf v 3 5 != 0 then flt 0x02 0
    else s.swrDone (st.setSys 0x001 ((st.status &&& 3) ||| (v &&& 0x1F04)))
  | 0x004 =>
    if decide (6 ≤ bf v 0 3) then flt 0x01 0
    else if bf v 56 8 != 0 || bf v 3 5 != 0 then flt 0x02 0
    else s.swrDone (st.setSys 0x004 v)
  | 0x006 => if !st.queuesEmpty then .wait .drain else s.repsWord v
  | 0x007 =>
    if !st.queuesEmpty then .wait .drain
    else if lpsReserved st.loops v then flt 0x01 0
    else if bf v 3 13 != 0 then flt 0x02 0
    else s.swrDone { st with loops := lpsWrite st.loops v }
  | 0x008 =>
    if !st.queuesEmpty then .wait .drain
    else if bf v 24 40 != 0 then flt 0x02 0
    else s.swrDone { st with tok := Tokens.ofWord v }
  | 0x009 =>
    if !st.queuesEmpty then .wait .drain
    else if (List.range 8).any (fun k => k != 0 && bf v (8 * k) 2 == 3) then flt 0x01 0
    else s.swrDone { st with guards := guardsOf v }
  | 0x00C =>
    if bf v 60 4 != 0 then flt 0x02 0 else s.swrDone { st with spLen := bf v 15 15, spBase := bf v 0 15 }
  | 0x00D => s.cbaseWord v
  | 0x040 =>
    if bf v 34 2 == 3 then flt 0x01 0
    else if bf v 36 14 != 0 || bf v 30 2 != 0 || bf v 8 12 != 0 then flt 0x02 0
    else s.swrDone (st.setSys 0x040 (setBf (st.sysv 0x040) 34 2 (bf v 34 2)))
  | 0x043 => if bf v 0 2 != 0 then flt 0x02 0 else s.swrDone (st.setSys 0x043 v)
  | 0x044 =>
    if repsReserved v then flt 0x01 0 else if bf v 20 44 != 0 then flt 0x02 0 else s.swrDone (st.setSys 0x044 v)
  | 0x045 =>
    if lpsReserved st.heldLoops v then flt 0x01 0
    else if bf v 3 13 != 0 then flt 0x02 0
    else
      let l := lpsWrite st.heldLoops v
      s.swrDone ({ st with heldLoops := l }.setSys 0x045 (lpsWord l))
  | 0x046 => s.swrDone (st.setSys 0x046 v)
  | 0x048 =>
    if bf v 60 4 != 15 then flt 0x01 0
    else if bf v 55 5 != 0 || bf v 0 2 != 0 then flt 0x02 0
    else s.swrDone (st.setSys 0x048 v)
  | 0x049 => s.swrDone (st.setSys 0x049 v)
  | 0x050 => s.fqstatWord v
  | 0x051 => s.fqheadWord v
  | 0x052 => flt 0x01 0
  | 0x053 => flt 0x01 0
  | _ =>
    if 0x020 ≤ i && i ≤ 0x02F then
      if !st.queuesEmpty then .wait .drain
      else if ftReserved v then flt 0x01 0
      else if bf v 13 51 != 0 then flt 0x02 0
      else s.swrDone (st.setSys i v)
    else s.swrDone st

/-- SWR (R27, R173). -/
def State.swrWord (s : State) (src : BitVec 5) (i : Nat) : WRes :=
  match sysAccess i with
  | none => flt 0x01 0
  | some a =>
    if (a == .p || a == .rop) && !s.st.priv then flt 0x03 0
    else if a == .ro then flt 0x01 0
    else s.swrValue i (s.st.rs src)

/-- SWR. -/
def execSwr (src : BitVec 5) (i : BitVec 10) (s : State) : Host.Outcome State Fault Refusal := finish s (s.swrWord src i.toNat)

/-- An event that a word of the executing strand is: nothing without one. -/
def State.asWord (s : State) (r : WRes) : Host.Outcome State Fault Refusal := if s.st.live then finish s r else .next s

/-- VLOG_CLAIM (R433): SRD of VLOG. -/
def execVlogClaim (d : BitVec 5) (s : State) : Host.Outcome State Fault Refusal := s.asWord (s.srdWord d 0x052)

/-- MB_READ (R29): SRD of MB. -/
def execMbRead (d : BitVec 5) (s : State) : Host.Outcome State Fault Refusal := s.asWord (s.srdWord d 0x005)

/-- ENGINE_STATE_WRITE (R29): SWR of TOKC, GUARDS, REPS, LPS or an FTn. -/
def execEngineStateWrite (i : BitVec 10) (src : BitVec 5) (s : State) : Host.Outcome State Fault Refusal :=
  if (0x006 ≤ i.toNat && i.toNat ≤ 0x009) || (0x020 ≤ i.toNat && i.toNat ≤ 0x02F) then s.asWord (s.swrWord src i.toNat) else .next s

/-- CBASE_WRITE (R83): SWR of CBASE. -/
def execCbaseWrite (src : BitVec 5) (s : State) : Host.Outcome State Fault Refusal := s.asWord (s.swrWord src 0x00D)

/-- FQHEAD_CLAIM (R303): SRD of FQHEAD. -/
def execFqheadClaim (d : BitVec 5) (s : State) : Host.Outcome State Fault Refusal := s.asWord (s.srdWord d 0x051)

/-- SWR of FQHEAD with a given RESULT (R306): a value that holds another is none of this event. -/
def State.fqResult (s : State) (src : BitVec 5) (r : Nat) : Host.Outcome State Fault Refusal :=
  if bf (s.st.rs src) 43 2 == r then s.asWord (s.swrWord src 0x051) else .next s

/-- FQ_COMPLETE_RESUME (R306): RESULT 0. -/
def execFqCompleteResume (src : BitVec 5) (s : State) : Host.Outcome State Fault Refusal := s.fqResult src 0

/-- FQ_COMPLETE_FAULT (R306): RESULT 1. -/
def execFqCompleteFault (src : BitVec 5) (s : State) : Host.Outcome State Fault Refusal := s.fqResult src 1

/-- FQ_COMPLETE_KILL (R306): RESULT 2. -/
def execFqCompleteKill (src : BitVec 5) (s : State) : Host.Outcome State Fault Refusal := s.fqResult src 2

/-- FQSTAT_WRITE (R303): SWR of FQSTAT. -/
def execFqstatWrite (src : BitVec 5) (s : State) : Host.Outcome State Fault Refusal := s.asWord (s.swrWord src 0x050)

/-- REGISTER_WRITE (R27): SWR of any index. -/
def execRegisterWrite (i : BitVec 10) (src : BitVec 5) (s : State) : Host.Outcome State Fault Refusal := s.asWord (s.swrWord src i.toNat)

/-! ### FENCE (R289) -/

/-- Scopes at which a write must have reached its home: cluster and wider (R282). -/
def scopeHome (scope : Nat) : Bool := decide (3 ≤ scope)

/-- R289: what `fence.full` at a scope waits for. -/
def State.fullBlocked (s : State) (st : Strand) (scope : Nat) : Bool :=
  (scopeHome scope && s.releaseBlocked st [0, 1, 2]) || !st.loads.isEmpty

/-- R289: the strand's outstanding S and R loads hold its later S and R accesses. -/
def Strand.acquireLoads (st : Strand) : Strand :=
  { st with loads := st.loads.map fun l => if l.kind != 2 then { l with acq := true } else l }

/-- FENCE (R289): `full` waits; `acq` holds the later S and R accesses until the loads so far have returned; `rel` holds the next
scalar store or AMO, which becomes the release, and no later load (R295, L2). -/
def State.fenceWord (s : State) (k scope : Nat) : WRes :=
  match k with
  | 0 => if s.fullBlocked s.st scope then .wait .fence else .ok (s.advance 4)
  | 1 => .ok (State.advance { s with st := s.st.acquireLoads } 4)
  | _ => .ok (State.advance { s with st := { s.st with relPend := some (max scope (s.st.relPend.getD 0)) } } 4)

/-- FENCE (R289). -/
def execFence (k : BitVec 2) (c : BitVec 3) (s : State) : Host.Outcome State Fault Refusal := finish s (s.fenceWord k.toNat c.toNat)

/-! ### NOP and WFE (R174) -/

/-- NOP. -/
def execNop (s : State) : Host.Outcome State Fault Refusal := .next (s.advance 4)

/-- What ends a WFE that began at a core cycle: a change of a token counter or of the core's sync bits, a guard resolution, a pending
trap, a pre-emption, or 4,096 cy. -/
def Strand.wfeEnds (st : Strand) (since : Nat) : Bool := st.wake || !st.pend.isEmpty || st.saveReq || decide (since + 4096 ≤ st.cyc)

/-- WFE: it begins to wait, and the word is complete once the wait ends. -/
def State.wfeWord (s : State) : WRes :=
  match s.st.stall with
  | some (.wfe since) => if s.st.wfeEnds since then .ok (s.advance 4) else .wait (.wfe since)
  | _ => .ok { s with st := { s.st.waits (.wfe s.st.cyc) with wake := false } }

/-- WFE (R174). -/
def execWfe (s : State) : Host.Outcome State Fault Refusal := finish s s.wfeWord

/-- WFE_TIMEOUT (R174): 4,096 cy have passed. -/
def execWfeTimeout (s : State) : Host.Outcome State Fault Refusal :=
  match s.st.stall with
  | some (.wfe since) => .next (if s.st.live && decide (since + 4096 ≤ s.st.cyc) then s.advance 4 else s)
  | _ => .next s

/-! ### REFD (R347) -/

/-- REFD by its value. -/
def State.refdWord (s : State) (v : Word) : WRes :=
  if !s.st.priv then flt 0x03 0
  else if bf v 32 2 == 3 then flt 0x01 0
  else if bf v 34 30 != 0 || bf v 16 16 != 0 then flt 0x02 0
  else .ok (State.advance (State.refd { s with st := s.st.closeWindow 9 } (bf v 32 2) (bf v 0 16)) 4)

/-- REFD (R347): ACTION stands in the register. -/
def execRefdDefer (src : BitVec 5) (s : State) : Host.Outcome State Fault Refusal := finish s (s.refdWord (s.st.rs src))

/-- REFD under ACTION 1: the word is the same. -/
def execRefdRelease (src : BitVec 5) (s : State) : Host.Outcome State Fault Refusal := finish s (s.refdWord (s.st.rs src))

/-- REFD under ACTION 2: the word is the same. -/
def execRefdRefreshNow (src : BitVec 5) (s : State) : Host.Outcome State Fault Refusal := finish s (s.refdWord (s.st.rs src))

/-! ### INVAL (R291, R292) -/

/-- A marker command. -/
def markerCmd (part page seq : Nat) : Cmd :=
  ⟨.c (.marker part page) none, 0, 0, none, 0, false, seq, ⟨0, 0, 0, 0⟩, 0, 0, 64, false, false, false, false, false⟩

/-- R292: a queue that defers the marker: stopped by a fault, held on a page, or being saved. -/
def Strand.defersMarker (st : Strand) : Bool := st.cq.stopped || st.cheld.isSome || st.saving

/-- A marker behind everything in the C queue of a strand of the die; one of another partition passes it with no effect. -/
def Strand.putMarker (die part page : Nat) (st : Strand) : Strand :=
  if st.die == die && !st.defersMarker && !st.cq.isEmpty then
    { st with cq := { st.cq with items := st.cq.items ++ [.cmd (markerCmd part page st.seq)] } }
  else st

/-- Whether a marker for the page still stands in a C queue of the die. -/
def Strand.hasMarker (die part page : Nat) (st : Strand) : Bool :=
  st.die == die && st.cq.cmds.any fun c => c.pay == .c (.marker part page) none

/-- The translator entries of a die for a page, changed. -/
def State.tlbMap (s : State) (die : Nat) (f : List TlbEntry → List TlbEntry) : State :=
  { s with tlb := (s.tlb.map fun e => if e.1 / 32 == die then (e.1, f e.2) else e).filter fun e => !e.2.isEmpty }

/-- R291: the retiring entries of a die's translators for a page, as first physical address and length. -/
def State.retiringRanges (s : State) (die part page : Nat) : List (Nat × Nat) :=
  (((s.tlb.filter fun e => e.1 / 32 == die).map Prod.snd).flatten.filter fun t => t.retiring && t.hit part (page * 2 ^ 16)).map fun t =>
    (leafFrame t.leaf, if t.large then 2 ^ 29 else 2 ^ 16)

/-- An address lies in one of these ranges. -/
def inRanges (l : List (Nat × Nat)) (pa : Nat) : Bool := l.any fun r => decide (r.1 ≤ pa) && decide (pa < r.1 + r.2)

/-- R291: a scalar or V far access of the die through a retiring entry is not yet performed: a load or an atomic without its answer,
a write in a core's buffer or without its answer. -/
def State.pageOutstanding (s : State) (die part page : Nat) : Bool :=
  let at' := inRanges (s.retiringRanges die part page)
  (s.strands.any fun t => t.die == die && ((t.loads.any fun l => at' l.pa) || (t.vLanes.any fun l => at' l.pa) ||
    (s.net.any fun q => at' q.pa && q.parts.any fun p => p.sid == t.sid) ||
    (s.replies.any fun r => at' r.req.pa && r.req.parts.any fun p => p.sid == t.sid))) ||
  (s.outbound.any fun e => e.1 / 256 == die && e.2.any fun w => at' w.line) || s.farWrites.any fun w => at' w.line

/-- R291: the word acts, which closes the window (R243): the page leaves the translators, the markers go into the C queues, and the strand
waits. -/
def State.invalBegin (s : State) (page : Nat) : State :=
  let die := s.st.die
  let part := s.st.part
  let s := s.tlbMap die fun l => l.map fun t => if t.hit part (page * 2 ^ 16) then { t with retiring := true } else t
  let s := s.modAll (Strand.putMarker die part page)
  { s with st := { s.st.closeWindow 9 with stall := some .inval } }

/-- R224: the frames of a page's translations that an INVAL ends and that do not lie under G any more: their first byte and their size. DEDUCED:
a page's leaf takes effect, and so loses G, with its INVAL (log 120). -/
def State.shedFrames (s : State) (page : Nat) : List (Nat × Nat) :=
  let va := page * 2 ^ 16
  let size (large : Bool) : Nat := if large then 2 ^ 29 else 2 ^ 16
  let old := ((s.tlb.filter fun e => e.1 / 32 == s.st.die).map fun e => (e.2.filter fun t => t.retiring && t.hit s.st.part va).map fun t =>
    (leafFrame t.leaf, size t.large)).flatten
  match s.walk s.st.part va with
  | .leaf l large => if wbit l 9 then old.filter fun e => e.1 != leafFrame l else (leafFrame l, size large) :: old
  | .absent _ => old

/-- R224: the blocks of a page that has lost G hold no rind, and so none when a leaf gains G over them. -/
def State.shedRinds (s : State) (page : Nat) : State :=
  let fs := s.shedFrames page
  { s with rinds := s.rinds.filter fun e => fs.all fun r => decide (256 * e.1 < r.1) || decide (r.1 + r.2 ≤ 256 * e.1) }

/-- R291: the retiring entries go and the word is complete. -/
def State.invalEnd (s : State) (page : Nat) : State :=
  let part := s.st.part
  let s := (s.shedRinds page).tlbMap s.st.die fun l => l.filter fun t => !(t.retiring && t.hit part (page * 2 ^ 16))
  State.advance { s with st := s.st.closeWindow 9 } 4

/-- INVAL. -/
def State.invalWord (s : State) (v : Word) : WRes :=
  let page := bf v 16 39
  if !s.st.priv then flt 0x03 0
  else if bf v 60 4 != 15 || bf v 55 5 != 0 then flt 0x05 v
  else if s.st.stall == some .inval then
    if s.strands.any (Strand.hasMarker s.st.die s.st.part page) || s.pageOutstanding s.st.die s.st.part page then .wait .inval
    else .ok (s.invalEnd page)
  else if s.fullBlocked s.st 6 then .wait .fence
  else
    let t := s.invalBegin page
    if t.strands.any (Strand.hasMarker t.st.die t.st.part page) || t.pageOutstanding t.st.die t.st.part page then .ok t
    else .ok (t.invalEnd page)

/-- INVAL (R291). -/
def execInval (src : BitVec 5) (s : State) : Host.Outcome State Fault Refusal := finish s (s.invalWord (s.st.rs src))

end Sys2Proof.Machine
end

