-- ==== Sys2Proof/Machine/FieldCtl.lean ====
section
/-! DEFINITION. Field control (R187-R193): FORK, JOIN, the sync bits of a task's share, FID. -/

namespace Sys2Proof.Machine

/-- The lead field of a gang's placement. -/
def Strand.leadField (st : Strand) : Nat := if st.gang == 0 then st.field else if st.gang == 1 then st.field / 2 * 2 else 0

/-- The sync bits of the strand's core. -/
def State.syncBits (s : State) (st : Strand) : BitVec 8 := SMap.get 0 s.sync st.coreIdx

/-- R187, R189: the queues are empty and everything they started has landed. -/
def Strand.drained (st : Strand) : Bool := st.queuesEmpty

/-- R187: the target of gang field i from the word at pc. -/
def forkTarget (pc a : Word) (i : Nat) : Word := pc + 4 * ((a.extractLsb' (16 * i) 16).signExtend 64)

/-- R233: a stream as it is saved: it goes on at the next group to pop, and what was decoded beyond is decoded again. -/
def Stream.saved (x : Stream) : Stream := { x with next := x.next - x.fifo.length, fifo := [] }

/-- R188: the stream bindings where the grid changes: the groups decoded for the old grid go, and the next group to pop is the next to
decode. -/
def Strand.restream (st : Strand) : Strand := { st with streams := st.streams.map fun e => (e.1, e.2.saved) }

/-- R188: the strand of gang field i at a FORK, from the lead's. -/
def Strand.forkCopy (st : Strand) (i sid : Nat) (pc : Word) : Strand :=
  { st with sid := sid, gidx := i, field := st.leadField + i, forked := true, pc := pc, sf := 0, jobs := [], pend := [], stall := none,
            win := none, closer := 0, rollback := none, reexec := none, replay := [], shadow := [], loads := [], spawning := [], relPend := none, park := none, cheld := none, arriving := none, pendBit := false }

/-- R187: FORK of a gang in lock step. -/
def State.forkGang (s : State) (a : Word) : WRes :=
  let st := s.st
  if !st.drained then .wait .drain
  else if st.awaiting then .wait .interlock
  else
    let n := gangFields st.gang
    match (List.range n).find? fun i => (s.fetchFault st.part (forkTarget st.pc a i)).isSome with
    | some i =>
      let t := forkTarget st.pc a i
      flt ((s.fetchFault st.part t).getD 0x05) t
    | none =>
      let st := (st.closeWindow 9).unitDone.restream
      let copies := (List.range n).tail.map fun i => st.forkCopy i (s.nextSid + i) (forkTarget st.pc a i)
      .ok { s with st := { st with forked := true, pc := forkTarget st.pc a 0, afterCall := none },
                   others := s.others ++ copies, nextSid := s.nextSid + n }

/-- FORK (R187): of a one-field task or a forked field it is a jump. -/
def State.forkWord (s : State) (a : Word) : WRes :=
  let st := s.st
  if st.gang == 0 || st.forked then
    let t := forkTarget st.pc a st.gidx
    match s.fetchFault st.part t with
    | some c => flt c t
    | none => State.jumpTo { s with st := st.closeWindow 9 } t
  else s.forkGang a

/-- FORK. -/
def execFork (a : BitVec 5) (s : State) : Host.Outcome State Fault Refusal := finish s (s.forkWord (s.st.rs a))

/-- R189: every field of the task waits at JOIN. -/
def State.gangJoined (s : State) : Bool :=
  let all := s.taskStrands s.st
  decide (all.length == gangFields s.st.gang) && all.all (·.atJoin)

/-- R310: what a field that reaches JOIN has under way, as the lead's: its value is for no register. -/
def PendLoad.adopted (l : PendLoad) : PendLoad := { l with dest := 256, slot := none }

/-- R321: a SPAWN in flight from a field that has reached JOIN: its status is for no register. -/
def Spawning.adopted (q : Spawning) : Spawning := { q with dest := 256 }

/-- A buffered write under the strand number its writer and readers now have. -/
def LineWrite.adopt (e : LineWrite) (all : List Nat) (lead : Nat) : LineWrite :=
  { e with sid := if all.contains e.sid then lead else e.sid, readers := (e.readers.map fun r => if all.contains r then lead else r).dedup }

/-- A request under the strand number its askers now have. -/
def AtomReq.adopt (q : AtomReq) (all : List Nat) (lead : Nat) : AtomReq :=
  { q with parts := q.parts.map fun p => if all.contains p.sid && p.sid != lead then { p with sid := lead, dest := 256 } else p }

/-- R310: the accesses of the strands of a gang count as the lead's. -/
def State.adopt (s : State) (all : List Nat) (lead : Nat) : State :=
  { s with outbound := s.outbound.map fun e => (e.1, e.2.map fun w => w.adopt all lead),
           homeq := s.homeq.map fun e => (e.1, e.2.map fun w => w.adopt all lead),
           net := s.net.map fun q => q.adopt all lead,
           replies := s.replies.map fun r => { r with req := r.req.adopt all lead } }

/-- R189, R310: lock step again: the lead goes on from the word after its JOIN with the accesses of the other fields, whose strands
end. -/
def State.rejoin (s : State) : State :=
  let all := s.taskStrands s.st
  match all.find? (·.gidx == 0) with
  | none => s
  | some lead =>
    let loads := ((all.filter (·.sid != lead.sid)).map fun t => t.loads.map PendLoad.adopted).flatten
    let spawns := ((all.filter (·.sid != lead.sid)).map fun t => t.spawning.map Spawning.adopted).flatten
    let s := (all.foldl (fun s t => s.drop t.sid) s).adopt (all.map (·.sid)) lead.sid
    State.advance { s with st := { lead.restream with forked := false, atJoin := false, loads := lead.loads ++ loads, spawning := lead.spawning ++ spawns } } 4

/-- JOIN (R189). -/
def State.joinWord (s : State) : WRes :=
  if !s.st.forked then .ok (State.advance { s with st := s.st.closeWindow 9 } 4)
  else if !s.st.drained then .wait .join
  else
    let t := { s with st := { s.st.closeWindow 9 with atJoin := true, stall := some .join } }
    if t.gangJoined then .ok t.rejoin else .ok t

/-- JOIN. -/
def execJoin (s : State) : Host.Outcome State Fault Refusal := finish s s.joinWord

/-- R191: the first sync bit of a task's share and the share's size. -/
def Strand.syncShare (st : Strand) : Nat × Nat := (2 * st.leadField, 2 * gangFields st.gang)

/-- The key of sync bit n of the strand's share. -/
def Strand.syncKey (st : Strand) (n : Nat) : Nat := st.coreIdx * 8 + (st.syncShare).1 + n

/-- R193: the field that has updated bit n of the strand's share in the cycle that is now (one time is one cycle, log 4). -/
def State.syncedNow (s : State) (n : Nat) : Option Nat :=
  let u := SMap.get (0, 0) s.syncUpd (s.st.syncKey n)
  if u.1 == s.time + 1 then some u.2 else none

/-- An update of a sync bit of the strand's core. -/
def State.putSync1 (s : State) (n : Nat) (v : Bool) : State :=
  let b := s.syncBits s.st
  let m : BitVec 8 := BitVec.ofNat 8 (2 ^ ((s.st.syncShare).1 + n))
  State.setSync { s with syncUpd := SMap.set (0, 0) s.syncUpd (s.st.syncKey n) (s.time + 1, s.st.field) } s.st.coreIdx
    (if v then b ||| m else b &&& ~~~m)

/-- Sets or clears a sync bit of the strand's core (R192); of the updates of one cycle that of the highest core field stands (R193). -/
def State.putSync (s : State) (n : Nat) (v : Bool) : State :=
  match s.syncedNow n with
  | some f => if s.st.field < f then s else s.putSync1 n v
  | none => s.putSync1 n v

/-- R191: whether n names a bit of the share. -/
def Strand.syncOk (st : Strand) (n : Nat) : Bool := decide (n < (st.syncShare).2)

/-- SYNCS (R192): every earlier scalar access is performed at core scope before the bit is set. -/
def State.syncsWord (s : State) (n : Nat) : WRes :=
  if !s.st.syncOk n then flt 0x15 0
  else if s.st.loads.any (·.amo) then .wait .fence
  else .ok (State.advance (State.putSync { s with st := s.st.closeWindow 9 } n true) 4)

/-- SYNCS. -/
def execSyncs (n : BitVec 3) (s : State) : Host.Outcome State Fault Refusal := finish s (s.syncsWord n.toNat)

/-- SYNCC (R192). -/
def State.synccWord (s : State) (n : Nat) : WRes :=
  if !s.st.syncOk n then flt 0x15 0 else .ok (State.advance (State.putSync { s with st := s.st.closeWindow 9 } n false) 4)

/-- SYNCC. -/
def execSyncc (n : BitVec 3) (s : State) : Host.Outcome State Fault Refusal := finish s (s.synccWord n.toNat)

/-- SYNCW (R192): it waits for the bit, which stays set; it tests the bit behind the updates of its cycle, and so not in a cycle that has
updated it (R193). -/
def State.syncwWord (s : State) (n : Nat) : WRes :=
  if !s.st.syncOk n then flt 0x15 0
  else if (s.syncBits s.st).getLsbD ((s.st.syncShare).1 + n) && (s.syncedNow n).isNone then .ok (s.advance 4)
  else .wait .syncw

/-- SYNCW. -/
def execSyncw (n : BitVec 3) (s : State) : Host.Outcome State Fault Refusal := finish s (s.syncwWord n.toNat)

/-- FID (R190). -/
def execFid (d : BitVec 5) (s : State) : Host.Outcome State Fault Refusal := .next (s.writeRd d (word (s.st.field * 4 + s.st.gidx)) 4)

end Sys2Proof.Machine
end

