-- ==== Sys2Proof/Machine/Scheduler.lean ====
section
/-! DEFINITION. The task scheduler of a die (R326-R335): ready queues, placement, pre-emption, dispatch; and the press
(R336-R338). -/

namespace Sys2Proof.Machine

/-! ### Fields and placements (R185, R329) -/

/-- The fields of a placement by gang code and lead field. -/
def placementFields (gang lead : Nat) : List Nat := (List.range (gangFields gang)).map (lead + ·)

/-- The fields a strand holds. -/
def Strand.fieldsHeld (st : Strand) : List Nat :=
  if st.forked || st.gang == 0 then [st.field] else placementFields st.gang st.leadField

/-- GANG of a record. -/
def State.recGang (s : State) (r : RecEntry) : Nat := bf (s.recWord r.pa 4) 26 2

/-- DEADLINE of a record. -/
def State.recDeadline (s : State) (r : RecEntry) : Nat := (s.recWord r.pa 2).toNat

/-- A field that a task runs on, or that a dispatch has taken. -/
def State.fieldBusy (s : State) (die core f : Nat) : Bool :=
  (s.strands.any fun t => t.die == die && t.core == core && t.fieldsHeld.contains f) ||
    s.recs.any fun r => r.die == die && (match r.staging with
      | some (c, lead) => c == core && (placementFields (s.recGang r) lead).contains f
      | none => false)

/-- The regions a record declares (R318): resident words, then volatile ones. -/
def State.recRegions (s : State) (r : RecEntry) (words : List Nat) : List (Nat × Nat) :=
  (words.map fun i => (regionOf (s.recFixed r i)).toList).flatten

/-- The spill region of a record. -/
def State.recSpill (s : State) (r : RecEntry) : Nat × Nat := (bf (s.recFixed r 7) 0 15, bf (s.recFixed r 7) 15 15)

/-- The fields of a held region, as core and lead. -/
def Region.place (r : Region) : Nat × Nat := (r.core, if r.gang == 0 then r.field else if r.gang == 1 then r.field / 2 * 2 else 0)

/-- A held region a record names by TAG. -/
def State.heldByTag (s : State) (r : RecEntry) (tag : Nat) : Option Region :=
  if tag == 0 then none else s.regions.find? fun g => g.part == r.part && g.tag == tag && g.die == r.die

/-- The held regions the resident words of a record name, with the words. -/
def State.named (s : State) (r : RecEntry) : List (Region × Word) :=
  ([8, 9].map fun i =>
    let w := s.recFixed r i
    if wbit w 30 then (match s.heldByTag r (bf w 48 16) with | some g => [(g, w)] | none => []) else []).flatten

/-- R334: a held TAG under another base, length or gang size. -/
def State.tagMismatch (s : State) (r : RecEntry) : Bool :=
  (s.named r).any fun e => e.1.base != bf e.2 0 15 || e.1.len != bf e.2 15 15 || e.1.gang != s.recGang r

/-- R334: a region named by TAG has a live owner. -/
def State.tagBusy (s : State) (r : RecEntry) : Bool := (s.named r).any fun e => e.1.owner.isSome && e.1.owner != some r.va.toNat

/-- The fields a task is tied to (R329): those of a saved task's resident regions, those that hold the regions a task adopts. -/
def State.tied (s : State) (r : RecEntry) : List (Nat × Nat) :=
  if r.state == 5 then (s.regions.filter fun g => g.part == r.part && g.owner == some r.va.toNat).map Region.place
  else (s.named r).map fun e => e.1.place

/-- R329: a field of the placement holds a region of another that overlaps one of the task's own. -/
def State.clash (s : State) (r : RecEntry) (core lead : Nat) : Bool :=
  let fs := placementFields (s.recGang r) lead
  let own := (s.recRegions r [8, 9, 10, 11]) ++ [s.recSpill r]
  let names := (s.named r).map (·.1)
  s.regions.any fun g =>
    g.die == r.die && g.core == core && (placementFields g.gang (g.place).2).any fs.contains &&
    !(g.part == r.part && g.owner == some r.va.toNat) && !names.contains g &&
    own.any fun o => decide (g.base ≤ o.1 + o.2) && decide (o.1 ≤ g.base + g.len)

/-- The lead fields a gang may have (R185). -/
def leadsOf (gang : Nat) : List Nat := if gang == 0 then [0, 1, 2, 3] else if gang == 1 then [0, 2] else [0]

/-- Cores on which a record may be placed (R328, R330): healthy or derated, no remap pending; a restore to the fields of a
resident region may take a drained core. -/
def State.coresFor (s : State) (r : RecEntry) : List Nat :=
  (s.coresOf r.die r.part).filter fun c =>
    let k := s.coreAt (coreIndex r.die c)
    !k.mpend && (decide (k.stage < 2) || (k.stage == 2 && r.state == 5 && !(s.tied r).isEmpty))

/-- Placements of a record, free or not, in the order of core and lead field. -/
def State.placements (s : State) (r : RecEntry) : List (Nat × Nat) :=
  if s.tagBusy r then []
  else
    ((s.coresFor r).map fun c => (leadsOf (s.recGang r)).map fun l => (c, l)).flatten.filter fun p =>
      (s.tagMismatch r || (s.tied r).all (· == p)) && !s.clash r p.1 p.2

/-- The first placement of least wear. -/
def State.leastWear (s : State) (die : Nat) (ps : List (Nat × Nat)) : Option (Nat × Nat) :=
  ps.foldl (fun m p => match m with
    | none => some p
    | some q => if (s.coreAt (coreIndex die p.1)).wear < (s.coreAt (coreIndex die q.1)).wear then some p else some q) none

/-- R329: the placement of a record on free fields, away from reserved cores. -/
def State.placeFree (s : State) (r : RecEntry) (reserved : List Nat) : Option (Nat × Nat) :=
  s.leastWear r.die ((s.placements r).filter fun p =>
    !reserved.contains p.1 && (placementFields (s.recGang r) p.2).all fun f => !s.fieldBusy r.die p.1 f)

/-- The running strand that leads the task on a field. -/
def State.occupant (s : State) (die core f : Nat) : Option Strand :=
  (s.strands.find? fun t => t.die == die && t.core == core && t.fieldsHeld.contains f).bind fun t =>
    (s.taskStrands t).find? (·.gidx == 0)

/-- The deadline of a running task. -/
def State.taskDeadline (s : State) (t : Strand) : Nat :=
  match s.recs.find? (fun r => r.part == t.part && r.va == t.recAddr) with
  | some r => s.recDeadline r
  | none => t.deadline

/-- R331: the occupants of a placement, if all may be pre-empted for a deadline. -/
def State.victims (s : State) (r : RecEntry) (p : Nat × Nat) : Option (List Strand) :=
  let occ := (placementFields (s.recGang r) p.2).map fun f => s.occupant r.die p.1 f
  if occ.all fun o => match o with
    | some t => t.part == r.part && t.ctxa != 0 && decide (s.recDeadline r < s.taskDeadline t)
    | none => false
  then some (occ.filterMap id).dedup else none

/-- R331: the placement whose earliest occupant deadline is latest, ties by R329. -/
def State.bestVictims (s : State) (r : RecEntry) : Option (List Strand) :=
  let cands := (s.placements r).filterMap fun p => (s.victims r p).map fun v => (p, v)
  let score (v : List Strand) : Nat := v.foldl (fun m t => min m (s.taskDeadline t)) (2 ^ 64)
  (cands.foldl (fun m c => match m with
    | none => some c
    | some d =>
      if score d.2 < score c.2 || (score d.2 == score c.2 &&
          decide ((s.coreAt (coreIndex r.die c.1.1)).wear < (s.coreAt (coreIndex r.die d.1.1)).wear)) then some c else some d)
    (none : Option ((Nat × Nat) × List Strand))).map (·.2)

/-- The press is sent to every strand of a task (R331, R336), unless its save has begun. -/
def State.sendPress (s : State) (t : Strand) : State :=
  s.modAll fun u => if u.part == t.part && u.recAddr == t.recAddr && !u.saving then { u with saveReq := true } else u

/-- R331: the press is at work on a placement of a record: every field of it that is not free leaves by the press, and there is one. -/
def State.pressed (s : State) (r : RecEntry) : Bool :=
  (s.placements r).any fun p =>
    let occ := ((placementFields (s.recGang r) p.2).filter fun f => s.fieldBusy r.die p.1 f).map fun f => s.occupant r.die p.1 f
    !occ.isEmpty && occ.all fun o => match o with
      | some t => t.part == r.part && (t.saveReq || t.saving)
      | none => false

/-- R328: the core to reserve: the most free fields among the cores that could hold the record, ties by wear and index. -/
def State.reserveCore (s : State) (r : RecEntry) : Option Nat :=
  let free (c : Nat) : Nat := ((List.range 4).filter fun f => !s.fieldBusy r.die c f).length
  ((s.placements r).map (·.1)).dedup.foldl (fun m c => match m with
    | none => some c
    | some d =>
      if free d < free c || (free d == free c &&
          decide ((s.coreAt (coreIndex r.die c)).wear < (s.coreAt (coreIndex r.die d)).wear)) then some c else some d) none

/-- Records a pass considers (R328, R338): ready and saved, not being dispatched, not refused. -/
def State.readySet (s : State) (die part : Nat) : List RecEntry :=
  s.recs.filter fun r => r.die == die && r.part == part && r.staging.isNone &&
    (r.state == 2 || (r.state == 5 && bf (s.recWord r.pa 4) 8 8 != 0x13))

/-- R328: earliest deadline, then earliest entry into the queue, then lower record address. -/
def State.earlier (s : State) (a b : RecEntry) : Bool :=
  let x := s.recDeadline a
  let y := s.recDeadline b
  decide (x < y) || (x == y && (decide (a.order < b.order) || (a.order == b.order && a.va.ult b.va)))

/-- The first record in R328's order. -/
def State.firstOf (s : State) (e : List RecEntry) : Option RecEntry :=
  e.foldl (fun m r => match m with
    | none => some r
    | some q => if s.earlier r q then some r else some q) none

/-- R328: one pass over the ready queue; `fuel` counts the records left. A record whose placement the press is freeing waits for it, and
the pass stops there, as where it pre-empts. -/
def State.pass (s : State) (e : List RecEntry) (reserved : List Nat) : Nat → State
  | 0 => s
  | fuel + 1 =>
    match s.firstOf e with
    | none => s
    | some t =>
      let rest := e.filter fun r => r.pa != t.pa
      match s.placeFree t reserved with
      | some p => (s.modRec t.pa fun r => { r with staging := some p }).pass rest reserved fuel
      | none =>
        match (if s.pressed t then some [] else s.bestVictims t) with
        | some v => v.foldl (fun s u => s.sendPress u) s
        | none => s.pass rest (reserved ++ (s.reserveCore t).toList) fuel

/-- R384, R401: the die-to-die link has failed and the package waits for a warm reset, or one has not yet brought its links back. -/
def State.packageWaits (s : State) : Bool := decide (3 ≤ s.hub.d2dFails) || !s.hub.coming.isEmpty

/-- R327: the record waits with its deadline reached and the miss not yet counted. -/
def State.missDue (s : State) (r : RecEntry) : Bool :=
  !r.missed && (r.state == 2 || r.state == 3 || r.state == 5) && decide (s.recDeadline r ≤ s.now)

/-- R327: MISS is counted once, and a drop-late record never dispatched is retired. DEDUCED: one that the scheduler has taken for dispatch
is not dropped any more (log 106). -/
def State.missRecord (s : State) (r : RecEntry) : State :=
  if s.missDue r then
    let c := s.recWord r.pa 4
    let s := (s.modRec r.pa fun r => { r with missed := true }).setRecWord r.pa 4 (setBf c 0 8 (min 255 (bf c 0 8 + 1)))
    if bf c 24 2 == 1 && !r.hasRun && r.staging.isNone then
      s.retireRecord { Strand.forPart r.part r.die with recAddr := r.va } r 0x18 none true false
    else s
  else s

/-- R327: every miss of a partition's records on a die that is due, those a retirement among them makes ready too; `fuel` counts them. -/
def State.missAll (s : State) (die part : Nat) : Nat → State
  | 0 => s
  | fuel + 1 =>
    match s.recs.find? fun r => r.die == die && r.part == part && s.missDue r with
    | some r => (s.missRecord r).missAll die part fuel
    | none => s

/-- SCHEDULER_DECISION (R328), which retires the drop-late records whose deadline has come in the same decision (R327). -/
def execSchedulerDecision (die part : Nat) (s : State) : Host.Outcome State Fault Refusal :=
  let t := s.missAll die part s.recs.length
  .next (if s.packageWaits then s else t.pass (t.readySet die part) [] (t.readySet die part).length)

/-- START_REACHED (R326): a held record whose START has come is ready. -/
def execStartReached (n : Nat) (s : State) : Host.Outcome State Fault Refusal :=
  match s.recs[n]? with
  | some r =>
    .next (if r.state == 3 && decide ((s.recWord r.pa 3).toNat ≤ s.now) then
      (s.modRec r.pa fun r => { r with state := 2 }).setRecState r.pa 2 else s)
  | none => .next s

/-- DEADLINE_MISS (R327): the miss of the nth record. -/
def execDeadlineMiss (n : Nat) (s : State) : Host.Outcome State Fault Refusal :=
  match s.recs[n]? with
  | some r => .next (s.missRecord r)
  | none => .next s

/-! ### Dispatch (R332) -/

/-- The leaf and the physical address of a page of a partition. -/
def State.pageLeaf (s : State) (part va : Nat) : Option (Word × Nat) :=
  match s.walk part va with
  | .leaf l large => some (l, leafPA l large va)
  | .absent _ => none

/-- R332 step 1: the checks of page i of an extent against its first page. -/
def pagePins (kind : Nat) (wr : Bool) (first : Word × Nat) (i : Nat) (p : Word × Nat) : Bool :=
  !wbit p.1 2 && leafKind p.1 == kind && (!wr || wbit p.1 1) && leafHome p.1 == leafHome first.1 &&
    wbit p.1 9 == wbit first.1 9 && p.2 == first.2 + i * 2 ^ 16

/-- Walks n pages from page i of an extent at va; the leaves, or the address of the failing page. -/
def State.pinPages (s : State) (part kind : Nat) (wr : Bool) (va : Nat) (first : Word × Nat) (i : Nat) : Nat → Except Nat (List Word)
  | 0 => .ok []
  | n + 1 =>
    let a := va + i * 2 ^ 16
    match s.pageLeaf part a with
    | none => .error a
    | some p =>
      if decide (a < 2 ^ 55) && pagePins kind wr first i p then
        (match s.pinPages part kind wr va first (i + 1) n with
         | .ok l => .ok (p.1 :: l)
         | .error e => .error e)
      else .error a

/-- R317, R332: extent n from the extent block, or the address that fails. -/
def State.readExtent (s : State) (part block n : Nat) : Except Nat Extent :=
  match s.pageLeaf part (block + 16 * n) with
  | none => .error (block + 16 * n)
  | some (_, pa) =>
   if (List.range 16).any fun i => s.homePoison (pa + i) then .error (block + 16 * n) else
    let e0 := s.homeWord pa
    let e1 := s.homeWord (pa + 8)
    let va := bf e0 16 39 * 2 ^ 16
    let len := bf e1 0 32
    if bf e0 55 9 != 0 || bf e0 0 16 != 0 || bf e1 36 28 != 0 || bf e1 32 2 == 3 || len == 0 then .error (block + 16 * n)
    else
      match s.pageLeaf part va with
      | none => .error va
      | some first =>
        match s.pinPages part (bf e1 32 2) (wbit e1 35) va first 0 len with
        | .error a => .error a
        | .ok l => .ok ⟨len, wbit e1 34, wbit e1 35, bf e1 32 2, leafHome first.1, wbit first.1 9, first.2, l, va⟩

/-- R332 step 1 over the declared extents. -/
def State.readExtents (s : State) (part block : Nat) (n : Nat) : Except Nat (SMap Extent) :=
  (List.range n).foldl (fun r i => match r with
    | .error a => .error a
    | .ok m => (match s.readExtent part block i with
      | .ok e => .ok (SMap.set Extent.none m i e)
      | .error a => .error a)) (.ok [])

/-- R332 step 2: RCODE 0x05 and the successors with PFLT. -/
def State.dispatchFail (s : State) (r : RecEntry) (at' : Nat) : State :=
  let task := bf (s.recFixed r 14) 0 32
  let s := s.logViol r.part 0 0 task (word (15 * 2 ^ 60 + at'))
  s.retireRecord { Strand.forPart r.part r.die with recAddr := r.va } r 0x05 none false true

/-- A tower address of the cells that no held or owned region covers. -/
def State.cleared (s : State) (cells : List Nat) (pa : Nat) : Bool :=
  paIsTower pa && cells.contains (paCell pa) &&
    !s.regions.any fun r => r.inCell (paCell pa) && decide (64 * r.base ≤ pa % 2 ^ 21) && decide (pa % 2 ^ 21 < 64 * (r.base + r.len + 1))

/-- R332 step 3: the towers of the cells are zero outside held and owned regions. -/
def State.clearTowers (s : State) (cells : List Nat) : State :=
  let s := cells.foldl (fun s c => s.mergeAll c) s
  let banks := cells.foldl (fun m c => (List.range 16).foldl (fun m b =>
    SMap.set Bank.initial m (c * 16 + b) { SMap.get Bank.initial m (c * 16 + b) with inv := false }) m) s.banks
  { s with mem := s.mem.filter (fun e => !s.cleared cells e.1), poison := s.poison.filter (fun e => !s.cleared cells e.1),
           banks := banks }

/-- R32, R163: the registers, predicates and dot state of the cells are zero. -/
def State.clearCells (s : State) (cells : List Nat) : State :=
  { s with vregs := s.vregs.dropCells 128 cells, preds := s.preds.dropCells 16 cells, acc := s.acc.dropCells 4096 cells,
           accInt := s.accInt.dropCells 16 cells, pt := s.pt.dropCells 16 cells, rs := s.rs.dropCells 16 cells }

/-- Bytes from one place to another for a strand, with the poison of each byte marking the unit it lands in; those of another package are
as it may have written them (log 20), and poisoned lines of the expander are logged (R390). -/
def State.moveBytes (s : State) (st : Strand) (src dst n : Nat) : State :=
  let s := s.foreignWrite src n
  let s := ((linesOf ((List.range n).map fun i => (src + i, 0))).filter s.homePoison).foldl (fun s a => s.notePoison st.part st.coreIdx a) s
  let bytes := s.homeBytes src n
  let bad := (List.range n).filter fun i => s.homePoison (src + i)
  bad.foldl (fun s i => s.mark (dst + i) true) (s.directWrite (layout dst bytes) false)

/-- R332 step 4: one resident region is staged into the cells. -/
def State.stageRegion (s : State) (st : Strand) (w : Word) : State :=
  let base := 64 * bf w 0 15
  let len := 64 * (bf w 15 15 + 1)
  let e := st.extent (bf w 33 4)
  let total := e.units * 2 ^ 16
  match bf w 37 2 with
  | 1 => st.grid.foldl (fun s c => s.moveBytes st e.base (towerPA c base) (min len total)) s
  | 2 => ((List.range st.cellCount).zip st.grid).foldl (fun s g =>
      s.moveBytes st (e.base + g.1 * len) (towerPA g.2 base) (min len (total - g.1 * len))) s
  | _ => s

/-- A resident region as held from a dispatch (R334). -/
def regionHeld (st : Strand) (w : Word) : Region :=
  ⟨st.part, bf w 48 16, st.die, st.core, st.field, st.gang, bf w 0 15, bf w 15 15, wbit w 39, some st.recAddr.toNat⟩

/-- R334: a resident word is adopted where its TAG was held before the dispatch; else a region begins, cleared and staged. -/
def State.ownRegion (s : State) (before : List Region) (st : Strand) (w : Word) : State :=
  if !wbit w 30 then s
  else if before.any fun g => g.part == st.part && g.tag != 0 && g.tag == bf w 48 16 && g.die == st.die then
    { s with regions := s.regions.map fun g =>
        if g.part == st.part && g.tag != 0 && g.tag == bf w 48 16 && g.die == st.die then
          { g with owner := some st.recAddr.toNat, keep := wbit w 39 } else g }
  else State.stageRegion { s with regions := s.regions ++ [regionHeld st w] } st w

/-- R26, R366: the bank of an object as it stands in memory at CBASE. DESIGN CHOICE: an object without a const section has CBASE 0 and a
bank of zeros, and where the bank's page is no longer mapped the bank is the one loaded (log 73). -/
def State.bankNow (s : State) (o : CodeObj) : SMap W32 :=
  match (if o.bankVa == 0 then none else s.pageLeaf o.part (bf (word o.bankVa) 0 55)) with
  | some (_, pa) => (List.range 256).foldl (fun m i => SMap.set 0 m i (BitVec.ofNat 32 (bytesNat (s.homeBytes (pa + 4 * i) 4)))) []
  | none => o.bank

/-- Table 1.5: an address of space 15 with its zero fields zero: TVEC as a partition's configuration gives it. -/
def tvecWord (w : Word) : Word := word (15 * 2 ^ 60 + bf w 2 53 * 4)

/-- R332 step 5, R32, R163: the strand as dispatched. -/
def State.freshStrand (s : State) (r : RecEntry) (core lead : Nat) (ext : SMap Extent) : Strand :=
  let p := s.part r.part
  let w := s.recWord r.pa
  let obj := s.objects.find? fun o => o.part == r.part && o.handle == bf (w 1) 0 32
  let st : Strand := { Strand.idle with
    sid := s.nextSid, live := true, part := r.part, recAddr := r.va, die := r.die, core := core, field := lead,
    gang := bf (w 4) 26 2, pc := word (15 * 2 ^ 60 + bf (w 0) 2 53 * 4), sregs := SMap.set 0 [] 0 r.va, ext := ext,
    spLen := bf (w 7) 15 15, spBase := bf (w 7) 0 15, ctxa := bf (w 15) 16 39 * 2 ^ 16, deadline := (w 2).toNat,
    bank := match obj with | some o => s.bankNow o | none => [] }
  ((((((st.setSys 0x002 (word (r.part * 2 ^ 32 + bf (w 14) 0 32))).setSys 0x004 (w 13)).setSys 0x00B (w 12)).setSys 0x00D
    (match obj with | some o => word o.bankVa | none => 0)).setSys 0x048 (tvecWord p.tvec)).setSys 0x049 p.tpriv).setSys 0x050 (word st.cluster)

/-- R273, R278: a dispatched member forms its domain or joins it. -/
def State.joinDomain (s : State) (st : Strand) : State :=
  if domMembers st.dom == 0 then s
  else if s.domains.any (·.named st) then { s with domains := s.domains.map fun d => if d.named st then { d with live := d.live ++ [st.sid] } else d }
  else { s with domains := s.domains ++ [⟨domLevel st.dom, domIdent st.dom, st.domUnit (domLevel st.dom), domMembers st.dom, [st.sid],
    0, 0, 0, false, [], 0⟩] }

/-- A strand comes to run: in the executing place if it is idle. -/
def State.seat (s : State) (st : Strand) : State :=
  if s.st.live then { s with others := s.others ++ [st] } else { s with st := st }

/-- Clears the sync bits of a share (R191). -/
def State.clearShare (s : State) (st : Strand) : State :=
  let m : Nat := (2 ^ (st.syncShare).2 - 1) * 2 ^ (st.syncShare).1
  s.setSync st.coreIdx (s.syncBits st &&& ~~~(BitVec.ofNat 8 m))

/-- R332 step 6 and R35: an ENTRY outside the text of object CODE faults at the first fetch. -/
def State.entryFault (s : State) (r : RecEntry) (st : Strand) : State × Strand :=
  let inText := match s.textAt r.part st.pc with
    | some (o, _) => o.handle == bf (s.recWord r.pa 1) 0 32
    | none => true
  if inText then (s, st)
  else (s.logViol r.part 0x05 0 st.taskNo st.pc, { st with pend := [⟨0x05, 0, 0, st.pc, st.pc, 0, 0, ⟨0, 0, 0, 0⟩, false⟩] })

/-- R332, steps 3 to 6. -/
def State.startTask (s : State) (r : RecEntry) (core lead : Nat) (ext : SMap Extent) : State :=
  let st := s.freshStrand r core lead ext
  let s := { s with nextSid := s.nextSid + 1 }
  let s := ((s.clearTowers st.grid).clearCells st.grid).clearShare st
  let before := s.regions
  let s := [8, 9].foldl (fun s i => s.ownRegion before st (s.recWord r.pa i)) s
  let (s, st) := s.entryFault r st
  let s := (s.modRec r.pa fun q => { q with staging := none, state := 4, hasRun := true, sid := st.sid, words := (List.range 16).map (s.recWord r.pa) }).setRecState r.pa 4
  (s.joinDomain st).seat st

/-- R332, R367: a first dispatch; it fails for a malformed record, a held TAG of another shape, and a CODE that names no loaded
object. -/
def State.dispatchFirst (s : State) (r : RecEntry) (core lead : Nat) : State :=
  let w (i : Nat) : Word := if i == 4 then setBf (s.recWord r.pa 4) 21 3 0 else s.recWord r.pa i
  if recordBad r.part true w || s.tagMismatch r || !(s.objects.any fun o => o.part == r.part && o.handle == bf (w 1) 0 32) then s.dispatchFail r (bf r.va 0 55)
  else
    match s.readExtents r.part (bf (w 5) 6 49 * 64) (bf (w 5) 0 4) with
    | .error a => s.dispatchFail r a
    | .ok ext => s.startTask r core lead ext

/-! ### The press (R336-R338) -/

/-- Bytes per cell of the spill region and the volatile regions of a record. -/
def State.savedBytes (s : State) (r : RecEntry) : Nat :=
  ((s.recSpill r :: s.recRegions r [10, 11]).map fun e => 64 * (e.2 + 1)).sum

/-- R336: the size of an image. -/
def imageSize (g v : Nat) : Nat := (4096 + g * 16384 + 16 * g * (32768 + v) + 65535) / 65536 * 65536

/-- The frames of a save area, if every page of it suits R336. -/
def State.saveArea (s : State) (part va size : Nat) : Option (List Nat) :=
  let pages := (List.range (size / 65536)).map fun i => s.pageLeaf part (va + i * 65536)
  if pages.all fun p => match p with
    | some (l, _) => wbit l 1 && leafKind l == 2 && leafHome l == 0 && !wbit l 9
    | none => false
  then some (pages.filterMap fun p => p.map (·.2)) else none

/-- R175, R336: a strand stands at its boundary with no fault that comes before the press (R166), at JOIN or parked, and nothing of it is
under way: results have landed or are held by a park, copies, loads and SPAWNs are performed, and no ENTER is to follow its call (R93). -/
def Strand.quiet (st : Strand) : Bool :=
  ((st.boundary && st.boundaryPend.isNone) || st.park.isSome || st.atJoin) && st.rollback.isNone &&
    (st.flights.all fun f => f.landed || (st.park.isSome && f.reads.isEmpty)) && !st.awaiting &&
    st.afterCall.isNone && (match st.cq.cur with | some c => !c.begun || c.done | none => true)

/-- PRESS_SAVE (R336): at the boundary of a task the press was sent to, once it is quiet, the save area is checked and the
save begins; an unsuitable area abandons it. -/
def execPressSave (s : State) : Host.Outcome State Fault Refusal :=
  let st := s.st
  let all := s.taskStrands st
  if !st.live || !st.saveReq || !all.all Strand.quiet then .next s
  else
    match s.recs.find? (fun r => r.part == st.part && r.va == st.recAddr) with
    | none => .next s
    | some r =>
      let mine (t : Strand) : Bool := t.part == st.part && t.recAddr == st.recAddr
      match s.saveArea st.part st.ctxa (imageSize (gangFields st.gang) (s.savedBytes r)) with
      | none =>
        let s := s.modAll fun t => if mine t then { t with saveReq := false, ctxa := 0 } else t
        .next (s.logFault st.part 5 0 0 st.taskNo st.placement (word (15 * 2 ^ 60 + st.ctxa)) 0)
      | some _ => .next (s.modAll fun t => if mine t then { t.closeWindow 8 with saveReq := false, saving := true } else t)

/-- The saved tower bytes of the cells: spill and volatile regions, under their grid index. -/
def State.savedTower (s : State) (r : RecEntry) (cells : List Nat) : Memory :=
  let rs := s.recSpill r :: s.recRegions r [10, 11]
  let in' (off : Nat) : Bool := rs.any fun e => decide (64 * e.1 ≤ off) && decide (off < 64 * (e.1 + e.2 + 1))
  s.mem.foldl (fun m e =>
    if paIsTower e.1 && in' (e.1 % 2 ^ 21) then
      (match cells.idxOf? (paCell e.1) with
       | some g => Memory.put m (g * 2 ^ 21 + e.1 % 2 ^ 21) e.2
       | none => m)
    else m) []

/-- The poisoned units of the saved tower bytes. -/
def State.savedPoison (s : State) (r : RecEntry) (cells : List Nat) : List Nat :=
  let rs := s.recSpill r :: s.recRegions r [10, 11]
  let in' (off : Nat) : Bool := rs.any fun e => decide (64 * e.1 ≤ off) && decide (off < 64 * (e.1 + e.2 + 1))
  (s.poison.filter fun e => paIsTower e.1 && in' (e.1 % 2 ^ 21)).filterMap fun e =>
    (cells.idxOf? (paCell e.1)).map fun g => g * 2 ^ 21 + e.1 % 2 ^ 21

/-- Memory with what the homes have queued. -/
def State.merged (s : State) : Memory :=
  s.homeq.foldl (fun m e => e.2.foldl (fun m w => w.bytes.foldl (fun m b => Memory.put m b.1 b.2) m) m) s.mem

/-- The bytes of the save area as their homes hold them (R336: the digest covers them, log 13). -/
def State.areaBytes (s : State) (area : List Nat) : Memory := s.merged.filter fun e => area.contains (e.1 - e.1 % 65536)

/-- R338: a byte of the save area is poisoned, so that no digest over it is formed. -/
def State.areaPoison (s : State) (area : List Nat) : Bool := s.poison.any fun e => area.contains (e.1 - e.1 % 65536)

/-- R336: the image is written to the save area, whose pages follow one another. DESIGN CHOICE: the manual gives the sections of an image and
not its bytes; each byte is a free value (log 13). -/
def State.writeImage (s : State) (area : List Nat) : State :=
  let s := area.foldl (fun s p => s.directWrite
    (layout p ((List.range 65536).map fun i => (Config.free s.freeCtr (p + i)).setWidth 8)) false) s
  { s with freeCtr := s.freeCtr + 1 }

/-- R336: the live-profile mask of a gang's strands in a core of cells: the scalar base, then V1, D1 and C1, each with the state it has in
the strands and, `v` and `d`, in the cells. -/
def profilesOf (strands : List Strand) (v d : Bool) : Nat :=
  1 + (if v || strands.any (fun t => !t.vq.isEmpty || !t.flights.isEmpty) then 2 else 0) +
    (if d || strands.any (fun t => !t.dq.isEmpty || t.shape != 0 || t.kstep != 32 ||
        (List.range 16).any fun i => t.sysv (0x020 + i) != 0) then 4 else 0) +
    (if strands.any (fun t => !t.cq.isEmpty || !t.tiles.isEmpty || !t.streams.isEmpty) then 8 else 0)

/-- R155: a permutation table in the byte order of Table 6.7. -/
def PermTable.bytes (p : PermTable) : List Byte :=
  ((List.range 256).map fun j => BitVec.ofNat 8 (p.order.getD j 0)) ++ ((List.range 16).map fun c => natBytes 2 (p.ends.getD c 0)).flatten ++
    natBytes 16 p.header.toNat ++ natBytes 1 p.row ++ natBytes 1 (b2n p.valid + 2 * b2n p.nan)

/-- A permutation table from its bytes. -/
def PermTable.ofBytes (l : List Byte) : PermTable :=
  let at' (i n : Nat) : Nat := bytesNat ((l.drop i).take n)
  ⟨(List.range 256).map fun j => at' j 1, (List.range 16).map fun c => at' (256 + 2 * c) 2, BitVec.ofNat 128 (at' 288 16), at' 304 1,
    at' 305 1 % 2 == 1, at' 305 1 / 2 % 2 == 1⟩


/-- A strand as its image holds it. Transfers of the spill engine and the steps of an INVAL are made again from the boundary; other
waits go on (R164, R198, R277). -/
def Strand.saved (t : Strand) : Strand :=
  { t with saving := false, boundary := false, park := none, cheld := none, closer := 0, win := none, jobs := [], moved := 0,
           streams := t.streams.map fun e => (e.1, e.2.saved),
           stall := if t.stall == some .spill || t.stall == some .inval then none else t.stall }

/-- The image of a task (Table 18.6). -/
def State.image (s : State) (r : RecEntry) (st : Strand) (area : List Nat) : Image :=
  let cells := ({ st with forked := false, field := st.leadField } : Strand).grid
  let v := s.vregs.pack 0 128 cells
  let p := s.preds.pack 0 16 cells
  let a := s.acc.pack 0 4096 cells
  let ai := s.accInt.pack false 16 cells
  let pt := s.pt.pack ⟨[], [], 0, 0, false, false⟩ 16 cells
  let rs := s.rs.pack ⟨[], 0, [], []⟩ 16 cells
  { part := st.part, recVa := st.recAddr,
    strands := (s.taskStrands st).map Strand.saved,
    vregs := v, preds := p, acc := a, accInt := ai, pt := pt.map fun e => (e.1, e.2.bytes), rs := rs,
    tower := s.savedTower r cells, bad := s.savedPoison r cells,
    sync := bitsOf (s.syncBits st).toNat (st.syncShare).1 (st.syncShare).2,
    profiles := profilesOf (s.taskStrands st) (!(v.isEmpty && p.isEmpty)) (!(a.isEmpty && ai.isEmpty && pt.isEmpty && rs.isEmpty)), area := area, digest := s.areaBytes area }

/-- R307, R336: the strands of a saved task leave their fields. -/
def State.unseat (s : State) (all : List Strand) : State :=
  all.foldl (fun s t => ((s.withdraw t.sid).endDeferrals t).drop t.sid) s

/-- The record of a task just saved (R336, R328). -/
def RecEntry.saved (q : RecEntry) (order : Nat) (past : Bool) : RecEntry :=
  { q with state := 5, order := order, missed := q.missed || past, sid := 0 }

/-- R336: the image stands, the record is saved and in the ready queue, the fields are free. The writes the core has buffered go to
their homes first, so that the strand's order holds wherever it is restored (R280, R283). -/
def State.saveTask (s : State) (r : RecEntry) (lead : Strand) : State :=
  let size := imageSize (gangFields lead.gang) (s.savedBytes r)
  let s1 := ({ lead with forked := false, field := lead.leadField } : Strand).grid.foldl (fun s c => s.mergeAll c) (s.drainAll lead.coreIdx)
  let area := (s1.saveArea lead.part lead.ctxa size).getD []
  let w := s1.writeImage area
  let img := w.image r lead area
  let s2 := w.unseat (w.taskStrands lead)
  let s3 : State := { s2 with images := s2.images ++ [img] }
  let s4 := (s3.setRecWord r.pa 12 lead.charge).setRecState r.pa 5
  (s4.modRec r.pa fun q => q.saved s.time (decide (s.recDeadline r ≤ s.now))).retireDue

/-- PRESS_SAVE_DONE (R336): a save that has begun is done. -/
def execPressSaveDone (s : State) : Host.Outcome State Fault Refusal :=
  match s.recs.find? (fun r => r.part == s.st.part && r.va == s.st.recAddr), (s.taskStrands s.st).find? (·.gidx == 0) with
  | some r, some lead => .next (if s.st.live && s.st.saving then s.saveTask r lead else s)
  | _, _ => .next s

/-- PREEMPT_REQUEST (R331): a privileged request through the die's control space sends the press to the executing task,
if it may be pre-empted. -/
def execPreemptRequest (s : State) : Host.Outcome State Fault Refusal :=
  .next (if s.st.live && s.st.ctxa != 0 && !s.st.saving then s.sendPress s.st else s)

/-- R277: a BARW whose limit has passed by the time its strand is restored is judged then. -/
def Stall.restored (w : Stall) (now : Nat) : Stall := match w with | .barrier (some t) => .barrier (some (max t now)) | w => w

/-- R337: every unit of a tile lies in one of the regions. -/
def Tile.within (e : Tile) (regions : List (Nat × Nat)) : Bool :=
  (List.range e.len).all fun k => regions.any fun g => decide (g.1 ≤ e.base + k) && decide (e.base + k ≤ g.1 + g.2)

/-- R179, R337: the lanes a result writes, under the cells of the new placement. -/
def Flight.reseat (f : Flight) (old new : List Nat) : Flight :=
  { f with lanes := f.lanes.map fun e => (new.getD (old.idxOf e.1) e.1, e.2) }

/-- A strand of an image on its new fields. -/
def Strand.onto (t : Strand) (core lead : Nat) : Strand := { t with core := core, field := if t.forked then lead + t.gidx else lead }

/-- A strand of an image on its new fields; tile entries outside the task's regions are empty (R337). -/
def Strand.reseat (t : Strand) (core lead now : Nat) (regions : List (Nat × Nat)) : Strand :=
  { t.onto core lead with
    stall := t.stall.map fun w => w.restored now,
    flights := t.flights.map fun f => f.reseat t.grid (t.onto core lead).grid,
    tiles := t.tiles.map fun e : Nat × Tile =>
      if e.2.within regions then e
      else (e.1, { e.2 with st := .empty, fill := none }) }

/-- R337: an image is written back on a placement. -/
def State.restoreImage (s : State) (r : RecEntry) (img : Image) (core lead : Nat) : State :=
  let regions := s.recSpill r :: s.recRegions r [8, 9, 10, 11]
  let strands := img.strands.map fun t => t.reseat core lead s.now regions
  match strands.find? (·.gidx == 0) with
  | none => s
  | some l =>
    let cells := ({ l with forked := false, field := lead } : Strand).grid
    let s := (s.clearTowers cells).clearCells cells
    let tower := img.tower.map fun e => (towerPA (cells.getD (e.1 / 2 ^ 21) 0) (e.1 % 2 ^ 21), e.2)
    let s := { s with
      mem := tower.foldl (fun m (e : Nat × Byte) => Memory.put m e.1 e.2) s.mem,
      poison := img.bad.foldl (fun m e => SMap.set false m (towerPA (cells.getD (e / 2 ^ 21) 0) (e % 2 ^ 21)) true) s.poison,
      vregs := img.vregs.unpack 0 s.vregs 128 cells, preds := img.preds.unpack 0 s.preds 16 cells,
      acc := img.acc.unpack 0 s.acc 4096 cells, accInt := img.accInt.unpack false s.accInt 16 cells,
      pt := SMap.unpack ⟨[], [], 0, 0, false, false⟩ (img.pt.map fun e : Nat × List Byte => (e.1, PermTable.ofBytes e.2)) s.pt 16 cells, rs := img.rs.unpack ⟨[], 0, [], []⟩ s.rs 16 cells,
      images := s.images.filter fun i => !(i.part == r.part && i.recVa == r.va) }
    let s := s.clearShare l
    let s := s.setSync l.coreIdx (s.syncBits l ||| BitVec.ofNat 8 (img.sync * 2 ^ (l.syncShare).1))
    let s := (s.modRec r.pa fun q => { q with staging := none, state := 4, sid := l.sid }).setRecState r.pa 4
    strands.foldl (fun s t => s.seat t) s

/-- R338: profiles the device lacks: bits beyond V1, D1 and C1. -/
def missingProfiles (mask : Nat) : Nat := mask / 16 * 16

/-- R337, R338: a restore: refused for a missing profile, ended by a digest mismatch, else done. DESIGN CHOICE: a refused task holds no
fields, and its entry of KIND 7 has placement 0 (log 117). -/
def State.restore (s : State) (r : RecEntry) (core lead : Nat) : State :=
  match s.images.find? (fun i => i.part == r.part && i.recVa == r.va) with
  | none => s.modRec r.pa fun q => { q with staging := none }
  | some img =>
    if missingProfiles img.profiles != 0 then
      let s := s.modRec r.pa fun q => { q with staging := none }
      let s := s.setRecWord r.pa 4 (setBf (s.recWord r.pa 4) 8 8 0x13)
      s.logFault r.part 7 0 0 (bf (s.recFixed r 14) 0 32) 0 r.va (word (missingProfiles img.profiles))
    else if s.areaBytes img.area != img.digest || s.areaPoison img.area then
      match img.strands.find? (·.gidx == 0) with
      | some l => s.machineCheck l 8 0 0
      | none => s
    else s.restoreImage r img core lead

/-- DISPATCH_COMPLETE (R332, R337): the first record taken for dispatch comes to run, or fails; where it has no longer that placement, its core
accepting none (R330) or a region of its TAG held and owned since (R334), it is placed anew. A deadline reached meanwhile is missed (R327). -/
def execDispatchComplete (s : State) : Host.Outcome State Fault Refusal :=
  match (if s.packageWaits then none else s.recs.find? (·.staging.isSome)) with
  | none => .next s
  | some r =>
    match r.staging with
    | none => .next s
    | some (core, lead) =>
      let s := s.missRecord r
      .next (if !(s.placements r).contains (core, lead) then s.modRec r.pa fun q => { q with staging := none }
        else if r.state == 5 then s.restore r core lead else s.dispatchFirst r core lead)

end Sys2Proof.Machine
end

