-- ==== Sys2Proof/Machine/TaskWords.lean ====
section
/-! DEFINITION. The task words: SPAWN, SIGNAL, TEND, YIELD and WEAR (R320-R325), and the barriers BAR, BARW and BARA with
the registration of arrivals (R273-R278). -/

namespace Sys2Proof.Machine

/-! ### What a strand has issued and not performed -/

/-- An access a strand issued at or before a time and that is not performed at domain scope: buffered writes and far
writes on their way, outstanding loads and atomics. -/
def State.issuedOpen (s : State) (st : Strand) (upTo : Nat) : Bool :=
  ((s.outQ st.coreIdx ++ s.farWrites).any fun e => e.sid == st.sid && decide (e.issued ≤ upTo)) ||
    (st.loads.any fun l => decide (l.issued ≤ upTo))

/-- R275: a command that the strand enqueued before an enqueue number, a copy or a V result of it, is not performed. -/
def Strand.enqueuedOpen (st : Strand) (n : Nat) : Bool :=
  ((st.vq.cmds ++ st.dq.cmds ++ st.cq.cmds).any fun c => decide (c.seq < n) && !c.done) ||
    st.flights.any fun f => decide (f.cmd.seq < n) && !f.landed

/-! ### SPAWN and SIGNAL (R321) -/

/-- The space-15 address of a record named by a task address (R32). -/
def Strand.recordVA (st : Strand) (addr : Word) : Word :=
  if bf addr 60 4 == 15 then addr else word (15 * 2 ^ 60 + (st.extent (bf addr 60 4)).va + bf addr 0 60)

/-- A poisoned byte of the record as a task address. -/
def poisonAt (addr : Word) (pa a : Nat) : Word := word (addr.toNat + (a - pa))

/-- SPAWNs that a core's strands have in flight (R321). -/
def State.spawnsOf (s : State) (core : Nat) : Nat := ((s.strands.filter fun t => t.coreIdx == core).map fun t => t.spawning.length).sum

/-- R321: the checked SPAWN leaves the core: FULL where sixty-four are in flight; else its home acts, at once or, where the schedule says so
(log 4), behind later words. -/
def State.spawnSend (s : State) (d : BitVec 5) (addr : Word) (pa : Nat) : State :=
  if 64 ≤ s.spawnsOf s.st.coreIdx then s.writeRd d 2 4
  else
    let (late, s) := s.takeLate
    if late then
      let q : Spawning := ⟨if d == 0 then 256 else s.st.phys d.toNat, s.st.recordVA addr, pa, s.st.die, s.st.part⟩
      State.advance { s with st := { s.st with spawning := s.st.spawning ++ [q] } } 4
    else
      let r := s.spawnRecord s.st.die s.st.part (s.st.recordVA addr) pa
      r.2.writeRd d (word r.1) 4

/-- SPAWN of the record at an address. -/
def State.spawnWord (s : State) (d : BitVec 5) (addr : Word) : WRes :=
  match s.recordAddr s.st addr with
  | .fault c => flt c addr
  | .absent cause => .park ⟨addr, 2, cause, 0⟩
  | .found pa =>
    match s.recPoison pa spawnWords with
    | some a => flt 0x0C (poisonAt addr pa a)
    | none =>
      if s.issuedOpen s.st s.time then .wait .fence
      else .ok (State.spawnSend { s with st := s.st.closeWindow 9 } d addr pa)

/-- SPAWN (R321). -/
def execSpawn (d : BitVec 5) (src : BitVec 5) (s : State) : Host.Outcome State Fault Refusal := finish s (s.spawnWord d (s.st.rs src))

/-- SIGNAL of the record at an address. -/
def State.signalWord (s : State) (addr : Word) : WRes :=
  match s.recordAddr s.st addr with
  | .fault c => flt c addr
  | .absent cause => .park ⟨addr, 2, cause, 0⟩
  | .found pa =>
    match s.recPoison pa [4] with
    | some a => flt 0x0C (poisonAt addr pa a)
    | none =>
      if s.issuedOpen s.st s.time then .wait .fence
      else .ok (State.advance (State.signalRecord { s with st := s.st.closeWindow 9 } s.st.part s.st.taskNo addr pa false false) 4)

/-- SIGNAL (R321). -/
def execSignal (src : BitVec 5) (s : State) : Host.Outcome State Fault Refusal := finish s (s.signalWord (s.st.rs src))

/-! ### TEND, YIELD, WEAR (R323, R325) -/

/-- TEND. -/
def State.tendWord (s : State) : WRes :=
  if s.st.forked then flt 0x01 0
  else if !s.st.drained then .wait .drain
  else if s.issuedOpen s.st s.time || !s.st.spawning.isEmpty then .wait .fence
  else .ok (s.endTask s.st 0 false)

/-- TEND (R323). -/
def execTend (s : State) : Host.Outcome State Fault Refusal := finish s s.tendWord

/-- R325: a ready record with a deadline no later would be placed on fields the task holds, were they free. -/
def State.yieldsTo (s : State) : Bool :=
  let st := s.st
  let mine : Nat := s.taskDeadline st
  let held := st.fieldsHeld
  (s.readySet st.die st.part).any fun r =>
    decide (s.recDeadline r ≤ mine) &&
      (match s.leastWear r.die ((s.placements r).filter fun p =>
          (placementFields (s.recGang r) p.2).all fun f => !s.fieldBusy r.die p.1 f || (p.1 == st.core && held.contains f)) with
       | some p => p.1 == st.core && (placementFields (s.recGang r) p.2).any held.contains
       | none => false)

/-- YIELD: the word is complete, and the press is sent to the task where R325 says so. -/
def State.yieldWord (s : State) : WRes :=
  if s.st.forked then flt 0x01 0
  else
    let t := State.advance { s with st := s.st.closeWindow 9 } 4
    .ok (if s.st.ctxa != 0 && s.yieldsTo then t.sendPress t.st else t)

/-- YIELD (R325). -/
def execYield (s : State) : Host.Outcome State Fault Refusal := finish s s.yieldWord

/-- WEAR (R325): the charge of the context; like every task word it closes a window (R320). -/
def execWear (d : BitVec 5) (s : State) : Host.Outcome State Fault Refusal :=
  .next (State.writeRd { s with st := s.st.closeWindow 9 } d s.st.charge 4)

/-! ### Barriers (R273-R278) -/

/-- The domain of a strand, while it lives. -/
def State.domainOf (s : State) (st : Strand) : Option Domain := s.domains.find? (·.isOf st)

/-- R275: an arrival is registered at the domain; the last one completes the phase. -/
def State.register (s : State) (st : Strand) : State :=
  State.mod (s.modDomain st fun d => ({ d with arrived := d.arrived + 1 } : Domain).settle s.hub.pkg s.now) st.sid
    fun t => { t with arriving := none }

/-- R275: the arrival of the executing strand is registered once every access it issued before, and every command it enqueued
before, is performed; the signals of a package-wide barrier wait while the die link retrains (R384). -/
def State.tryRegister (s : State) : State :=
  match s.st.arriving with
  | some (t, n) =>
    if s.issuedOpen s.st t || s.st.enqueuedOpen n || (s.hub.d2dDown && decide (4 ≤ domLevel s.st.dom)) then s else s.register s.st
  | none => s

/-- arrive() (R274, R275): the writes of this phase end here. -/
def State.arrive (s : State) (d : Domain) : State :=
  State.tryRegister { s with st := { s.st with pendBit := true, phase := d.phase, arriving := some (s.time, s.st.seq) } }

/-- Whether the phase a strand arrived at has completed. -/
def State.phaseDone (s : State) : Bool :=
  match s.domainOf s.st with
  | some d => s.st.arriving.isNone && decide (s.st.phase < d.phase)
  | none => false

/-- The fault of a barrier word (R274, R278, R428): no domain, a forked field, a root package past 143, a domain broken or
never formed. -/
def State.barrierFault (s : State) : Bool :=
  domMembers s.st.dom == 0 || s.st.forked || (domLevel s.st.dom == 5 && decide (143 < domIdent s.st.dom / 2 ^ 16)) || (match s.domainOf s.st with | some d => d.broken | none => true)

/-- The arrival of a BAR or BARW, where none stands. -/
def State.arriveOnce (s : State) : State :=
  let s := { s with st := s.st.closeWindow 9 }
  match s.domainOf s.st with
  | some d => if s.st.pendBit then s.tryRegister else s.arrive d
  | none => s

/-- BAR. -/
def State.barWord (s : State) : WRes :=
  if s.barrierFault then flt 0x15 0
  else
    let t := s.arriveOnce
    if t.phaseDone then .ok (State.advance { t with st := { t.st with pendBit := false } } 4)
    else .ok { t with st := { t.st with stall := some (.barrier none) } }

/-- BAR (R274). -/
def execBar (s : State) : Host.Outcome State Fault Refusal := finish s s.barWord

/-- The limit of a waiting BARW, or of one that begins now (R277: it keeps T). -/
def State.barLimit (s : State) (r : Word) : Nat :=
  match s.st.stall with
  | some (.barrier (some t)) => t
  | _ => s.now + bf r 0 32

/-- The last phase of the strand's domain completed no later than a time (R277). -/
def State.doneBy (s : State) (limit : Nat) : Bool := match s.domainOf s.st with | some d => decide (d.doneAt ≤ limit) | none => false

/-- BARW: completion wins over the limit in the cycle they share; a phase that completes later finds it expired (R277). -/
def State.barwWord (s : State) (d : BitVec 5) (r : Word) : WRes :=
  if s.barrierFault then flt 0x15 0
  else
    let limit := s.barLimit r
    let t := s.arriveOnce
    if t.phaseDone && t.doneBy limit then .ok (State.writeRd { t with st := { t.st with pendBit := false } } d 0 4)
    else if decide (limit ≤ t.now) then .ok (t.writeRd d 1 4)
    else .ok { t with st := { t.st with stall := some (.barrier (some limit)) } }

/-- BARW (R274). -/
def execBarw (d : BitVec 5) (src : BitVec 5) (s : State) : Host.Outcome State Fault Refusal := finish s (s.barwWord d (s.st.rs src))

/-- BARA: an arrival only; a second one before the phase is met faults. -/
def State.baraWord (s : State) : WRes :=
  if s.barrierFault || s.st.pendBit then flt 0x15 0 else .ok (s.arriveOnce.advance 4)

/-- BARA (R274). -/
def execBara (s : State) : Host.Outcome State Fault Refusal := finish s s.baraWord

/-- BARRIER_ARRIVAL (R275): the arrival of the executing strand is registered, if nothing before it is outstanding. -/
def execBarrierArrival (s : State) : Host.Outcome State Fault Refusal := .next (if s.st.live then s.tryRegister else s)

/-- BARW_LIMIT_EXPIRY (R277): a waiting BARW whose limit has come, and whose phase is not complete, answers TIMEOUT. -/
def execBarwLimitExpiry (s : State) : Host.Outcome State Fault Refusal :=
  match s.st.stall with
  | some (.barrier (some t)) =>
    if s.st.live && decide (t ≤ s.now) then
      (match s.fetch s.st.part s.st.pc with
       | .ok (.barw d _) => finish s (s.barwWord d 0)
       | _ => .next s)
    else .next s
  | _ => .next s

end Sys2Proof.Machine
end

