-- ==== Sys2Proof/Machine/Engine.lean ====
section
/-! DEFINITION. The engine queues (R194-R203): what enqueues a word, the shares of LOOPB, the stages of a command at its
head, and the opening and retention of command windows (R235-R237, R243). -/

namespace Sys2Proof.Machine

/-- R404: the power exceeds the limit at the lowest clock, and the V and D engines issue nothing. -/
def Hub.holds (h : Hub) : Bool := decide (3600 < h.power) && decide (h.clock ≤ 850)

/-! ### Token bits (Table 1.1, R42) -/

/-- The counters WP and WN wait on. -/
def waitToks : EngineQ → Tok × Tok
  | .C => (.vc, .dc)
  | .D => (.cd, .vd)
  | .V => (.dv, .cv)

/-- The counters PP and PN post to. -/
def postToks : EngineQ → Tok × Tok
  | .C => (.cv, .cd)
  | .D => (.dc, .dv)
  | .V => (.vd, .vc)

/-- SRC of a queue (Table 7.1). -/
def queueSrc : EngineQ → Nat
  | .V => 1
  | .D => 2
  | .C => 3

/-- The previous queue of the ring C, D, V, C (R202). -/
def prevQueue : EngineQ → EngineQ
  | .D => .C
  | .V => .D
  | .C => .V

/-- The counters a command still waits on. -/
def Cmd.waits (c : Cmd) (q : EngineQ) : List Tok :=
  (if c.tok.getLsbD 3 then [(waitToks q).1] else []) ++ (if c.tok.getLsbD 2 then [(waitToks q).2] else [])

/-! ### Windows (R235-R237) -/

/-- R236: the checkpoint of the boundary the sequencer stands at. -/
def Strand.checkpoint (st : Strand) : Checkpoint :=
  ⟨st.pc, (List.range 31).map fun i => st.rs (BitVec.ofNat 5 (i + 1)), st.wp, st.vwp, st.guards, st.loops, st.rep, st.qname, st.qbinds⟩

/-- R235: a window opens; one already open ends. -/
def Strand.openWindow (st : Strand) : Strand :=
  { st with win := some ⟨st.checkpoint, st.seq, 0, none, none, [], [], [], [], false⟩,
            dq := { st.dq with retained := [] }, cq := { st.cq with retained := [] } }

/-- An engine word has enqueued its commands: an open window keeps them for the comparison of R240. -/
def Strand.noteWord (st : Strand) (w : Enqueued) : Strand := { st with win := st.win.map fun x => { x with words := x.words ++ [w] } }

/-- R240: an engine word executed again against the entry that stands in for it; one that differs is a mismatch. -/
def Strand.recheck (st : Strand) (w : Enqueued) : Option Strand :=
  match st.reexec with
  | some r => if r.words.head? == some w then some { st with reexec := some { r with words := r.words.tail } } else none
  | none => none

/-- The word at PC has been executed again: it is complete, or differs from its entry (R240, R245). -/
def State.enqueuedAgain (s : State) (w : Enqueued) (n : Nat) : State :=
  match s.st.recheck w with
  | some st => State.advance { s with st := st } n
  | none => { s with st := { s.st with rollback := some (.differs s.st.pc), stall := none } }

/-- R236: the D snapshot, as the first D command of the window reaches the D head (log 14). The LOOPB state needs no copy: a retained command keeps
its place in it (`lp`, `idx`). -/
def State.dSnapshot (s : State) : DSnap :=
  let cells := s.st.grid
  ⟨s.acc.filter (fun e => cells.contains (e.1 / 4096)), s.accInt.filter (fun e => cells.contains (e.1 / 16)),
   s.pt.filter (fun e => cells.contains (e.1 / 16)), s.rs.filter (fun e => cells.contains (e.1 / 16)),
   (List.range 16).map fun i => s.st.sysv (0x020 + i), s.st.shape, s.st.kstep⟩

/-- Takes the D snapshot for a command of the window, once. -/
def State.takeDSnap (s : State) (c : Cmd) : State :=
  match s.st.win with
  | some w => if decide (w.startSeq ≤ c.seq) && w.dsnap.isNone then
      { s with st := { s.st with win := some { w with dsnap := some s.dSnapshot } } } else s
  | none => s

/-- Takes the C snapshot for a command of the window that begins, once (R236). -/
def Strand.takeCSnap (st : Strand) (c : Cmd) : Strand :=
  match st.win with
  | some w => if decide (w.startSeq ≤ c.seq) && w.csnap.isNone then
      { st with win := some { w with csnap := some ⟨st.tiles⟩ } } else st
  | none => st

/-- Table 11.1, code 10: a command from before the marker point acts on a resolution made in the window. -/
def Strand.closeByGuard (st : Strand) (c : Cmd) : Strand :=
  match st.win, c.guard with
  | some w, some r =>
    let g := w.cp.guards.getD r.slot Guard.initial
    if decide (c.seq < w.startSeq) && ((g.gid == r.gid && g.st == .unresolved) || decide (g.gid < r.gid)) then st.closeWindow 10 else st
  | _, _ => st

/-- R237: a retained command: its waits and posts are made, its guard is judged, and its carried word stands in the D queue. -/
def Cmd.kept (c : Cmd) : Cmd :=
  { c with tok := 0, waited := true, begun := false, done := false, guard := none, kindS := false,
           pay := match c.pay with | .c op _ => .c op none | p => p }

/-- A tile-table entry never defined. -/
def Tile.undefined : Tile := ⟨.empty, 0, 0, 0, 0, none⟩

/-- Tile-table entry n. -/
def Strand.tile (st : Strand) (n : Nat) : Tile := SMap.get Tile.undefined st.tiles n

def Strand.setTile (st : Strand) (n : Nat) (t : Tile) : Strand := { st with tiles := SMap.set Tile.undefined st.tiles n t }

/-- The tile a D command or a copy writes. -/
def Payload.fills : Payload → Option Nat
  | .d (.tout _ t _ _) => some t
  | .c (.cpy t _ _ false _) _ => some t
  | .c (.cpyb t _ _ _) _ => some t
  | .c (.cpyx _ a _) _ => some (bf a 32 6)
  | .c (.cpyr t _ _ false _) _ => some t
  | _ => none

/-! ### Enqueue (R194, R195) -/

/-- Entries of a queue in use, with those reserved for carried words. -/
def Strand.used (st : Strand) : EngineQ → List Nat
  | .V => st.vq.entries
  | .D => (st.dq.entries ++ st.reservedD).dedup
  | .C => st.cq.entries

/-- Whether n more entries fit (R194). -/
def Strand.room (st : Strand) (q : EngineQ) (n : Nat) : Bool := decide ((st.used q).length + n ≤ 256)

/-- R243, code 11: where only retained entries keep a D or C entry out, the window closes. -/
def Strand.makeRoom (st : Strand) (q : EngineQ) (n : Nat) : Strand :=
  if q == .V || st.room q n then st else if (st.queue q).retained.isEmpty then st else st.closeWindow 11

/-- A fresh command at the word the sequencer stands at. -/
def Strand.command (st : Strand) (pay : Payload) (tok : BitVec 4) (g : Nat) (ts : Bool) : Cmd :=
  ⟨pay, st.pc, tok, st.capture g, st.repIdx, ts, st.seq, ⟨0, 0, 0, 0⟩, 0, 0, 64, false, false, false, false, false⟩

/-- Whether a payload carries a D word. -/
def Payload.carries : Payload → Bool
  | .c _ (some _) => true
  | _ => false

/-- A command goes behind its queue. -/
def Strand.put (st : Strand) (q : EngineQ) (c : Cmd) : Strand :=
  let v := st.queue q
  { st.setQueue q { v with items := v.items ++ [.cmd c] } with seq := st.seq + 1 }

/-- R235: the word opens a window; its checkpoint is taken with no load outstanding. -/
def Strand.opensWindow (st : Strand) (pay : Payload) (ts : Bool) : Bool :=
  (ts || (match pay with | .c _ (some k) => k.ts | _ => false)) && st.repIdx == 0

/-- The strand at an enqueue: the first issue of a word with TS = 1, its own or carried, opens a window (R235), and
retention gives way (R243). -/
def Strand.forEnqueue (st : Strand) (q : EngineQ) (pay : Payload) (ts : Bool) : Strand :=
  let st := if st.opensWindow pay ts then st.openWindow else st
  let st := st.makeRoom q 1
  if pay.carries then st.makeRoom .D 1 else st

/-- An engine word is enqueued, or waits for space; in a re-execution its retained entry stands in for it (R240). -/
def State.enqueue (s : State) (q : EngineQ) (pay : Payload) (tok : BitVec 4) (g : Nat) (ts : Bool) (n : Nat) : WRes :=
  let w : Enqueued := ⟨s.st.pc, [(q, pay)], s.st.repIdx⟩
  if s.st.again then .ok (s.enqueuedAgain w n)
  else if s.st.opensWindow pay ts && s.st.awaiting then .wait .interlock
  else
    let st := s.st.forEnqueue q pay ts
    if st.room q 1 && (!pay.carries || st.room .D 1) then
      .ok (State.advance { s with st := (st.put q (st.command pay tok g ts)).noteWord w } n)
    else .wait .queueFull

/-! ### LOOPB shares at a queue head (R201-R203) -/

/-- The number of a queue in completion keys. -/
def queueNum : EngineQ → Nat
  | .V => 0
  | .D => 1
  | .C => 2

/-- Completed iterations of an outer share, and of a nested share in an outer iteration. -/
def outerKey (id : Nat) (q : EngineQ) : Nat := id * 2 ^ 33 * 4 + queueNum q
def innerKey (id iter : Nat) (q : EngineQ) : Nat := (id * 2 ^ 33 + iter + 1) * 4 + queueNum q

def Strand.loopCount (st : Strand) (k : Nat) : Nat := SMap.get 0 st.loopDone k

/-- One more iteration of a share is complete. -/
def Strand.bumpLoop (st : Strand) (k : Nat) : Strand := { st with loopDone := SMap.set 0 st.loopDone k (st.loopCount k + 1) }

/-- The places in a LOOPB of the V commands whose results are still under way or that stand at the queue again. -/
def Strand.vOpen (st : Strand) : List LoopAt :=
  ((st.flights.filter fun f => !f.over).map fun f => f.cmd.lp) ++
    (st.vq.cur.toList ++ st.vq.items.filterMap fun i => match i with | .cmd c => some c | .outer _ => none).map (·.lp)

/-- Iterations of an outer share that a queue has completed (R202): of V, those whose commands have left stage 5. -/
def Strand.outerDone (st : Strand) (id : Nat) (q : EngineQ) : Nat :=
  let n := st.loopCount (outerKey id q)
  if q != .V then n else (st.vOpen.filter fun a => a.loop == id).foldl (fun m a => min m a.iter) n

/-- Iterations of a nested share that a queue has completed in an outer iteration (R203). -/
def Strand.innerDone (st : Strand) (id iter : Nat) (q : EngineQ) : Nat :=
  let n := st.loopCount (innerKey id iter q)
  if q != .V then n else (st.vOpen.filter fun a => a.sub == id && a.iter == iter).foldl (fun m a => min m a.inner) n

/-- R202: the previous queue has completed min(skew, count) iterations. -/
def skewMet (done skew count : Nat) : Bool := decide (min skew count ≤ done)

/-- A share at the start of an iteration. -/
def BodyItem.fresh : BodyItem → BodyItem
  | .cmd c => .cmd c
  | .inner i => .inner { i with todo := i.cmds, iter := 0 }

/-- R100, R198: a command comes to the head; the count of its token wait begins once its guard is resolved. -/
def Strand.toHead (st : Strand) (q : EngineQ) (c : Cmd) (items : List Item) : Strand :=
  st.setQueue q { st.queue q with cur := some { c with since := 2 ^ 64 }, items := items }

/-- One move at an empty head: the next command comes to it, or a share passes to its next iteration or ends. -/
def Strand.headUp1 (st : Strand) (q : EngineQ) : Strand :=
  let v := st.queue q
  match v.cur, v.items with
  | some _, _ => st
  | none, [] => st
  | none, .cmd c :: t => st.toHead q c t
  | none, .outer o :: t =>
    let atStart : Bool := o.iter == 0 && o.todo.length == o.body.length
    let held : Bool := atStart && !skewMet (st.outerDone o.id (prevQueue q)) o.skew o.count
    match o.todo with
    | [] =>
      let st := st.bumpLoop (outerKey o.id q)
      let rest : List Item := if o.iter + 1 < o.count then .outer { o with todo := o.body.map BodyItem.fresh, iter := o.iter + 1 } :: t else t
      st.setQueue q { st.queue q with items := rest }
    | .cmd c :: r => if held then st else st.toHead q { c with lp := ⟨o.id, o.iter, 0, 0⟩, idx := o.iter % 16 } (.outer { o with todo := r } :: t)
    | .inner i :: r =>
      match i.todo with
      | [] =>
        let st := st.bumpLoop (innerKey i.id o.iter q)
        let todo : List BodyItem := if i.iter + 1 < i.count then .inner { i with todo := i.cmds, iter := i.iter + 1 } :: r else r
        st.setQueue q { st.queue q with items := .outer { o with todo := todo } :: t }
      | c :: u =>
        let innerHeld : Bool := i.iter == 0 && u.length + 1 == i.cmds.length && !skewMet (st.innerDone i.id o.iter (prevQueue q)) i.skew i.count
        if held || innerHeld then st
        else st.toHead q { c with lp := ⟨o.id, o.iter, i.id, i.iter⟩, idx := o.iter % 16 } (.outer { o with todo := .inner { i with todo := u } :: r } :: t)

/-- The head is filled: a share that ends a nested and an outer iteration at once takes four moves at most. -/
def Strand.headUp (st : Strand) (q : EngineQ) : Strand := (((st.headUp1 q).headUp1 q).headUp1 q).headUp1 q

/-! ### The stages of a command at the head (R196) -/

/-- Whether the run of a command comes before another's in the strand's stream: by enqueue order, and in one LOOPB by
iteration first (R201, R203). -/
def Cmd.precedes (a b : Cmd) : Bool :=
  if a.lp.loop == 0 || a.lp.loop != b.lp.loop then decide (a.seq < b.seq)
  else if a.lp.iter != b.lp.iter then decide (a.lp.iter < b.lp.iter)
  else if a.lp.sub != 0 && a.lp.sub == b.lp.sub && a.lp.inner != b.lp.inner then decide (a.lp.inner < b.lp.inner)
  else decide (a.seq < b.seq)

/-- R230: a QFENCE enqueued before it, whose mask names its queue, holds a command. -/
def Strand.fencedOff (st : Strand) (q : EngineQ) (c : Cmd) : Bool :=
  let bit := match q with | .V => 4 | .D => 2 | .C => 1
  q != .C && st.cq.nexts.any fun f => !f.done && !f.dropped && f.precedes c && match f.pay with
    | .c (.qfence m _) _ => decide (m / bit % 2 = 1) && st.judge f.guard != some false
    | _ => false

/-- What the head of a queue comes to: nothing, a wait, a command to perform, or one to discard. -/
inductive HeadAct where
  | idle
  | hold
  | lacks (t : Tok)
  | perform (c : Cmd)
  | discard (c : Cmd)
deriving DecidableEq, Repr

/-- R241: after a rollback the retained D and C commands are performed in the order of the first time. -/
def Strand.outOfTurn (st : Strand) (q : EngineQ) : Bool := match st.replay with | x :: _ => q != .V && x != q | [] => false

/-- A queue that performs nothing now: its strand is parked, saved or gone, stands at its boundary for the press (R175), a fault
has stopped it, or a rollback holds the strand (R238). -/
def Strand.queueOff (st : Strand) (q : EngineQ) : Bool :=
  !st.live || st.park.isSome || st.saving || (st.saveReq && st.boundary) || (st.queue q).stopped || st.rollback.isSome || st.outOfTurn q

/-- The head command replaced. -/
def Strand.setHead (st : Strand) (q : EngineQ) (c : Cmd) : Strand := st.setQueue q { st.queue q with cur := some c }

/-- Stages 1 to 3: guard, token waits, which take no token posted in this cycle (R197), and whether the command is discarded. -/
def Strand.stage (st : Strand) (q : EngineQ) : Strand × HeadAct :=
  let st := st.headUp q
  match (st.queue q).cur with
  | none => (st, .idle)
  | some c =>
    if st.queueOff q || c.begun || c.done then (st, .hold)
    else
      match st.judge c.guard with
      | none => (st, .hold)
      | some t =>
        if st.fencedOff q c then (st, .hold)
        else if c.waited then (st, if t && !c.dropped then .perform c else .discard c)
        else
          let c := if c.since == 2 ^ 64 then { c with since := st.cyc } else c
          match (c.waits q).find? (fun k => st.ripe k == 0) with
          | some k => (st.setHead q c, .lacks k)
          | none =>
            let tok := (c.waits q).foldl (fun t k => t.put k (t.get k - 1)) st.tok
            let st : Strand := { st with tok := tok, wake := st.wake || !(c.waits q).isEmpty }
            let c := { c with waited := true, tok := c.tok &&& 3, since := st.cyc }
            let st := (st.setHead q c).closeByGuard c
            (st, if t && !c.dropped then .perform c else .discard c)

/-- Stage 5 for a set of post bits: each post whose counter is below 15 is made; the bits left. -/
def Strand.post (st : Strand) (q : EngineQ) (bits : BitVec 4) : Strand × BitVec 4 :=
  let one (st : Strand) (bits : BitVec 4) (i : Nat) (k : Tok) : Strand × BitVec 4 :=
    if bits.getLsbD i && decide (st.tok.get k < 15) then
      (st.posted k 1, bits &&& ~~~(BitVec.ofNat 4 (2 ^ i)))
    else (st, bits)
  let r := one st (bits &&& 3) 1 (postToks q).1
  one r.1 r.2 0 (postToks q).2

/-- A command of the window, whose entry it keeps. -/
def Strand.inWindow (st : Strand) (c : Cmd) : Bool := match st.win with | some w => decide (w.startSeq ≤ c.seq) | none => false

/-- The head leaves a D or C queue; a window keeps it (R237). -/
def Strand.retire (st : Strand) (q : EngineQ) (c : Cmd) : Strand :=
  let v := st.queue q
  st.setQueue q { v with cur := none, retained := if st.inWindow c then v.retained ++ [c.kept] else v.retained }

/-- What a save keeps outside a range of offsets. -/
def TileSave.without (u : TileSave) (lo hi : Nat) : List TileSave :=
  (if u.off < min lo (u.off + u.n) then [{ u with n := min lo (u.off + u.n) - u.off }] else []) ++
    (if max hi u.off < u.off + u.n then [{ u with off := max hi u.off, n := u.off + u.n - max hi u.off }] else [])

/-- R241: the tile of a command performed again holds what it wrote. -/
def Strand.unshadow (st : Strand) (c : Cmd) : Strand :=
  match c.pay.fills with
  | none => st
  | some t =>
    let e := st.tile t
    { st with shadow := (st.shadow.map fun u => u.without (64 * e.base) (64 * (e.base + e.len))).flatten }

/-- A D or C command has been performed: a replay has one fewer to perform, and with the last of them the shadow of the tiles goes; else
the window notes its place in the order (R241). -/
def Strand.noteDone (st : Strand) (q : EngineQ) (c : Cmd) : Strand :=
  if c.done then st
  else
    match st.replay with
    | _ :: t => { st.unshadow c with replay := t, shadow := if t.isEmpty then [] else (st.unshadow c).shadow }
    | [] => { st with win := if st.inWindow c then st.win.map fun w => { w with order := w.order ++ [q] } else st.win }

/-- A D or C command is performed or discarded: its posts, and the queue advances once all are made. -/
def Strand.finishHead (st : Strand) (q : EngineQ) (c : Cmd) : Strand :=
  let r := (st.noteDone q c).post q c.tok
  if r.2 == 0 then r.1.retire q c else r.1.setHead q { c with tok := r.2, begun := false, done := true }

/-- The posts of a finished head are tried again. -/
def Strand.retryPosts (st : Strand) (q : EngineQ) : Strand :=
  match (st.queue q).cur with
  | some c => if c.done then st.finishHead q c else st
  | none => st

/-- An engine fault of the head (R165): the queue stops and the fault is pending. -/
def Strand.faultHead (st : Strand) (q : EngineQ) (c : Cmd) (code : Nat) (trec2 : Word) : Strand :=
  (st.setQueue q { st.queue q with stopped := true, cur := some { c with begun := false } }).addPend
    ⟨code, queueSrc q, 0, c.addr, trec2, c.repk, c.seq, c.lp, false⟩

/-- An engine fault with its entry in the violation log (R433). -/
def State.engineFault (s : State) (q : EngineQ) (c : Cmd) (code : Nat) (trec2 : Word) (version : Nat) : State :=
  State.logRaised { s with st := s.st.faultHead q c code trec2 } code trec2 version

/-- TOKEN_WATCHDOG (R198): a head that has waited at stage 2 for the watchdog interval raises 0x0E; no token is taken. -/
def execTokenWatchdog (q : EngineQ) (s : State) : Host.Outcome State Fault Refusal :=
  let r := s.st.stage q
  match r.2 with
  | .lacks t =>
    (match (r.1.queue q).cur with
     | some c =>
       .next (if c.since != 2 ^ 64 && decide (c.since + Config.watchdog ≤ r.1.cyc) then
         State.engineFault { s with st := r.1 } q c 0x0E (word (tokNum t)) 0 else { s with st := r.1 })
     | none => .next { s with st := r.1 })
  | _ => .next s

/-- LOOPB_ITERATION (R201): a share whose iteration is complete passes to its next one or ends. -/
def execLoopbIteration (q : EngineQ) (s : State) : Host.Outcome State Fault Refusal :=
  .next { s with st := if (s.st.queue q).cur.isNone && s.st.live then s.st.headUp1 q else s.st }

end Sys2Proof.Machine
end

