-- ==== Sys2Proof/Machine/Words.lean ====
section
/-! DEFINITION. The engine words (Tables 2.5-2.7): what each puts into its queue, with the operands it captures (R45, R49,
R195), and the meaning of each word at the sequencer: its enqueue. -/

namespace Sys2Proof.Machine

/-- What a word enqueues: queue, payload, token bits, guard slot, TS, and the bytes of the word with its dependent
word. -/
structure EngineWord where
  q : EngineQ
  pay : Payload
  tok : BitVec 4
  g : Nat
  ts : Bool
  n : Nat
deriving DecidableEq, Repr

/-- R20: the number of the binding that a stream name stands for. -/
def Strand.bindNo (st : Strand) (q : Nat) : Nat := st.qbinds.getD q 0

/-- The D words (Table 2.6). -/
def dotWord : Instr → Option EngineWord
  | .tcfg t x g h k => some ⟨.D, .d (.tcfg h.toNat k.toNat), t, g.toNat, x == 1, 4⟩
  | .tzero t x g a => some ⟨.D, .d (.tzero a.toNat), t, g.toNat, x == 1, 4⟩
  | .dot t x g c a b s => some ⟨.D, .d (.dot c.toNat a.toNat b.toNat s.toNat), t, g.toNat, x == 1, 4⟩
  | .dotc t x g c a z b s => some ⟨.D, .d (.dotc c.toNat a.toNat z.toNat b.toNat s.toNat), t, g.toNat, x == 1, 4⟩
  | .sbppt t x g p w r => some ⟨.D, .d (.sbppt p.toNat w.toNat r.toNat), t, g.toNat, x == 1, 4⟩
  | .sbpsc t x g p a s => some ⟨.D, .d (.sbpsc p.toNat a.toNat s.toNat), t, g.toNat, x == 1, 4⟩
  | .sbpma t x g c p r => some ⟨.D, .d (.sbpma c.toNat p.toNat r.toNat), t, g.toNat, x == 1, 4⟩
  | .sbpd t x g c w a s => some ⟨.D, .d (.sbpd c.toNat w.toNat a.toNat s.toNat), t, g.toNat, x == 1, 4⟩
  | .tout t x g c a f e => some ⟨.D, .d (.tout c.toNat a.toNat f.toNat e.toNat), t, g.toNat, x == 1, 4⟩
  | .tin t x g c a f => some ⟨.D, .d (.tin c.toNat a.toNat f.toNat), t, g.toNat, x == 1, 4⟩
  | .fmtw t x g n a b o c => some ⟨.D, .d (.fmtw n.toNat (a ++ b ++ o ++ c)), t, g.toNat, x == 1, 4⟩
  | _ => none

/-- R50: a carried word with its guard generation, captured at its owner's enqueue; its address is the word after. -/
def Strand.carried (st : Strand) (f : Option W32) : Option Carried :=
  match f with
  | none => none
  | some w =>
    match decode w 0 with
    | .error _ => none
    | .ok i =>
      match dotWord i with
      | some ⟨_, .d op, tok, g, ts, _⟩ => some ⟨op, st.pc + 4, tok, ts, st.capture g⟩
      | _ => none

/-- The V words (Table 2.5). -/
def Strand.vectorWord (st : Strand) : Instr → Option EngineWord
  | .vadd t c d a b l y => some ⟨.V, .v ⟨.add, condPred c, y.toNat, l.toNat, st.vdst d, st.vsrc a, st.vsrc b, 0, 0, 0⟩, t, condGuard c, false, 4⟩
  | .vaddBcast t c d a s => some ⟨.V, .v ⟨.add, condPred c, 2, 0, st.vdst d, st.vsrc a, .bcast (st.bsrc s), 0, 0, 0⟩, t, condGuard c, false, bcastBytes s⟩
  | .vsub t c d a b l y => some ⟨.V, .v ⟨.sub, condPred c, y.toNat, l.toNat, st.vdst d, st.vsrc a, st.vsrc b, 0, 0, 0⟩, t, condGuard c, false, 4⟩
  | .vsubBcast t c d a s => some ⟨.V, .v ⟨.sub, condPred c, 2, 0, st.vdst d, st.vsrc a, .bcast (st.bsrc s), 0, 0, 0⟩, t, condGuard c, false, bcastBytes s⟩
  | .vmul t c d a b l y => some ⟨.V, .v ⟨.mul, condPred c, y.toNat, l.toNat, st.vdst d, st.vsrc a, st.vsrc b, 0, 0, 0⟩, t, condGuard c, false, 4⟩
  | .vmulBcast t c d a s => some ⟨.V, .v ⟨.mul, condPred c, 2, 0, st.vdst d, st.vsrc a, .bcast (st.bsrc s), 0, 0, 0⟩, t, condGuard c, false, bcastBytes s⟩
  | .vmulh t c d a b l y => some ⟨.V, .v ⟨.mulh, condPred c, y.toNat, l.toNat, st.vdst d, st.vsrc a, st.vsrc b, 0, 0, 0⟩, t, condGuard c, false, 4⟩
  | .vmulhBcast t c d a s => some ⟨.V, .v ⟨.mulh, condPred c, 2, 0, st.vdst d, st.vsrc a, .bcast (st.bsrc s), 0, 0, 0⟩, t, condGuard c, false, bcastBytes s⟩
  | .vmulhn t c d a b l y => some ⟨.V, .v ⟨.mulhn, condPred c, y.toNat, l.toNat, st.vdst d, st.vsrc a, st.vsrc b, 0, 0, 0⟩, t, condGuard c, false, 4⟩
  | .vmulhnBcast t c d a s => some ⟨.V, .v ⟨.mulhn, condPred c, 2, 0, st.vdst d, st.vsrc a, .bcast (st.bsrc s), 0, 0, 0⟩, t, condGuard c, false, bcastBytes s⟩
  | .vmad t c d a b l y => some ⟨.V, .v ⟨.mad, condPred c, y.toNat, l.toNat, st.vdst d, st.vsrc a, st.vsrc b, 0, 0, 0⟩, t, condGuard c, false, 4⟩
  | .vmadBcast t c d a s => some ⟨.V, .v ⟨.mad, condPred c, 2, 0, st.vdst d, st.vsrc a, .bcast (st.bsrc s), 0, 0, 0⟩, t, condGuard c, false, bcastBytes s⟩
  | .vadds t c d a b l y => some ⟨.V, .v ⟨.adds, condPred c, y.toNat, l.toNat, st.vdst d, st.vsrc a, st.vsrc b, 0, 0, 0⟩, t, condGuard c, false, 4⟩
  | .vaddsBcast t c d a s => some ⟨.V, .v ⟨.adds, condPred c, 2, 0, st.vdst d, st.vsrc a, .bcast (st.bsrc s), 0, 0, 0⟩, t, condGuard c, false, bcastBytes s⟩
  | .vsubs t c d a b l y => some ⟨.V, .v ⟨.subs, condPred c, y.toNat, l.toNat, st.vdst d, st.vsrc a, st.vsrc b, 0, 0, 0⟩, t, condGuard c, false, 4⟩
  | .vsubsBcast t c d a s => some ⟨.V, .v ⟨.subs, condPred c, 2, 0, st.vdst d, st.vsrc a, .bcast (st.bsrc s), 0, 0, 0⟩, t, condGuard c, false, bcastBytes s⟩
  | .vaddsn t c d a b l y => some ⟨.V, .v ⟨.addsn, condPred c, y.toNat, l.toNat, st.vdst d, st.vsrc a, st.vsrc b, 0, 0, 0⟩, t, condGuard c, false, 4⟩
  | .vaddsnBcast t c d a s => some ⟨.V, .v ⟨.addsn, condPred c, 2, 0, st.vdst d, st.vsrc a, .bcast (st.bsrc s), 0, 0, 0⟩, t, condGuard c, false, bcastBytes s⟩
  | .vsubsn t c d a b l y => some ⟨.V, .v ⟨.subsn, condPred c, y.toNat, l.toNat, st.vdst d, st.vsrc a, st.vsrc b, 0, 0, 0⟩, t, condGuard c, false, 4⟩
  | .vsubsnBcast t c d a s => some ⟨.V, .v ⟨.subsn, condPred c, 2, 0, st.vdst d, st.vsrc a, .bcast (st.bsrc s), 0, 0, 0⟩, t, condGuard c, false, bcastBytes s⟩
  | .vmin t c d a b l y => some ⟨.V, .v ⟨.min, condPred c, y.toNat, l.toNat, st.vdst d, st.vsrc a, st.vsrc b, 0, 0, 0⟩, t, condGuard c, false, 4⟩
  | .vminBcast t c d a s => some ⟨.V, .v ⟨.min, condPred c, 2, 0, st.vdst d, st.vsrc a, .bcast (st.bsrc s), 0, 0, 0⟩, t, condGuard c, false, bcastBytes s⟩
  | .vmax t c d a b l y => some ⟨.V, .v ⟨.max, condPred c, y.toNat, l.toNat, st.vdst d, st.vsrc a, st.vsrc b, 0, 0, 0⟩, t, condGuard c, false, 4⟩
  | .vmaxBcast t c d a s => some ⟨.V, .v ⟨.max, condPred c, 2, 0, st.vdst d, st.vsrc a, .bcast (st.bsrc s), 0, 0, 0⟩, t, condGuard c, false, bcastBytes s⟩
  | .vminn t c d a b l y => some ⟨.V, .v ⟨.minn, condPred c, y.toNat, l.toNat, st.vdst d, st.vsrc a, st.vsrc b, 0, 0, 0⟩, t, condGuard c, false, 4⟩
  | .vminnBcast t c d a s => some ⟨.V, .v ⟨.minn, condPred c, 2, 0, st.vdst d, st.vsrc a, .bcast (st.bsrc s), 0, 0, 0⟩, t, condGuard c, false, bcastBytes s⟩
  | .vmaxn t c d a b l y => some ⟨.V, .v ⟨.maxn, condPred c, y.toNat, l.toNat, st.vdst d, st.vsrc a, st.vsrc b, 0, 0, 0⟩, t, condGuard c, false, 4⟩
  | .vmaxnBcast t c d a s => some ⟨.V, .v ⟨.maxn, condPred c, 2, 0, st.vdst d, st.vsrc a, .bcast (st.bsrc s), 0, 0, 0⟩, t, condGuard c, false, bcastBytes s⟩
  | .vabs t c d a l y => some ⟨.V, .v ⟨.abs, condPred c, y.toNat, l.toNat, st.vdst d, st.vsrc a, .none, 0, 0, 0⟩, t, condGuard c, false, 4⟩
  | .vand t c d a b l y => some ⟨.V, .v ⟨.and, condPred c, y.toNat, l.toNat, st.vdst d, st.vsrc a, st.vsrc b, 0, 0, 0⟩, t, condGuard c, false, 4⟩
  | .vandBcast t c d a s => some ⟨.V, .v ⟨.and, condPred c, 2, 0, st.vdst d, st.vsrc a, .bcast (st.bsrc s), 0, 0, 0⟩, t, condGuard c, false, bcastBytes s⟩
  | .vor t c d a b l y => some ⟨.V, .v ⟨.or, condPred c, y.toNat, l.toNat, st.vdst d, st.vsrc a, st.vsrc b, 0, 0, 0⟩, t, condGuard c, false, 4⟩
  | .vorBcast t c d a s => some ⟨.V, .v ⟨.or, condPred c, 2, 0, st.vdst d, st.vsrc a, .bcast (st.bsrc s), 0, 0, 0⟩, t, condGuard c, false, bcastBytes s⟩
  | .vxor t c d a b l y => some ⟨.V, .v ⟨.xor, condPred c, y.toNat, l.toNat, st.vdst d, st.vsrc a, st.vsrc b, 0, 0, 0⟩, t, condGuard c, false, 4⟩
  | .vxorBcast t c d a s => some ⟨.V, .v ⟨.xor, condPred c, 2, 0, st.vdst d, st.vsrc a, .bcast (st.bsrc s), 0, 0, 0⟩, t, condGuard c, false, bcastBytes s⟩
  | .vandn t c d a b l y => some ⟨.V, .v ⟨.andn, condPred c, y.toNat, l.toNat, st.vdst d, st.vsrc a, st.vsrc b, 0, 0, 0⟩, t, condGuard c, false, 4⟩
  | .vandnBcast t c d a s => some ⟨.V, .v ⟨.andn, condPred c, 2, 0, st.vdst d, st.vsrc a, .bcast (st.bsrc s), 0, 0, 0⟩, t, condGuard c, false, bcastBytes s⟩
  | .vshl t c d a b l y => some ⟨.V, .v ⟨.shl, condPred c, y.toNat, l.toNat, st.vdst d, st.vsrc a, st.vsrc b, 0, 0, 0⟩, t, condGuard c, false, 4⟩
  | .vshlBcast t c d a s => some ⟨.V, .v ⟨.shl, condPred c, 2, 0, st.vdst d, st.vsrc a, .bcast (st.bsrc s), 0, 0, 0⟩, t, condGuard c, false, bcastBytes s⟩
  | .vshr t c d a b l y => some ⟨.V, .v ⟨.shr, condPred c, y.toNat, l.toNat, st.vdst d, st.vsrc a, st.vsrc b, 0, 0, 0⟩, t, condGuard c, false, 4⟩
  | .vshrBcast t c d a s => some ⟨.V, .v ⟨.shr, condPred c, 2, 0, st.vdst d, st.vsrc a, .bcast (st.bsrc s), 0, 0, 0⟩, t, condGuard c, false, bcastBytes s⟩
  | .vsra t c d a b l y => some ⟨.V, .v ⟨.sra, condPred c, y.toNat, l.toNat, st.vdst d, st.vsrc a, st.vsrc b, 0, 0, 0⟩, t, condGuard c, false, 4⟩
  | .vsraBcast t c d a s => some ⟨.V, .v ⟨.sra, condPred c, 2, 0, st.vdst d, st.vsrc a, .bcast (st.bsrc s), 0, 0, 0⟩, t, condGuard c, false, bcastBytes s⟩
  | .vclz t c d a l y => some ⟨.V, .v ⟨.clz, condPred c, y.toNat, l.toNat, st.vdst d, st.vsrc a, .none, 0, 0, 0⟩, t, condGuard c, false, 4⟩
  | .vpopc t c d a l y => some ⟨.V, .v ⟨.popc, condPred c, y.toNat, l.toNat, st.vdst d, st.vsrc a, .none, 0, 0, 0⟩, t, condGuard c, false, 4⟩
  | .vcmp t c d a b l y => some ⟨.V, .v ⟨.cmp, condPred c, y.toNat, l.toNat, .pred d.toNat, st.vsrc a, st.vsrc b, 0, 0, 0⟩, t, condGuard c, false, 4⟩
  | .vcmpn t c d a b l y => some ⟨.V, .v ⟨.cmpn, condPred c, y.toNat, l.toNat, .pred d.toNat, st.vsrc a, st.vsrc b, 0, 0, 0⟩, t, condGuard c, false, 4⟩
  | .fadd t c d a b l y => some ⟨.V, .v ⟨.fadd, condPred c, y.toNat, l.toNat, st.vdst d, st.vsrc a, st.vsrc b, 0, 0, 0⟩, t, condGuard c, false, 4⟩
  | .faddBcast t c d a s => some ⟨.V, .v ⟨.fadd, condPred c, 0, 0, st.vdst d, st.vsrc a, .bcast (st.bsrc s), 0, 0, 0⟩, t, condGuard c, false, bcastBytes s⟩
  | .fsub t c d a b l y => some ⟨.V, .v ⟨.fsub, condPred c, y.toNat, l.toNat, st.vdst d, st.vsrc a, st.vsrc b, 0, 0, 0⟩, t, condGuard c, false, 4⟩
  | .fsubBcast t c d a s => some ⟨.V, .v ⟨.fsub, condPred c, 0, 0, st.vdst d, st.vsrc a, .bcast (st.bsrc s), 0, 0, 0⟩, t, condGuard c, false, bcastBytes s⟩
  | .fmul t c d a b l y => some ⟨.V, .v ⟨.fmul, condPred c, y.toNat, l.toNat, st.vdst d, st.vsrc a, st.vsrc b, 0, 0, 0⟩, t, condGuard c, false, 4⟩
  | .fmulBcast t c d a s => some ⟨.V, .v ⟨.fmul, condPred c, 0, 0, st.vdst d, st.vsrc a, .bcast (st.bsrc s), 0, 0, 0⟩, t, condGuard c, false, bcastBytes s⟩
  | .ffma t c d a b l y => some ⟨.V, .v ⟨.ffma, condPred c, y.toNat, l.toNat, st.vdst d, st.vsrc a, st.vsrc b, 0, 0, 0⟩, t, condGuard c, false, 4⟩
  | .ffmaBcast t c d a s => some ⟨.V, .v ⟨.ffma, condPred c, 0, 0, st.vdst d, st.vsrc a, .bcast (st.bsrc s), 0, 0, 0⟩, t, condGuard c, false, bcastBytes s⟩
  | .ffms t c d a b l y => some ⟨.V, .v ⟨.ffms, condPred c, y.toNat, l.toNat, st.vdst d, st.vsrc a, st.vsrc b, 0, 0, 0⟩, t, condGuard c, false, 4⟩
  | .ffmsBcast t c d a s => some ⟨.V, .v ⟨.ffms, condPred c, 0, 0, st.vdst d, st.vsrc a, .bcast (st.bsrc s), 0, 0, 0⟩, t, condGuard c, false, bcastBytes s⟩
  | .fmin t c d a b l y => some ⟨.V, .v ⟨.fmin, condPred c, y.toNat, l.toNat, st.vdst d, st.vsrc a, st.vsrc b, 0, 0, 0⟩, t, condGuard c, false, 4⟩
  | .fminBcast t c d a s => some ⟨.V, .v ⟨.fmin, condPred c, 0, 0, st.vdst d, st.vsrc a, .bcast (st.bsrc s), 0, 0, 0⟩, t, condGuard c, false, bcastBytes s⟩
  | .fmax t c d a b l y => some ⟨.V, .v ⟨.fmax, condPred c, y.toNat, l.toNat, st.vdst d, st.vsrc a, st.vsrc b, 0, 0, 0⟩, t, condGuard c, false, 4⟩
  | .fmaxBcast t c d a s => some ⟨.V, .v ⟨.fmax, condPred c, 0, 0, st.vdst d, st.vsrc a, .bcast (st.bsrc s), 0, 0, 0⟩, t, condGuard c, false, bcastBytes s⟩
  | .fabs t c d a l y => some ⟨.V, .v ⟨.fabs, condPred c, y.toNat, l.toNat, st.vdst d, st.vsrc a, .none, 0, 0, 0⟩, t, condGuard c, false, 4⟩
  | .fneg t c d a l y => some ⟨.V, .v ⟨.fneg, condPred c, y.toNat, l.toNat, st.vdst d, st.vsrc a, .none, 0, 0, 0⟩, t, condGuard c, false, 4⟩
  | .frcp t c d a l y => some ⟨.V, .v ⟨.frcp, condPred c, y.toNat, l.toNat, st.vdst d, st.vsrc a, .none, 0, 0, 0⟩, t, condGuard c, false, 4⟩
  | .frsq t c d a l y => some ⟨.V, .v ⟨.frsq, condPred c, y.toNat, l.toNat, st.vdst d, st.vsrc a, .none, 0, 0, 0⟩, t, condGuard c, false, 4⟩
  | .fexp2 t c d a l y => some ⟨.V, .v ⟨.fexp2, condPred c, y.toNat, l.toNat, st.vdst d, st.vsrc a, .none, 0, 0, 0⟩, t, condGuard c, false, 4⟩
  | .flog2 t c d a l y => some ⟨.V, .v ⟨.flog2, condPred c, y.toNat, l.toNat, st.vdst d, st.vsrc a, .none, 0, 0, 0⟩, t, condGuard c, false, 4⟩
  | .fcmp t c d a b l y => some ⟨.V, .v ⟨.fcmp, condPred c, y.toNat, l.toNat, .pred d.toNat, st.vsrc a, st.vsrc b, 0, 0, 0⟩, t, condGuard c, false, 4⟩
  | .fclass t c d a l y => some ⟨.V, .v ⟨.fclass, condPred c, y.toNat, l.toNat, st.vdst d, st.vsrc a, .none, 0, 0, 0⟩, t, condGuard c, false, 4⟩
  | .vcvt t c d a b l => some ⟨.V, .v ⟨.cvt, condPred c, 0, l.toNat, st.vdst d, st.vsrc a, .none, 0, b.toNat, 0⟩, t, condGuard c, false, 4⟩
  | .vscale t c d a b l y => some ⟨.V, .v ⟨.scale, condPred c, y.toNat, l.toNat, st.vdst d, st.vsrc a, st.vsrc b, 0, 0, 0⟩, t, condGuard c, false, 4⟩
  | .vqpack t c d a b l => some ⟨.V, .v ⟨.qpack, condPred c, 0, l.toNat, st.vdst d, st.vsrc a, .none, 0, b.toNat, 0⟩, t, condGuard c, false, 4⟩
  | .vqunpk t c d a b l => some ⟨.V, .v ⟨.qunpk, condPred c, 0, l.toNat, st.vdst d, st.vsrc a, .none, 0, b.toNat, 0⟩, t, condGuard c, false, 4⟩
  | .vsel t c d a b l => some ⟨.V, .v ⟨.sel, condPred c, 0, l.toNat, st.vdst d, st.vsrc a, .none, 0, b.toNat, 0⟩, t, condGuard c, false, 4⟩
  | .vperm t c d a b l y => some ⟨.V, .v ⟨.perm, condPred c, y.toNat, l.toNat, st.vdst d, st.vsrc a, st.vsrc b, 0, 0, 0⟩, t, condGuard c, false, 4⟩
  | .vbcasts t c d a b l => some ⟨.V, .v ⟨.bcasts, condPred c, 0, l.toNat, st.vdst d, st.vsrc a, .none, 0, b.toNat, 0⟩, t, condGuard c, false, 4⟩
  | .vredadd t c d a b l y => some ⟨.V, .v ⟨.redadd, condPred c, y.toNat, l.toNat, st.vdst d, st.vsrc a, .none, 0, b.toNat, 0⟩, t, condGuard c, false, 4⟩
  | .vredmax t c d a b l y => some ⟨.V, .v ⟨.redmax, condPred c, y.toNat, l.toNat, st.vdst d, st.vsrc a, .none, 0, b.toNat, 0⟩, t, condGuard c, false, 4⟩
  | .vshf t c d a b l => some ⟨.V, .v ⟨.shf, condPred c, 0, l.toNat, st.vdst d, st.vsrc a, .none, 0, b.toNat, 0⟩, t, condGuard c, false, 4⟩
  | .vxtr t c a b l => some ⟨.V, .v ⟨.xtr, condPred c, 0, l.toNat, .none, st.vsrc a, .none, 0, b.toNat, 0⟩, t, condGuard c, false, 4⟩
  | .plog t c d a b l => some ⟨.V, .v ⟨.plog, condPred c, 0, l.toNat, .pred d.toNat, .none, .none, a.toNat, b.toNat, 0⟩, t, condGuard c, false, 4⟩
  | .pset t c d a b l => some ⟨.V, .v ⟨.pset, condPred c, 0, l.toNat, .pred d.toNat, .none, .none, a.toNat, b.toNat, 0⟩, t, condGuard c, false, 4⟩
  | .ptst t c a => some ⟨.V, .v ⟨.ptst, condPred c, 0, 0, .none, .none, .none, a.toNat, 0, 0⟩, t, condGuard c, false, 4⟩
  | .tld t c d a b l => some ⟨.V, .v ⟨.tld, condPred c, 0, l.toNat, st.vdst d, .none, .none, 0, b.toNat, st.base a⟩, t, condGuard c, false, 4⟩
  | .tst t c d a b l => some ⟨.V, .v ⟨.tst, condPred c, 0, l.toNat, st.vdst d, .none, .none, 0, b.toNat, st.base a⟩, t, condGuard c, false, 4⟩
  | .tldx t c d a b l y => some ⟨.V, .v ⟨.tldx, condPred c, y.toNat, l.toNat, st.vdst d, .none, st.vsrc b, 0, 0, st.base a⟩, t, condGuard c, false, 4⟩
  | .tstx t c d a b l y => some ⟨.V, .v ⟨.tstx, condPred c, y.toNat, l.toNat, st.vdst d, .none, st.vsrc b, 0, 0, st.base a⟩, t, condGuard c, false, 4⟩
  | .gld t c d a b y => some ⟨.V, .v ⟨.gld, condPred c, y.toNat, 3, st.vdst d, .none, st.vsrc b, 0, 0, st.base a⟩, t, condGuard c, false, 4⟩
  | .gst t c d a b y => some ⟨.V, .v ⟨.gst, condPred c, y.toNat, 3, st.vdst d, .none, st.vsrc b, 0, 0, st.base a⟩, t, condGuard c, false, 4⟩
  | .gldp t c d a b y => some ⟨.V, .v ⟨.gldp, condPred c, y.toNat, 3, st.vdst d, .none, st.vsrc b, 0, 0, st.base a⟩, t, condGuard c, false, 4⟩
  | .gamoAdd t c d a b y => some ⟨.V, .v ⟨.gamo, condPred c, y.toNat, 0, st.vdst d, .none, st.vsrc b, 0, 0, st.base a⟩, t, condGuard c, false, 4⟩
  | .gamoMin t c d a b => some ⟨.V, .v ⟨.gamo, condPred c, 0, 1, st.vdst d, .none, st.vsrc b, 0, 0, st.base a⟩, t, condGuard c, false, 4⟩
  | .gamoMax t c d a b => some ⟨.V, .v ⟨.gamo, condPred c, 0, 2, st.vdst d, .none, st.vsrc b, 0, 0, st.base a⟩, t, condGuard c, false, 4⟩
  | .gamoSwap t c d a b => some ⟨.V, .v ⟨.gamo, condPred c, 0, 3, st.vdst d, .none, st.vsrc b, 0, 0, st.base a⟩, t, condGuard c, false, 4⟩
  | .vnop t c => some ⟨.V, .v ⟨.nop, condPred c, 0, 0, .none, .none, .none, 0, 0, 0⟩, t, condGuard c, false, 4⟩
  | .vfence t c => some ⟨.V, .v ⟨.fence, condPred c, 0, 0, .none, .none, .none, 0, 0, 0⟩, t, condGuard c, false, 4⟩
  | _ => none

/-- The C words (Table 2.7). -/
def Strand.copyWord (st : Strand) : Instr → Option EngineWord
  | .tdef t g l a => some ⟨.C, .c (.tdef l.toNat (st.base a)) none, t, g.toNat, false, 4⟩
  | .cpy t f g l a b d p => some ⟨.C, .c (.cpy l.toNat (st.base a) (st.base b) (d == 1) p.toNat) (st.carried f), t, g.toNat, false, (if f.isSome then 8 else 4)⟩
  | .cpyb t f g l a b p => some ⟨.C, .c (.cpyb l.toNat (st.base a) (st.base b) p.toNat) (st.carried f), t, g.toNat, false, (if f.isSome then 8 else 4)⟩
  | .cpyx t f g l a b => some ⟨.C, .c (.cpyx l.toNat (st.base a) (st.base b)) (st.carried f), t, g.toNat, false, (if f.isSome then 8 else 4)⟩
  | .cpyr t f g l a b d p => some ⟨.C, .c (.cpyr l.toNat (st.base a) (st.base b) (d == 1) p.toNat) (st.carried f), t, g.toNat, false, (if f.isSome then 8 else 4)⟩
  | .cpye t f g a b c h p d => some ⟨.C, .c (.cpye (st.base a) (st.base b) (st.base c) h.toNat p.toNat (d == 1)) (st.carried f), t, g.toNat, false, (if f.isSome then 8 else 4)⟩
  | .trel t g l => some ⟨.C, .c (.trel l.toNat) none, t, g.toNat, false, 4⟩
  | .qbind t g q a b c => some ⟨.C, .c (.qbind q.toNat (st.bindNo q.toNat + 1) (st.base a) (st.base b) (st.base c)) none, t, g.toNat, false, 4⟩
  | .qunb t g q => some ⟨.C, .c (.qunb q.toNat (st.bindNo q.toNat)) none, t, g.toNat, false, 4⟩
  | .qfence t g m s => some ⟨.C, .c (.qfence m.toNat s.toNat) none, t, g.toNat, false, 4⟩
  | _ => none

/-- What an engine word enqueues. -/
def Strand.engineWord (st : Strand) (i : Instr) : Option EngineWord :=
  match st.vectorWord i with
  | some w => some w
  | none =>
    match dotWord i with
    | some w => some w
    | none => st.copyWord i

/-- R20, R233: QBIND and QUNB take effect for the names at their enqueue. -/
def Strand.rename (st : Strand) (pay : Payload) : Strand :=
  match pay with
  | .c (.qbind q b _ _ _) _ => { st with qname := st.qname.set q true, qbinds := st.qbinds.set q b }
  | .c (.qunb q _) _ => { st with qname := st.qname.set q false }
  | _ => st

/-- An engine word at the sequencer: it is enqueued, or waits for space. -/
def State.enqueueWord (s : State) (i : Instr) : WRes :=
  match s.st.engineWord i with
  | none => flt 0x01 0
  | some w =>
    match s.enqueue w.q w.pay w.tok w.g w.ts w.n with
    | .ok t => .ok { t with st := t.st.rename w.pay }
    | r => r

/-! ### V words (chapter 5) -/

/-- VADD (R118). -/
def execVadd (t : BitVec 4) (c : BitVec 4) (d : BitVec 4) (a : BitVec 4) (b : BitVec 4) (l : BitVec 2) (y : BitVec 2) (s : State) : Host.Outcome State Fault Refusal :=
  finish s (s.enqueueWord (.vadd t c d a b l y))

/-- VADD_BCAST (R118). -/
def execVaddBcast (t : BitVec 4) (c : BitVec 4) (d : BitVec 4) (a : BitVec 4) (b' : BSrc) (s : State) : Host.Outcome State Fault Refusal :=
  finish s (s.enqueueWord (.vaddBcast t c d a b'))

/-- VSUB (R118). -/
def execVsub (t : BitVec 4) (c : BitVec 4) (d : BitVec 4) (a : BitVec 4) (b : BitVec 4) (l : BitVec 2) (y : BitVec 2) (s : State) : Host.Outcome State Fault Refusal :=
  finish s (s.enqueueWord (.vsub t c d a b l y))

/-- VSUB_BCAST (R118). -/
def execVsubBcast (t : BitVec 4) (c : BitVec 4) (d : BitVec 4) (a : BitVec 4) (b' : BSrc) (s : State) : Host.Outcome State Fault Refusal :=
  finish s (s.enqueueWord (.vsubBcast t c d a b'))

/-- VMUL (R118). -/
def execVmul (t : BitVec 4) (c : BitVec 4) (d : BitVec 4) (a : BitVec 4) (b : BitVec 4) (l : BitVec 2) (y : BitVec 2) (s : State) : Host.Outcome State Fault Refusal :=
  finish s (s.enqueueWord (.vmul t c d a b l y))

/-- VMUL_BCAST (R118). -/
def execVmulBcast (t : BitVec 4) (c : BitVec 4) (d : BitVec 4) (a : BitVec 4) (b' : BSrc) (s : State) : Host.Outcome State Fault Refusal :=
  finish s (s.enqueueWord (.vmulBcast t c d a b'))

/-- VMULH (R118). -/
def execVmulh (t : BitVec 4) (c : BitVec 4) (d : BitVec 4) (a : BitVec 4) (b : BitVec 4) (l : BitVec 2) (y : BitVec 2) (s : State) : Host.Outcome State Fault Refusal :=
  finish s (s.enqueueWord (.vmulh t c d a b l y))

/-- VMULH_BCAST (R118). -/
def execVmulhBcast (t : BitVec 4) (c : BitVec 4) (d : BitVec 4) (a : BitVec 4) (b' : BSrc) (s : State) : Host.Outcome State Fault Refusal :=
  finish s (s.enqueueWord (.vmulhBcast t c d a b'))

/-- VMULHN (R118). -/
def execVmulhn (t : BitVec 4) (c : BitVec 4) (d : BitVec 4) (a : BitVec 4) (b : BitVec 4) (l : BitVec 2) (y : BitVec 2) (s : State) : Host.Outcome State Fault Refusal :=
  finish s (s.enqueueWord (.vmulhn t c d a b l y))

/-- VMULHN_BCAST (R118). -/
def execVmulhnBcast (t : BitVec 4) (c : BitVec 4) (d : BitVec 4) (a : BitVec 4) (b' : BSrc) (s : State) : Host.Outcome State Fault Refusal :=
  finish s (s.enqueueWord (.vmulhnBcast t c d a b'))

/-- VMAD (R118). -/
def execVmad (t : BitVec 4) (c : BitVec 4) (d : BitVec 4) (a : BitVec 4) (b : BitVec 4) (l : BitVec 2) (y : BitVec 2) (s : State) : Host.Outcome State Fault Refusal :=
  finish s (s.enqueueWord (.vmad t c d a b l y))

/-- VMAD_BCAST (R118). -/
def execVmadBcast (t : BitVec 4) (c : BitVec 4) (d : BitVec 4) (a : BitVec 4) (b' : BSrc) (s : State) : Host.Outcome State Fault Refusal :=
  finish s (s.enqueueWord (.vmadBcast t c d a b'))

/-- VADDS (R118). -/
def execVadds (t : BitVec 4) (c : BitVec 4) (d : BitVec 4) (a : BitVec 4) (b : BitVec 4) (l : BitVec 2) (y : BitVec 2) (s : State) : Host.Outcome State Fault Refusal :=
  finish s (s.enqueueWord (.vadds t c d a b l y))

/-- VADDS_BCAST (R118). -/
def execVaddsBcast (t : BitVec 4) (c : BitVec 4) (d : BitVec 4) (a : BitVec 4) (b' : BSrc) (s : State) : Host.Outcome State Fault Refusal :=
  finish s (s.enqueueWord (.vaddsBcast t c d a b'))

/-- VSUBS (R118). -/
def execVsubs (t : BitVec 4) (c : BitVec 4) (d : BitVec 4) (a : BitVec 4) (b : BitVec 4) (l : BitVec 2) (y : BitVec 2) (s : State) : Host.Outcome State Fault Refusal :=
  finish s (s.enqueueWord (.vsubs t c d a b l y))

/-- VSUBS_BCAST (R118). -/
def execVsubsBcast (t : BitVec 4) (c : BitVec 4) (d : BitVec 4) (a : BitVec 4) (b' : BSrc) (s : State) : Host.Outcome State Fault Refusal :=
  finish s (s.enqueueWord (.vsubsBcast t c d a b'))

/-- VADDSN (R118). -/
def execVaddsn (t : BitVec 4) (c : BitVec 4) (d : BitVec 4) (a : BitVec 4) (b : BitVec 4) (l : BitVec 2) (y : BitVec 2) (s : State) : Host.Outcome State Fault Refusal :=
  finish s (s.enqueueWord (.vaddsn t c d a b l y))

/-- VADDSN_BCAST (R118). -/
def execVaddsnBcast (t : BitVec 4) (c : BitVec 4) (d : BitVec 4) (a : BitVec 4) (b' : BSrc) (s : State) : Host.Outcome State Fault Refusal :=
  finish s (s.enqueueWord (.vaddsnBcast t c d a b'))

/-- VSUBSN (R118). -/
def execVsubsn (t : BitVec 4) (c : BitVec 4) (d : BitVec 4) (a : BitVec 4) (b : BitVec 4) (l : BitVec 2) (y : BitVec 2) (s : State) : Host.Outcome State Fault Refusal :=
  finish s (s.enqueueWord (.vsubsn t c d a b l y))

/-- VSUBSN_BCAST (R118). -/
def execVsubsnBcast (t : BitVec 4) (c : BitVec 4) (d : BitVec 4) (a : BitVec 4) (b' : BSrc) (s : State) : Host.Outcome State Fault Refusal :=
  finish s (s.enqueueWord (.vsubsnBcast t c d a b'))

/-- VMIN (R118). -/
def execVmin (t : BitVec 4) (c : BitVec 4) (d : BitVec 4) (a : BitVec 4) (b : BitVec 4) (l : BitVec 2) (y : BitVec 2) (s : State) : Host.Outcome State Fault Refusal :=
  finish s (s.enqueueWord (.vmin t c d a b l y))

/-- VMIN_BCAST (R118). -/
def execVminBcast (t : BitVec 4) (c : BitVec 4) (d : BitVec 4) (a : BitVec 4) (b' : BSrc) (s : State) : Host.Outcome State Fault Refusal :=
  finish s (s.enqueueWord (.vminBcast t c d a b'))

/-- VMAX (R118). -/
def execVmax (t : BitVec 4) (c : BitVec 4) (d : BitVec 4) (a : BitVec 4) (b : BitVec 4) (l : BitVec 2) (y : BitVec 2) (s : State) : Host.Outcome State Fault Refusal :=
  finish s (s.enqueueWord (.vmax t c d a b l y))

/-- VMAX_BCAST (R118). -/
def execVmaxBcast (t : BitVec 4) (c : BitVec 4) (d : BitVec 4) (a : BitVec 4) (b' : BSrc) (s : State) : Host.Outcome State Fault Refusal :=
  finish s (s.enqueueWord (.vmaxBcast t c d a b'))

/-- VMINN (R118). -/
def execVminn (t : BitVec 4) (c : BitVec 4) (d : BitVec 4) (a : BitVec 4) (b : BitVec 4) (l : BitVec 2) (y : BitVec 2) (s : State) : Host.Outcome State Fault Refusal :=
  finish s (s.enqueueWord (.vminn t c d a b l y))

/-- VMINN_BCAST (R118). -/
def execVminnBcast (t : BitVec 4) (c : BitVec 4) (d : BitVec 4) (a : BitVec 4) (b' : BSrc) (s : State) : Host.Outcome State Fault Refusal :=
  finish s (s.enqueueWord (.vminnBcast t c d a b'))

/-- VMAXN (R118). -/
def execVmaxn (t : BitVec 4) (c : BitVec 4) (d : BitVec 4) (a : BitVec 4) (b : BitVec 4) (l : BitVec 2) (y : BitVec 2) (s : State) : Host.Outcome State Fault Refusal :=
  finish s (s.enqueueWord (.vmaxn t c d a b l y))

/-- VMAXN_BCAST (R118). -/
def execVmaxnBcast (t : BitVec 4) (c : BitVec 4) (d : BitVec 4) (a : BitVec 4) (b' : BSrc) (s : State) : Host.Outcome State Fault Refusal :=
  finish s (s.enqueueWord (.vmaxnBcast t c d a b'))

/-- VABS (R118). -/
def execVabs (t : BitVec 4) (c : BitVec 4) (d : BitVec 4) (a : BitVec 4) (l : BitVec 2) (y : BitVec 2) (s : State) : Host.Outcome State Fault Refusal :=
  finish s (s.enqueueWord (.vabs t c d a l y))

/-- VAND (R118). -/
def execVand (t : BitVec 4) (c : BitVec 4) (d : BitVec 4) (a : BitVec 4) (b : BitVec 4) (l : BitVec 2) (y : BitVec 2) (s : State) : Host.Outcome State Fault Refusal :=
  finish s (s.enqueueWord (.vand t c d a b l y))

/-- VAND_BCAST (R118). -/
def execVandBcast (t : BitVec 4) (c : BitVec 4) (d : BitVec 4) (a : BitVec 4) (b' : BSrc) (s : State) : Host.Outcome State Fault Refusal :=
  finish s (s.enqueueWord (.vandBcast t c d a b'))

/-- VOR (R118). -/
def execVor (t : BitVec 4) (c : BitVec 4) (d : BitVec 4) (a : BitVec 4) (b : BitVec 4) (l : BitVec 2) (y : BitVec 2) (s : State) : Host.Outcome State Fault Refusal :=
  finish s (s.enqueueWord (.vor t c d a b l y))

/-- VOR_BCAST (R118). -/
def execVorBcast (t : BitVec 4) (c : BitVec 4) (d : BitVec 4) (a : BitVec 4) (b' : BSrc) (s : State) : Host.Outcome State Fault Refusal :=
  finish s (s.enqueueWord (.vorBcast t c d a b'))

/-- VXOR (R118). -/
def execVxor (t : BitVec 4) (c : BitVec 4) (d : BitVec 4) (a : BitVec 4) (b : BitVec 4) (l : BitVec 2) (y : BitVec 2) (s : State) : Host.Outcome State Fault Refusal :=
  finish s (s.enqueueWord (.vxor t c d a b l y))

/-- VXOR_BCAST (R118). -/
def execVxorBcast (t : BitVec 4) (c : BitVec 4) (d : BitVec 4) (a : BitVec 4) (b' : BSrc) (s : State) : Host.Outcome State Fault Refusal :=
  finish s (s.enqueueWord (.vxorBcast t c d a b'))

/-- VANDN (R118). -/
def execVandn (t : BitVec 4) (c : BitVec 4) (d : BitVec 4) (a : BitVec 4) (b : BitVec 4) (l : BitVec 2) (y : BitVec 2) (s : State) : Host.Outcome State Fault Refusal :=
  finish s (s.enqueueWord (.vandn t c d a b l y))

/-- VANDN_BCAST (R118). -/
def execVandnBcast (t : BitVec 4) (c : BitVec 4) (d : BitVec 4) (a : BitVec 4) (b' : BSrc) (s : State) : Host.Outcome State Fault Refusal :=
  finish s (s.enqueueWord (.vandnBcast t c d a b'))

/-- VSHL (R118). -/
def execVshl (t : BitVec 4) (c : BitVec 4) (d : BitVec 4) (a : BitVec 4) (b : BitVec 4) (l : BitVec 2) (y : BitVec 2) (s : State) : Host.Outcome State Fault Refusal :=
  finish s (s.enqueueWord (.vshl t c d a b l y))

/-- VSHL_BCAST (R118). -/
def execVshlBcast (t : BitVec 4) (c : BitVec 4) (d : BitVec 4) (a : BitVec 4) (b' : BSrc) (s : State) : Host.Outcome State Fault Refusal :=
  finish s (s.enqueueWord (.vshlBcast t c d a b'))

/-- VSHR (R118). -/
def execVshr (t : BitVec 4) (c : BitVec 4) (d : BitVec 4) (a : BitVec 4) (b : BitVec 4) (l : BitVec 2) (y : BitVec 2) (s : State) : Host.Outcome State Fault Refusal :=
  finish s (s.enqueueWord (.vshr t c d a b l y))

/-- VSHR_BCAST (R118). -/
def execVshrBcast (t : BitVec 4) (c : BitVec 4) (d : BitVec 4) (a : BitVec 4) (b' : BSrc) (s : State) : Host.Outcome State Fault Refusal :=
  finish s (s.enqueueWord (.vshrBcast t c d a b'))

/-- VSRA (R118). -/
def execVsra (t : BitVec 4) (c : BitVec 4) (d : BitVec 4) (a : BitVec 4) (b : BitVec 4) (l : BitVec 2) (y : BitVec 2) (s : State) : Host.Outcome State Fault Refusal :=
  finish s (s.enqueueWord (.vsra t c d a b l y))

/-- VSRA_BCAST (R118). -/
def execVsraBcast (t : BitVec 4) (c : BitVec 4) (d : BitVec 4) (a : BitVec 4) (b' : BSrc) (s : State) : Host.Outcome State Fault Refusal :=
  finish s (s.enqueueWord (.vsraBcast t c d a b'))

/-- VCLZ (R118). -/
def execVclz (t : BitVec 4) (c : BitVec 4) (d : BitVec 4) (a : BitVec 4) (l : BitVec 2) (y : BitVec 2) (s : State) : Host.Outcome State Fault Refusal :=
  finish s (s.enqueueWord (.vclz t c d a l y))

/-- VPOPC (R118). -/
def execVpopc (t : BitVec 4) (c : BitVec 4) (d : BitVec 4) (a : BitVec 4) (l : BitVec 2) (y : BitVec 2) (s : State) : Host.Outcome State Fault Refusal :=
  finish s (s.enqueueWord (.vpopc t c d a l y))

/-- VCMP (R122). -/
def execVcmp (t : BitVec 4) (c : BitVec 4) (d : BitVec 4) (a : BitVec 4) (b : BitVec 4) (l : BitVec 2) (y : BitVec 2) (s : State) : Host.Outcome State Fault Refusal :=
  finish s (s.enqueueWord (.vcmp t c d a b l y))

/-- VCMPN (R122). -/
def execVcmpn (t : BitVec 4) (c : BitVec 4) (d : BitVec 4) (a : BitVec 4) (b : BitVec 4) (l : BitVec 2) (y : BitVec 2) (s : State) : Host.Outcome State Fault Refusal :=
  finish s (s.enqueueWord (.vcmpn t c d a b l y))

/-- FADD (R119). -/
def execFadd (t : BitVec 4) (c : BitVec 4) (d : BitVec 4) (a : BitVec 4) (b : BitVec 4) (l : BitVec 2) (y : BitVec 2) (s : State) : Host.Outcome State Fault Refusal :=
  finish s (s.enqueueWord (.fadd t c d a b l y))

/-- FADD_BCAST (R119). -/
def execFaddBcast (t : BitVec 4) (c : BitVec 4) (d : BitVec 4) (a : BitVec 4) (b' : BSrc) (s : State) : Host.Outcome State Fault Refusal :=
  finish s (s.enqueueWord (.faddBcast t c d a b'))

/-- FSUB (R119). -/
def execFsub (t : BitVec 4) (c : BitVec 4) (d : BitVec 4) (a : BitVec 4) (b : BitVec 4) (l : BitVec 2) (y : BitVec 2) (s : State) : Host.Outcome State Fault Refusal :=
  finish s (s.enqueueWord (.fsub t c d a b l y))

/-- FSUB_BCAST (R119). -/
def execFsubBcast (t : BitVec 4) (c : BitVec 4) (d : BitVec 4) (a : BitVec 4) (b' : BSrc) (s : State) : Host.Outcome State Fault Refusal :=
  finish s (s.enqueueWord (.fsubBcast t c d a b'))

/-- FMUL (R119). -/
def execFmul (t : BitVec 4) (c : BitVec 4) (d : BitVec 4) (a : BitVec 4) (b : BitVec 4) (l : BitVec 2) (y : BitVec 2) (s : State) : Host.Outcome State Fault Refusal :=
  finish s (s.enqueueWord (.fmul t c d a b l y))

/-- FMUL_BCAST (R119). -/
def execFmulBcast (t : BitVec 4) (c : BitVec 4) (d : BitVec 4) (a : BitVec 4) (b' : BSrc) (s : State) : Host.Outcome State Fault Refusal :=
  finish s (s.enqueueWord (.fmulBcast t c d a b'))

/-- FFMA (R119). -/
def execFfma (t : BitVec 4) (c : BitVec 4) (d : BitVec 4) (a : BitVec 4) (b : BitVec 4) (l : BitVec 2) (y : BitVec 2) (s : State) : Host.Outcome State Fault Refusal :=
  finish s (s.enqueueWord (.ffma t c d a b l y))

/-- FFMA_BCAST (R119). -/
def execFfmaBcast (t : BitVec 4) (c : BitVec 4) (d : BitVec 4) (a : BitVec 4) (b' : BSrc) (s : State) : Host.Outcome State Fault Refusal :=
  finish s (s.enqueueWord (.ffmaBcast t c d a b'))

/-- FFMS (R119). -/
def execFfms (t : BitVec 4) (c : BitVec 4) (d : BitVec 4) (a : BitVec 4) (b : BitVec 4) (l : BitVec 2) (y : BitVec 2) (s : State) : Host.Outcome State Fault Refusal :=
  finish s (s.enqueueWord (.ffms t c d a b l y))

/-- FFMS_BCAST (R119). -/
def execFfmsBcast (t : BitVec 4) (c : BitVec 4) (d : BitVec 4) (a : BitVec 4) (b' : BSrc) (s : State) : Host.Outcome State Fault Refusal :=
  finish s (s.enqueueWord (.ffmsBcast t c d a b'))

/-- FMIN (R119). -/
def execFmin (t : BitVec 4) (c : BitVec 4) (d : BitVec 4) (a : BitVec 4) (b : BitVec 4) (l : BitVec 2) (y : BitVec 2) (s : State) : Host.Outcome State Fault Refusal :=
  finish s (s.enqueueWord (.fmin t c d a b l y))

/-- FMIN_BCAST (R119). -/
def execFminBcast (t : BitVec 4) (c : BitVec 4) (d : BitVec 4) (a : BitVec 4) (b' : BSrc) (s : State) : Host.Outcome State Fault Refusal :=
  finish s (s.enqueueWord (.fminBcast t c d a b'))

/-- FMAX (R119). -/
def execFmax (t : BitVec 4) (c : BitVec 4) (d : BitVec 4) (a : BitVec 4) (b : BitVec 4) (l : BitVec 2) (y : BitVec 2) (s : State) : Host.Outcome State Fault Refusal :=
  finish s (s.enqueueWord (.fmax t c d a b l y))

/-- FMAX_BCAST (R119). -/
def execFmaxBcast (t : BitVec 4) (c : BitVec 4) (d : BitVec 4) (a : BitVec 4) (b' : BSrc) (s : State) : Host.Outcome State Fault Refusal :=
  finish s (s.enqueueWord (.fmaxBcast t c d a b'))

/-- FABS (R119). -/
def execFabs (t : BitVec 4) (c : BitVec 4) (d : BitVec 4) (a : BitVec 4) (l : BitVec 2) (y : BitVec 2) (s : State) : Host.Outcome State Fault Refusal :=
  finish s (s.enqueueWord (.fabs t c d a l y))

/-- FNEG (R119). -/
def execFneg (t : BitVec 4) (c : BitVec 4) (d : BitVec 4) (a : BitVec 4) (l : BitVec 2) (y : BitVec 2) (s : State) : Host.Outcome State Fault Refusal :=
  finish s (s.enqueueWord (.fneg t c d a l y))

/-- FRCP (R120). -/
def execFrcp (t : BitVec 4) (c : BitVec 4) (d : BitVec 4) (a : BitVec 4) (l : BitVec 2) (y : BitVec 2) (s : State) : Host.Outcome State Fault Refusal :=
  finish s (s.enqueueWord (.frcp t c d a l y))

/-- FRSQ (R120). -/
def execFrsq (t : BitVec 4) (c : BitVec 4) (d : BitVec 4) (a : BitVec 4) (l : BitVec 2) (y : BitVec 2) (s : State) : Host.Outcome State Fault Refusal :=
  finish s (s.enqueueWord (.frsq t c d a l y))

/-- FEXP2 (R120). -/
def execFexp2 (t : BitVec 4) (c : BitVec 4) (d : BitVec 4) (a : BitVec 4) (l : BitVec 2) (y : BitVec 2) (s : State) : Host.Outcome State Fault Refusal :=
  finish s (s.enqueueWord (.fexp2 t c d a l y))

/-- FLOG2 (R120). -/
def execFlog2 (t : BitVec 4) (c : BitVec 4) (d : BitVec 4) (a : BitVec 4) (l : BitVec 2) (y : BitVec 2) (s : State) : Host.Outcome State Fault Refusal :=
  finish s (s.enqueueWord (.flog2 t c d a l y))

/-- FCMP (R122). -/
def execFcmp (t : BitVec 4) (c : BitVec 4) (d : BitVec 4) (a : BitVec 4) (b : BitVec 4) (l : BitVec 2) (y : BitVec 2) (s : State) : Host.Outcome State Fault Refusal :=
  finish s (s.enqueueWord (.fcmp t c d a b l y))

/-- FCLASS (R121). -/
def execFclass (t : BitVec 4) (c : BitVec 4) (d : BitVec 4) (a : BitVec 4) (l : BitVec 2) (y : BitVec 2) (s : State) : Host.Outcome State Fault Refusal :=
  finish s (s.enqueueWord (.fclass t c d a l y))

/-- VCVT (R124). -/
def execVcvt (t : BitVec 4) (c : BitVec 4) (d : BitVec 4) (a : BitVec 4) (b : BitVec 4) (l : BitVec 2) (s : State) : Host.Outcome State Fault Refusal :=
  finish s (s.enqueueWord (.vcvt t c d a b l))

/-- VSCALE (R125). -/
def execVscale (t : BitVec 4) (c : BitVec 4) (d : BitVec 4) (a : BitVec 4) (b : BitVec 4) (l : BitVec 2) (y : BitVec 2) (s : State) : Host.Outcome State Fault Refusal :=
  finish s (s.enqueueWord (.vscale t c d a b l y))

/-- VQPACK (R126). -/
def execVqpack (t : BitVec 4) (c : BitVec 4) (d : BitVec 4) (a : BitVec 4) (b : BitVec 4) (l : BitVec 2) (s : State) : Host.Outcome State Fault Refusal :=
  finish s (s.enqueueWord (.vqpack t c d a b l))

/-- VQUNPK (R126). -/
def execVqunpk (t : BitVec 4) (c : BitVec 4) (d : BitVec 4) (a : BitVec 4) (b : BitVec 4) (l : BitVec 2) (s : State) : Host.Outcome State Fault Refusal :=
  finish s (s.enqueueWord (.vqunpk t c d a b l))

/-- VSEL (R127). -/
def execVsel (t : BitVec 4) (c : BitVec 4) (d : BitVec 4) (a : BitVec 4) (b : BitVec 4) (l : BitVec 2) (s : State) : Host.Outcome State Fault Refusal :=
  finish s (s.enqueueWord (.vsel t c d a b l))

/-- VPERM (R127). -/
def execVperm (t : BitVec 4) (c : BitVec 4) (d : BitVec 4) (a : BitVec 4) (b : BitVec 4) (l : BitVec 2) (y : BitVec 2) (s : State) : Host.Outcome State Fault Refusal :=
  finish s (s.enqueueWord (.vperm t c d a b l y))

/-- VBCASTS (R127). -/
def execVbcasts (t : BitVec 4) (c : BitVec 4) (d : BitVec 4) (a : BitVec 4) (b : BitVec 4) (l : BitVec 2) (s : State) : Host.Outcome State Fault Refusal :=
  finish s (s.enqueueWord (.vbcasts t c d a b l))

/-- VREDADD (R128). -/
def execVredadd (t : BitVec 4) (c : BitVec 4) (d : BitVec 4) (a : BitVec 4) (b : BitVec 4) (l : BitVec 2) (y : BitVec 2) (s : State) : Host.Outcome State Fault Refusal :=
  finish s (s.enqueueWord (.vredadd t c d a b l y))

/-- VREDMAX (R128). -/
def execVredmax (t : BitVec 4) (c : BitVec 4) (d : BitVec 4) (a : BitVec 4) (b : BitVec 4) (l : BitVec 2) (y : BitVec 2) (s : State) : Host.Outcome State Fault Refusal :=
  finish s (s.enqueueWord (.vredmax t c d a b l y))

/-- VSHF (R130). -/
def execVshf (t : BitVec 4) (c : BitVec 4) (d : BitVec 4) (a : BitVec 4) (b : BitVec 2) (l : BitVec 2) (s : State) : Host.Outcome State Fault Refusal :=
  finish s (s.enqueueWord (.vshf t c d a b l))

/-- VXTR (R129). -/
def execVxtr (t : BitVec 4) (c : BitVec 4) (a : BitVec 4) (b : BitVec 4) (l : BitVec 2) (s : State) : Host.Outcome State Fault Refusal :=
  finish s (s.enqueueWord (.vxtr t c a b l))

/-- PLOG (R123). -/
def execPlog (t : BitVec 4) (c : BitVec 4) (d : BitVec 4) (a : BitVec 4) (b : BitVec 4) (l : BitVec 2) (s : State) : Host.Outcome State Fault Refusal :=
  finish s (s.enqueueWord (.plog t c d a b l))

/-- PSET (R123). -/
def execPset (t : BitVec 4) (c : BitVec 4) (d : BitVec 4) (a : BitVec 4) (b : BitVec 4) (l : BitVec 2) (s : State) : Host.Outcome State Fault Refusal :=
  finish s (s.enqueueWord (.pset t c d a b l))

/-- PTST (R129). -/
def execPtst (t : BitVec 4) (c : BitVec 4) (a : BitVec 4) (s : State) : Host.Outcome State Fault Refusal :=
  finish s (s.enqueueWord (.ptst t c a))

/-- TLD (R131). -/
def execTld (t : BitVec 4) (c : BitVec 4) (d : BitVec 4) (a : BitVec 4) (b : BitVec 4) (l : BitVec 2) (s : State) : Host.Outcome State Fault Refusal :=
  finish s (s.enqueueWord (.tld t c d a b l))

/-- TST (R131). -/
def execTst (t : BitVec 4) (c : BitVec 4) (d : BitVec 4) (a : BitVec 4) (b : BitVec 4) (l : BitVec 2) (s : State) : Host.Outcome State Fault Refusal :=
  finish s (s.enqueueWord (.tst t c d a b l))

/-- TLDX (R132). -/
def execTldx (t : BitVec 4) (c : BitVec 4) (d : BitVec 4) (a : BitVec 4) (b : BitVec 4) (l : BitVec 2) (y : BitVec 2) (s : State) : Host.Outcome State Fault Refusal :=
  finish s (s.enqueueWord (.tldx t c d a b l y))

/-- TSTX (R132). -/
def execTstx (t : BitVec 4) (c : BitVec 4) (d : BitVec 4) (a : BitVec 4) (b : BitVec 4) (l : BitVec 2) (y : BitVec 2) (s : State) : Host.Outcome State Fault Refusal :=
  finish s (s.enqueueWord (.tstx t c d a b l y))

/-- GLD (R135). -/
def execGld (t : BitVec 4) (c : BitVec 4) (d : BitVec 4) (a : BitVec 4) (b : BitVec 4) (y : BitVec 2) (s : State) : Host.Outcome State Fault Refusal :=
  finish s (s.enqueueWord (.gld t c d a b y))

/-- GST (R136). -/
def execGst (t : BitVec 4) (c : BitVec 4) (d : BitVec 4) (a : BitVec 4) (b : BitVec 4) (y : BitVec 2) (s : State) : Host.Outcome State Fault Refusal :=
  finish s (s.enqueueWord (.gst t c d a b y))

/-- GLDP (R135). -/
def execGldp (t : BitVec 4) (c : BitVec 4) (d : BitVec 4) (a : BitVec 4) (b : BitVec 4) (y : BitVec 2) (s : State) : Host.Outcome State Fault Refusal :=
  finish s (s.enqueueWord (.gldp t c d a b y))

/-- GAMO_ADD (R137). -/
def execGamoAdd (t : BitVec 4) (c : BitVec 4) (d : BitVec 4) (a : BitVec 4) (b : BitVec 4) (y : BitVec 2) (s : State) : Host.Outcome State Fault Refusal :=
  finish s (s.enqueueWord (.gamoAdd t c d a b y))

/-- GAMO_MIN (R137). -/
def execGamoMin (t : BitVec 4) (c : BitVec 4) (d : BitVec 4) (a : BitVec 4) (b : BitVec 4) (s : State) : Host.Outcome State Fault Refusal :=
  finish s (s.enqueueWord (.gamoMin t c d a b))

/-- GAMO_MAX (R137). -/
def execGamoMax (t : BitVec 4) (c : BitVec 4) (d : BitVec 4) (a : BitVec 4) (b : BitVec 4) (s : State) : Host.Outcome State Fault Refusal :=
  finish s (s.enqueueWord (.gamoMax t c d a b))

/-- GAMO_SWAP (R137). -/
def execGamoSwap (t : BitVec 4) (c : BitVec 4) (d : BitVec 4) (a : BitVec 4) (b : BitVec 4) (s : State) : Host.Outcome State Fault Refusal :=
  finish s (s.enqueueWord (.gamoSwap t c d a b))

/-- VNOP (R138). -/
def execVnop (t : BitVec 4) (c : BitVec 4) (s : State) : Host.Outcome State Fault Refusal :=
  finish s (s.enqueueWord (.vnop t c))

/-- VFENCE (R138). -/
def execVfence (t : BitVec 4) (c : BitVec 4) (s : State) : Host.Outcome State Fault Refusal :=
  finish s (s.enqueueWord (.vfence t c))

/-! ### D words (chapter 6) -/

/-- TCFG (R144). -/
def execTcfg (t : BitVec 4) (x : BitVec 1) (g : BitVec 3) (h : BitVec 4) (k : BitVec 2) (s : State) : Host.Outcome State Fault Refusal :=
  finish s (s.enqueueWord (.tcfg t x g h k))

/-- TZERO (R149). -/
def execTzero (t : BitVec 4) (x : BitVec 1) (g : BitVec 3) (a : BitVec 4) (s : State) : Host.Outcome State Fault Refusal :=
  finish s (s.enqueueWord (.tzero t x g a))

/-- DOT (R150). -/
def execDot (t : BitVec 4) (x : BitVec 1) (g : BitVec 3) (c : BitVec 4) (a : BitVec 6) (b : BitVec 6) (src : BitVec 1) (s : State) : Host.Outcome State Fault Refusal :=
  finish s (s.enqueueWord (.dot t x g c a b src))

/-- DOTC (R151). -/
def execDotc (t : BitVec 4) (x : BitVec 1) (g : BitVec 3) (c : BitVec 4) (a : BitVec 4) (z : BitVec 2) (b : BitVec 6) (src : BitVec 1) (s : State) : Host.Outcome State Fault Refusal :=
  finish s (s.enqueueWord (.dotc t x g c a z b src))

/-- SBPPT (R157). -/
def execSbppt (t : BitVec 4) (x : BitVec 1) (g : BitVec 3) (p : BitVec 2) (w : BitVec 6) (r : BitVec 4) (s : State) : Host.Outcome State Fault Refusal :=
  finish s (s.enqueueWord (.sbppt t x g p w r))

/-- SBPSC (R158). -/
def execSbpsc (t : BitVec 4) (x : BitVec 1) (g : BitVec 3) (p : BitVec 2) (a : BitVec 6) (src : BitVec 1) (s : State) : Host.Outcome State Fault Refusal :=
  finish s (s.enqueueWord (.sbpsc t x g p a src))

/-- SBPMA (R159). -/
def execSbpma (t : BitVec 4) (x : BitVec 1) (g : BitVec 3) (c : BitVec 4) (p : BitVec 2) (r : BitVec 4) (s : State) : Host.Outcome State Fault Refusal :=
  finish s (s.enqueueWord (.sbpma t x g c p r))

/-- SBPD (R160). -/
def execSbpd (t : BitVec 4) (x : BitVec 1) (g : BitVec 3) (c : BitVec 4) (w : BitVec 6) (a : BitVec 6) (src : BitVec 1) (s : State) : Host.Outcome State Fault Refusal :=
  finish s (s.enqueueWord (.sbpd t x g c w a src))

/-- TOUT (R152). -/
def execTout (t : BitVec 4) (x : BitVec 1) (g : BitVec 3) (c : BitVec 4) (a : BitVec 6) (f : BitVec 4) (e : BitVec 3) (s : State) : Host.Outcome State Fault Refusal :=
  finish s (s.enqueueWord (.tout t x g c a f e))

/-- TIN (R153). -/
def execTin (t : BitVec 4) (x : BitVec 1) (g : BitVec 3) (c : BitVec 4) (a : BitVec 6) (f : BitVec 4) (s : State) : Host.Outcome State Fault Refusal :=
  finish s (s.enqueueWord (.tin t x g c a f))

/-- FMTW (R147). -/
def execFmtw (t : BitVec 4) (x : BitVec 1) (g : BitVec 3) (n : BitVec 4) (a : BitVec 4) (b : BitVec 4) (o : BitVec 4) (c : BitVec 1) (s : State) : Host.Outcome State Fault Refusal :=
  finish s (s.enqueueWord (.fmtw t x g n a b o c))

/-! ### C words (chapter 10) -/

/-- TDEF (R208). -/
def execTdef (t : BitVec 4) (g : BitVec 3) (l : BitVec 6) (a : BitVec 4) (s : State) : Host.Outcome State Fault Refusal :=
  finish s (s.enqueueWord (.tdef t g l a))

/-- CPY (R220). -/
def execCpy (t : BitVec 4) (f : Option W32) (g : BitVec 3) (l : BitVec 6) (a : BitVec 4) (b : BitVec 4) (d : BitVec 1) (p : BitVec 2) (s : State) : Host.Outcome State Fault Refusal :=
  finish s (s.enqueueWord (.cpy t f g l a b d p))

/-- CPYB (R221). -/
def execCpyb (t : BitVec 4) (f : Option W32) (g : BitVec 3) (l : BitVec 6) (a : BitVec 4) (b : BitVec 4) (p : BitVec 2) (s : State) : Host.Outcome State Fault Refusal :=
  finish s (s.enqueueWord (.cpyb t f g l a b p))

/-- CPYX (R222). -/
def execCpyx (t : BitVec 4) (f : Option W32) (g : BitVec 3) (l : BitVec 6) (a : BitVec 4) (b : BitVec 4) (s : State) : Host.Outcome State Fault Refusal :=
  finish s (s.enqueueWord (.cpyx t f g l a b))

/-- CPYR (R421). -/
def execCpyr (t : BitVec 4) (f : Option W32) (g : BitVec 3) (l : BitVec 6) (a : BitVec 4) (b : BitVec 4) (d : BitVec 1) (p : BitVec 2) (s : State) : Host.Outcome State Fault Refusal :=
  finish s (s.enqueueWord (.cpyr t f g l a b d p))

/-- CPYE (R227). -/
def execCpye (t : BitVec 4) (f : Option W32) (g : BitVec 3) (a : BitVec 4) (b : BitVec 4) (c : BitVec 4) (h : BitVec 2) (p : BitVec 2) (d : BitVec 1) (s : State) : Host.Outcome State Fault Refusal :=
  finish s (s.enqueueWord (.cpye t f g a b c h p d))

/-- TREL (R211). -/
def execTrel (t : BitVec 4) (g : BitVec 3) (l : BitVec 6) (s : State) : Host.Outcome State Fault Refusal :=
  finish s (s.enqueueWord (.trel t g l))

/-- QBIND (R231). -/
def execQbind (t : BitVec 4) (g : BitVec 3) (q : BitVec 2) (a : BitVec 4) (b : BitVec 4) (c : BitVec 4) (s : State) : Host.Outcome State Fault Refusal :=
  finish s (s.enqueueWord (.qbind t g q a b c))

/-- QUNB (R233). -/
def execQunb (t : BitVec 4) (g : BitVec 3) (q : BitVec 2) (s : State) : Host.Outcome State Fault Refusal :=
  finish s (s.enqueueWord (.qunb t g q))

/-- QFENCE (R230). -/
def execQfence (t : BitVec 4) (g : BitVec 3) (m : BitVec 4) (src : BitVec 3) (s : State) : Host.Outcome State Fault Refusal :=
  finish s (s.enqueueWord (.qfence t g m src))

end Sys2Proof.Machine
end

