-- ==== Sys2Proof/Machine/VLane.lean ====
section
/-! DEFINITION. What a V command computes in one cell, lane by lane (R118-R128), and its nominal bound (Table 5.1). -/

namespace Sys2Proof.Machine

/-! ### Lanes and elements (R62) -/

/-- Lane j of a vector register. -/
def laneOf (v : VReg) (j : Nat) : W32 := v.extractLsb' (32 * j) 32

/-- The register whose lane j is f j. -/
def ofLanes (f : Nat → W32) : VReg :=
  BitVec.ofNat 512 ((List.range 16).foldl (fun a j => a + (f j).toNat * 2 ^ (32 * j)) 0)

/-- Element e of width w of a number. -/
def elemOf (w x e : Nat) : Nat := x / 2 ^ (w * e) % 2 ^ w

/-- Width of an element of an integer type: TY 0 8, 1 16, 2 32 (R62). -/
def intWidth (ty : Nat) : Nat := if ty == 0 then 8 else if ty == 1 then 16 else 32

/-- The elements of one lane through f, which is given the element's number in the lane. -/
def elementwise (w : Nat) (f : Nat → Nat → Nat → Nat → Nat × FFlags) (a b d : W32) : W32 × FFlags :=
  let r := (List.range (32 / w)).foldl (fun (r : Nat × FFlags) e =>
    let x := f e (elemOf w a.toNat e) (elemOf w b.toNat e) (elemOf w d.toNat e)
    (r.1 + x.1 * 2 ^ (w * e), r.2 ||| x.2)) (0, 0)
  (BitVec.ofNat 32 r.1, r.2)

/-! ### Element functions -/

/-- One bits of the low n bits. -/
def onesIn (x : Nat) : Nat → Nat
  | 0 => 0
  | n + 1 => x % 2 + onesIn (x / 2) n

/-- Table 5.5. -/
def intElement (op : VOp) (w a b d : Nat) : Nat :=
  let sa := bitsInt w a
  let sb := bitsInt w b
  let m := 2 ^ w
  match op with
  | .add => (a + b) % m
  | .sub => (a + m - b) % m
  | .mul => a * b % m
  | .mulh => intBits w (sa * sb / (m : Int))
  | .mulhn => a * b / m
  | .mad => (d + a * b) % m
  | .adds => intBits w (satI (sa + sb) w)
  | .subs => intBits w (satI (sa - sb) w)
  | .addsn => intBits w (satN ((a : Int) + b) w)
  | .subsn => intBits w (satN ((a : Int) - b) w)
  | .min => if sb < sa then b else a
  | .max => if sa < sb then b else a
  | .minn => min a b
  | .maxn => max a b
  | .abs => intBits w (sa.natAbs : Int)
  | .and => a &&& b
  | .or => a ||| b
  | .xor => a ^^^ b
  | .andn => a &&& (m - 1 - b)
  | .shl => a * 2 ^ (b % w) % m
  | .shr => a / 2 ^ (b % w)
  | .sra => intBits w (sa / (2 ^ (b % w) : Int))
  | .clz => if a == 0 then w else w - 1 - Nat.log2 a
  | .popc => onesIn a w
  | _ => 0

/-- R119-R121: FP elements; `free` is what an approximating op may use within its bound. -/
def fpElement (op : VOp) (f : Fmt) (free a b d : Nat) : Nat × FFlags :=
  match op with
  | .fadd => f.add a b
  | .fsub => f.sub a b
  | .fmul => f.mul a b
  | .ffma => f.fma false d a b
  | .ffms => f.fma true d a b
  | .fmin => f.minmax false a b
  | .fmax => f.minmax true a b
  | .fabs => (a % 2 ^ (f.width - 1), 0)
  | .fneg => (a ^^^ 2 ^ (f.width - 1), 0)
  | .frcp => f.recip free a
  | .frsq => f.rsqrt free a
  | .fexp2 => f.exp2 free a
  | .flog2 => f.log2 free a
  | .fclass => (f.classMask a, 0)
  | _ => (0, 0)

/-- Whether an op works element by element on FP types. -/
def VOp.isFp : VOp → Bool
  | .fadd | .fsub | .fmul | .ffma | .ffms | .fmin | .fmax | .fabs | .fneg | .frcp | .frsq | .fexp2 | .flog2 | .fclass => true
  | _ => false

/-- R125: one element scaled by 2^k; beyond 1000 either way every result is the same. -/
def scaleElement (f : Fmt) (sat : Bool) (k : Int) (a : Nat) : Nat × FFlags := convertF f f sat (max (-1000) (min k 1000)) a

/-! ### Whole registers of a cell -/

/-- R124: the sixteen results of VCVT. -/
def cvtAll (code : Nat) (sat : Bool) (a : VReg) : List (Nat × FFlags) :=
  (List.range 16).map fun i => convertPair code sat (elemOf (sideWidth (pairFmts code).1) a.toNat i)

/-- Lane j of the destination of VCVT, with the flags of the elements it holds. -/
def cvtLane (code : Nat) (sat : Bool) (a : VReg) (j : Nat) : W32 × FFlags :=
  let dw := sideWidth (pairFmts code).2
  let rs := cvtAll code sat a
  let per := 32 / dw
  let r := (List.range per).foldl (fun (r : Nat × FFlags) e =>
    let x := rs.getD (per * j + e) (0, 0)
    (r.1 + x.1 * 2 ^ (dw * e), r.2 ||| x.2)) (0, 0)
  (BitVec.ofNat 32 r.1, r.2)

/-- R126: the packed block of a cell and its flags. -/
def qpackCell (code : Nat) (a : VReg) : Nat × FFlags :=
  let r := bqPack (bqBits code) ((List.range 16).map fun i => Fmt.fp32.decode (laneOf a i).toNat)
  (r.1.packed (bqBits code), r.2)

/-- VQPACK, lane j: the block lies in lanes 0-3, and its flags count with them. -/
def qpackLane (code : Nat) (a : VReg) (j : Nat) : W32 × FFlags :=
  let r := qpackCell code a
  if j < 4 then (BitVec.ofNat 32 (r.1 / 2 ^ (32 * j)), r.2) else (0, 0)

/-- VQUNPK, lane j (R126). -/
def qunpkLane (code : Nat) (a : VReg) (j : Nat) : W32 :=
  BitVec.ofNat 32 (Fmt.fp32.round true ((bqUnpacked (bqBits code) (a.toNat % 2 ^ 128)).value (bqBits code) j)).1

/-- VPERM, lane j (R127): higher index bits are ignored. -/
def permLane (w : Nat) (a : VReg) (b : W32) : W32 :=
  (elementwise w (fun _ x _ _ => (elemOf w a.toNat (x % (512 / w)), 0)) b 0 0).1

/-- One lane of an op that stays in its cell, from the cell's operands; `old` is the lane's old content. -/
def VCmd.laneResult (c : VCmd) (sat : Bool) (free : Nat → Nat) (a b d : VReg) (sel : BitVec 16) (j : Nat) : W32 × FFlags :=
  match c.op with
  | .sel => (if sel.getLsbD j then laneOf a j else laneOf d j, 0)
  | .perm => (permLane (intWidth c.ty) a (laneOf b j), 0)
  | .bcasts => (laneOf a c.fb, 0)
  | .cvt => cvtLane c.fb sat a j
  | .qpack => qpackLane c.fb a j
  | .qunpk => (qunpkLane c.fb a j, 0)
  | .scale =>
    let f := Fmt.ofTy c.ty
    elementwise f.width (fun _ x _ _ => scaleElement f sat (laneOf b j).toInt x) (laneOf a j) 0 0
  | op =>
    if op.isFp then
      let f := Fmt.ofTy c.ty
      elementwise f.width (fun e x y z => fpElement op f (free (4 * j + e)) x y z) (laneOf a j) (laneOf b j) (laneOf d j)
    else
      let w := intWidth c.ty
      elementwise w (fun _ x y z => (intElement op w x y z, 0)) (laneOf a j) (laneOf b j) (laneOf d j)

/-- VCMP, VCMPN, FCMP (R122): the lowest elements compared under the code. -/
def VCmd.laneCompare (c : VCmd) (a b : W32) : Bool × FFlags :=
  match c.op with
  | .fcmp =>
    let f := Fmt.ofTy c.ty
    f.cmp c.lb (elemOf f.width a.toNat 0) (elemOf f.width b.toNat 0)
  | op =>
    let w := intWidth c.ty
    let x := elemOf w a.toNat 0
    let y := elemOf w b.toNat 0
    let lt : Bool := if op == .cmpn then decide (x < y) else decide (bitsInt w x < bitsInt w y)
    (match c.lb with
     | 0 => x == y
     | 1 => x != y
     | 2 => lt
     | _ => !lt, 0)

/-- PLOG and PSET (R123), one lane. -/
def VCmd.lanePred (c : VCmd) (pa pb : Bool) (j : Nat) : Bool :=
  match c.op with
  | .plog => (match c.lb with
      | 0 => pa && pb
      | 1 => pa || pb
      | 2 => pa != pb
      | _ => pa && !pb)
  | _ => (match c.fa with
      | 0 => false
      | 1 => true
      | 2 => decide (j < c.fb)
      | _ => decide (c.fb ≤ j))

/-! ### Reductions (R128) -/

/-- Whether every partial sum of the finite inputs is exact, in any order: their magnitudes fit 24 bits of the smallest
unit. -/
def sumsExact (vs : List (Int × Int)) : Bool :=
  match vs with
  | [] => true
  | v :: t =>
    let u := t.foldl (fun m x => min m x.2) v.2
    decide ((vs.foldl (fun n x => n + x.1.natAbs * 2 ^ (x.2 - u).toNat) 0) < 2 ^ 24)

/-- A tree of rne() additions over values with the flags raised so far (R128): each addition takes two of those left, by free
choices, and leaves their sum; `n` additions. -/
def addTree (free : Nat → Nat) : Nat → List (Nat × FFlags) → Nat × FFlags
  | n + 1, x :: y :: t =>
    let l := x :: y :: t
    let i := free (2 * n) % l.length
    let rest := l.eraseIdx i
    let j := free (2 * n + 1) % rest.length
    let a := l.getD i x
    let b := rest.getD j y
    let r := Fmt.fp32.add a.1 b.1
    addTree free n ((r.1, r.2 ||| a.2 ||| b.2) :: rest.eraseIdx j)
  | _, l => l.headD (0, 0)

/-- VREDADD of FP32: some tree of additions, the one result of every tree where all partial sums are exact. -/
def redAddF (free : Nat → Nat) (xs : List Nat) : Nat × FFlags :=
  let f := Fmt.fp32
  let vs := xs.map f.decode
  match xs with
  | [x] => if (f.decode x).isNan then (f.canonNan, sigFlag vs) else (x, 0)
  | _ =>
    if vs.all (fun v => !v.isNan && !v.isInf) && sumsExact (vs.map FVal.scaled) then
      ((f.round true (sumVal ((vs.map FVal.scaled).foldl scaledAdd (0, 0)) (vs.all FVal.isNegZero))).1, 0)
    else addTree free (xs.length - 1) (xs.map fun x => (x, 0))

/-- VREDMAX of FP32. -/
def redMaxF (xs : List Nat) : Nat × FFlags :=
  let f := Fmt.fp32
  let vs := xs.map f.decode
  if vs.any FVal.isSignalling then (f.canonNan, fInvalid)
  else
    match xs.filter fun x => !(f.decode x).isNan with
    | [] => (f.canonNan, 0)
    | x :: t => (t.foldl (fun m y => if (f.decode m).before (f.decode y) then y else m) x, 0)

/-- VREDADD, VREDMAX over the inputs of one scope. -/
def VCmd.reduce (c : VCmd) (free : Nat → Nat) (xs : List W32) : W32 × FFlags :=
  if c.ty == 0 then
    (if c.op == .redadd then xs.foldl (· + ·) 0
     else match xs with
       | [] => 0
       | x :: t => t.foldl (fun m y => if m.slt y then y else m) x, 0)
  else
    let r := if c.op == .redadd then redAddF free (xs.map BitVec.toNat) else redMaxF (xs.map BitVec.toNat)
    (BitVec.ofNat 32 r.1, r.2)

/-! ### Bounds (Table 5.1, R109) -/

/-- The nominal bound L; `fields` counts the fields of the grid. -/
def VCmd.nominal (c : VCmd) (cells : Nat) : Nat :=
  match c.op with
  | .mul | .mulh | .mulhn | .mad | .fadd | .fsub | .fmul | .ffma | .ffms | .cvt | .scale | .qunpk | .xtr => 4
  | .frcp | .frsq | .qpack | .tld | .tst => 8
  | .fexp2 | .flog2 => 10
  | .perm => 3
  | .redadd | .redmax => if c.fb == 0 then 6 else if cells == 16 then 14 else if cells == 32 then 16 else 18
  | .shf | .ptst => 6
  | .plog | .pset => 1
  | .tldx | .tstx => 24
  | .nop | .fence => 1
  | _ => 2

/-- Ops whose LB field is no bound. -/
def VOp.codedLb : VOp → Bool
  | .cmp | .cmpn | .fcmp | .plog | .gamo | .ptst | .nop | .fence => true
  | _ => false

/-- R110: the command is interlocked. -/
def VCmd.interlocked (c : VCmd) : Bool :=
  match c.op with
  | .gld | .gst | .gldp | .gamo => true
  | op => !op.codedLb && c.lb == 3

/-- R109: the bound B of a command. -/
def VCmd.bound (c : VCmd) (cells : Nat) : Nat :=
  let l := c.nominal cells
  if c.op.codedLb || c.lb == 0 then l else if c.lb == 1 then 2 * l else 4 * l

end Sys2Proof.Machine
end

