-- ==== Sys2Proof/Machine/VEngine.lean ====
section
/-! DEFINITION. The V engine (R107-R116, R128-R138): operands at issue, the lane checks and accesses of tower and global
words, the issue of a command, and the landing of its results. -/

namespace Sys2Proof.Machine

/-! ### Operands -/

/-- Lanes of a destination that the last command to write them may still be writing (R109). An earlier write lands before a later
one that is due, so that no issue need stall for it (R110). -/
def Strand.early (st : Strand) (dst : VDst) (cell : Nat) : BitVec 16 :=
  st.flights.foldl (fun m f =>
    if f.dst == dst then
      (if !f.inter && decide (st.vcyc < f.due) then m ||| (f.lanes.lookup cell).getD 0 else m &&& ~~~((f.lanes.lookup cell).getD 0))
    else m) 0

/-- A register read at issue: a lane read early holds a free value (R109); k tells the operands of one command apart. -/
def State.vRead (s : State) (k g p : Nat) : VReg :=
  let cell := s.st.cell g
  let v := SMap.get 0 s.vregs (vKey cell p)
  let m := s.st.early (.vec p) cell
  if m == 0 then v else ofLanes fun j => if m.getLsbD j then Config.free (s.freeCtr + k) (g * 16 + j) else laneOf v j

/-- A predicate read at issue; p0 is all ones (R21). -/
def State.pRead (s : State) (k g n : Nat) : BitVec 16 :=
  if n == 0 then 0xFFFF
  else
    let cell := s.st.cell g
    let v := SMap.get 0 s.preds (pKey cell n)
    let m := s.st.early (.pred n) cell
    if m == 0 then v else (v &&& ~~~m) ||| ((Config.free (s.freeCtr + k) g).setWidth 16 &&& m)

/-- A vector source at issue, in the cell of grid index g: a register, a popped group, a broadcast value. -/
def State.vSource (s : State) (k g : Nat) (src : VSrc) (group : List VReg) : VReg :=
  match src with
  | .reg p => s.vRead k g p
  | .stream _ _ => group.getD g 0
  | .bcast w => ofLanes fun _ => w
  | .none => 0

/-- The registers and predicates a command names (R110). -/
def VCmd.touches (c : VCmd) : List VDst :=
  let src (x : VSrc) : List VDst := match x with | .reg p => [.vec p] | _ => []
  src c.a ++ src c.b ++ [c.dst, .pred c.cond] ++
    (match c.op with
     | .plog => [.pred c.fa, .pred c.fb]
     | .ptst => [.pred c.fa]
     | .sel => [.pred c.fb]
     | .gldp => [.pred 11]
     | _ => [])

/-- R110: an interlocked result that the command names has not been written. -/
def Strand.vInterlock (st : Strand) (c : VCmd) : Bool :=
  st.flights.any fun f => f.inter && !f.landed && f.dst != .none && c.touches.contains f.dst

/-! ### Streams at issue (R113) -/

/-- What the head of a stream offers a V command: its group, a wait, or a fault with TREC2. -/
inductive Pop where
  | group (g : Group)
  | wait
  | fault (code : Nat) (addr : Word)
deriving DecidableEq, Repr

/-- R113, R232: the next group of the binding a command names. -/
def Strand.streamHead (st : Strand) (c : Cmd) (q bind : Nat) : Pop :=
  let queued : Bool := st.cq.nexts.any fun f => !f.dropped && f.precedes c && match f.pay with
    | .c (.qbind p b _ _ _) _ => p == q && b == bind && st.judge f.guard != some false
    | _ => false
  if queued then .wait
  else
    match (st.streams.lookup q) with
    | none => .fault 0x0B 0
    | some r =>
      if !r.bound || r.bind != bind then .fault 0x0B 0
      else
        match r.fifo with
        | [] => if r.total ≤ r.next then .fault 0x0B 0 else .wait
        | g :: _ =>
          match g.fault, g.poison with
          | some (code, a), _ => .fault code a
          | none, some a => .fault 0x0C a
          | none, none => .group g

/-- The streams a command names, each once. -/
def VCmd.streams (c : VCmd) : List (Nat × Nat) :=
  ((match c.a with | .stream q b => [(q, b)] | _ => []) ++ (match c.b with | .stream q b => [(q, b)] | _ => [])).dedup

/-- One group leaves a stream. -/
def Strand.popGroup (st : Strand) (q : Nat) : Strand :=
  { st with streams := st.streams.map fun e => if e.1 == q then (e.1, { e.2 with fifo := e.2.fifo.drop 1 }) else e }

/-! ### Lane accesses (R131-R137) -/

/-- Whether an op accesses memory, and what it needs. -/
def VOp.need : VOp → Option Need
  | .tld | .tldx | .gld | .gldp => some .load
  | .tst | .tstx | .gst => some .store
  | .gamo => some .atomic
  | _ => none

/-- Bytes of one lane's access. -/
def VCmd.accessSize (c : VCmd) : Nat :=
  match c.op with
  | .tldx | .tstx | .gld | .gst | .gldp => intWidth c.ty / 8
  | _ => 4

/-- What a lane's access came to. -/
structure LaneAcc where
  g : Nat
  j : Nat
  addr : Word
  acc : Access
deriving DecidableEq, Repr

/-- The displacement of lane j from the captured base. -/
def VCmd.laneDisp (c : VCmd) (b : VReg) (j : Nat) : Int :=
  match c.op with
  | .tld | .tst => 64 * c.fb + 4 * j
  | .tldx | .tstx => (laneOf b j).toNat
  | _ => (laneOf b j).toInt

/-- The checks of one lane (Table 4.5); control space takes whole words only, so a lane cannot name it. -/
def State.laneCheck (s : State) (c : VCmd) (need : Need) (g j : Nat) (b : VReg) : LaneAcc :=
  let d := c.laneDisp b j
  let logged := wrappedAddr c.base d
  let acc := match addressOf c.base d with
    | none => if bf logged 0 60 % c.accessSize != 0 then Access.fault 0x04 1 else Access.fault 0x05 2
    | some a =>
      match s.check s.st (s.st.cell g) a c.accessSize need with
      | .ok pa k gg z => if paIsControl pa then .fault 0x05 2 else .ok pa k gg z
      | x => x
  ⟨g, j, logged, acc⟩

/-- Every true lane, lowest grid index and lane first. -/
def trueLanes (ps : List (BitVec 16)) : List (Nat × Nat) :=
  (((List.range ps.length).zip ps).map fun e => ((List.range 16).filter fun j => e.2.getLsbD j).map fun j => (e.1, j)).flatten

/-- The step of Table 4.5 an access fails at; GLDP turns step 3 into a result (R135). -/
def Access.failStep (a : Access) (soft : Bool) : Option Nat :=
  match a with
  | .ok _ _ _ _ => none
  | .fault _ n => some n
  | .absent _ => if soft then none else some 3

/-- R115: the lane whose failure counts: lowest step, then lowest grid index, then lowest lane. -/
def firstFailure (soft : Bool) (l : List LaneAcc) : Option LaneAcc :=
  let r := l.foldl (fun (m : Option (Nat × LaneAcc)) x =>
    match x.acc.failStep soft, m with
    | none, m => m
    | some n, none => some (n, x)
    | some n, some (k, y) => if n < k then some (n, x) else some (k, y)) none
  r.map Prod.snd

/-- The checks that depend on no lane (R111, R131, R132): a fault with its address. -/
def VCmd.baseFault (c : VCmd) : Option (Nat × Word) :=
  match c.op with
  | .tld | .tst | .tldx | .tstx =>
    if bf c.base 60 4 != 14 || bf c.base 21 39 != 0 then some (0x05, c.base)
    else
      (match c.op with
       | .tld | .tst =>
         let off := bf c.base 0 21 + 64 * c.fb
         if off % 64 != 0 then some (0x04, word (14 * 2 ^ 60 + off))
         else if 2 ^ 21 - 64 < off then some (0x05, word (14 * 2 ^ 60 + off))
         else none
       | _ => none)
  | _ => none

/-! ### What a command does at issue -/

/-- The outcome of a command's performance at issue: destination and its new contents under grid indices, the lanes it
writes, its flags and mailbox value; or what stops it. -/
structure VOut where
  regs : List (Nat × VReg)
  preds : List (Nat × Nat × BitVec 16)
  flags : FFlags
  mb : Option Word
deriving DecidableEq, Repr

/-- What an attempt to issue comes to: performance; a memory access that is performed behind its issue (R115): poison that a tower load has
met, the lanes of a GAMO on their way, the lanes a global access still has to perform; a wait, a fault, a park. -/
inductive VAct where
  | done (s : State) (o : VOut)
  | later (s : State) (poison : Option Word) (atoms : Option Atoms) (reads : List LaneReq)
  | hold
  | fault (s : State) (code : Nat) (addr : Word)
  | park (p : Park)

/-- A register with the lanes of a mask replaced. -/
def mergeLanes (old new : VReg) (m : BitVec 16) : VReg := ofLanes fun j => if m.getLsbD j then laneOf new j else laneOf old j

/-- The old content of a destination. -/
def State.vOld (s : State) (g : Nat) (d : VDst) : VReg :=
  match d with
  | .vec p => SMap.get 0 s.vregs (vKey (s.st.cell g) p)
  | _ => 0

/-- The free value of grid index g, element n, for the approximating ops and the reductions of a command. -/
def State.vFree (s : State) (g n : Nat) : Nat := (Config.free s.freeCtr (g * 64 + n)).toNat

/-- Ops that stay in their cell. -/
def State.vLocal (s : State) (c : VCmd) (ps : List (BitVec 16)) (ga gb : List VReg) : VOut :=
  let cells := (List.range ps.length).zip ps
  let one (g : Nat) (p : BitVec 16) : (Nat × VReg) × FFlags :=
    let a := s.vSource 1 g c.a ga
    let b := s.vSource 2 g c.b gb
    let old := s.vOld g c.dst
    let d := match c.op, c.dst with
      | .sel, .vec p => s.vRead 3 g p
      | _, .vec p => s.vRead 3 g p
      | _, _ => 0
    let sel := if c.op == .sel then s.pRead 5 g c.fb else 0
    let r (j : Nat) : W32 × FFlags := c.laneResult (!s.st.nsat) (s.vFree g) a b d sel j
    let new := ofLanes fun j => if p.getLsbD j then (r j).1 else laneOf old j
    let flags := (List.range 16).foldl (fun f j => if p.getLsbD j then f ||| (r j).2 else f) 0
    ((g, new), flags)
  let rs := cells.map fun e => one e.1 e.2
  ⟨rs.map Prod.fst, [], rs.foldl (fun f r => f ||| r.2) 0, none⟩

/-- VCMP, VCMPN, FCMP, PLOG, PSET: one predicate bit for each true lane (R122, R123). -/
def State.vPredicates (s : State) (c : VCmd) (ps : List (BitVec 16)) (ga gb : List VReg) : VOut :=
  let n := match c.dst with | .pred n => n | _ => 0
  let one (g : Nat) (p : BitVec 16) : (Nat × Nat × BitVec 16) × FFlags :=
    let a := s.vSource 1 g c.a ga
    let b := s.vSource 2 g c.b gb
    let pa := if c.op == .plog then s.pRead 5 g c.fa else 0
    let pb := if c.op == .plog then s.pRead 6 g c.fb else 0
    let r (j : Nat) : Bool × FFlags :=
      if c.op == .plog || c.op == .pset then (c.lanePred (pa.getLsbD j) (pb.getLsbD j) j, 0)
      else c.laneCompare (laneOf a j) (laneOf b j)
    let old := SMap.get 0 s.preds (pKey (s.st.cell g) n)
    let new := (List.range 16).foldl (fun m j =>
      if p.getLsbD j then (if (r j).1 then m ||| BitVec.ofNat 16 (2 ^ j) else m &&& ~~~(BitVec.ofNat 16 (2 ^ j))) else m) old
    let flags := (List.range 16).foldl (fun f j => if p.getLsbD j then f ||| (r j).2 else f) 0
    ((g, n, new), flags)
  let rs := ((List.range ps.length).zip ps).map fun e => one e.1 e.2
  ⟨[], rs.map Prod.fst, rs.foldl (fun f r => f ||| r.2) 0, none⟩

/-- The inputs of a reduction in one cell: the true lanes. -/
def State.redInputs (s : State) (c : VCmd) (g : Nat) (p : BitVec 16) (ga : List VReg) : List W32 :=
  let a := s.vSource 1 g c.a ga
  ((List.range 16).filter fun j => p.getLsbD j).map (laneOf a)

/-- VREDADD, VREDMAX (R128): scope 0 a cell, 1 the grid. -/
def State.vReduce (s : State) (c : VCmd) (ps : List (BitVec 16)) (ga : List VReg) : VOut :=
  let cells := (List.range ps.length).zip ps
  let free (g n : Nat) : Nat := s.vFree (64 * (n + 1) + g) 0
  let inputs := cells.map fun e => s.redInputs c e.1 e.2 ga
  let whole := c.reduce (free 0) inputs.flatten
  let each := ((List.range ps.length).zip inputs).map fun e => if e.2.isEmpty then (0, 0) else c.reduce (free e.1) e.2
  let value (g : Nat) : W32 := if c.fb == 0 then (each.getD g (0, 0)).1 else whole.1
  let flags : FFlags := if c.fb == 0 then each.foldl (fun f r => f ||| r.2) 0
    else if inputs.flatten.isEmpty then 0 else whole.2
  ⟨cells.map fun e => (e.1, mergeLanes (s.vOld e.1 c.dst) (ofLanes fun _ => value e.1) e.2), [], flags, none⟩

/-- VSHF (R130): each cell receives from the cell at (x + dx, y + dy), an edge cell zero. -/
def State.vShift (s : State) (c : VCmd) (ps : List (BitVec 16)) (ga : List VReg) : VOut :=
  let w := s.st.width
  let src (g : Nat) : VReg :=
    let x := g % w
    let y := g / w
    match c.fb with
    | 0 => if y + 1 < s.st.height then s.vSource 1 (g + w) c.a ga else 0
    | 1 => if x == 0 then 0 else s.vSource 1 (g - 1) c.a ga
    | 2 => if y == 0 then 0 else s.vSource 1 (g - w) c.a ga
    | _ => if x + 1 < w then s.vSource 1 (g + 1) c.a ga else 0
  ⟨((List.range ps.length).zip ps).map fun e => (e.1, mergeLanes (s.vOld e.1 c.dst) (src e.1) e.2), [], 0, none⟩

/-- VXTR and PTST (R129): the mailbox value, if it is written. -/
def State.vMailbox (s : State) (c : VCmd) (ps : List (BitVec 16)) (ga : List VReg) : Option Word :=
  match c.op with
  | .xtr => if (ps.getD 0 0).getLsbD c.fb then some (zext32 (laneOf (s.vSource 1 0 c.a ga) c.fb)) else none
  | _ =>
    let counted := trueLanes ps
    let bit (e : Nat × Nat) : Bool := (s.pRead 5 e.1 c.fa).getLsbD e.2
    some (word (2 * b2n (counted.all bit) + b2n (counted.any bit)))

/-! ### Loads, stores and atomics -/

/-- The physical address and page kind of a lane that passed. -/
def LaneAcc.place (l : LaneAcc) : Option (Nat × Nat) :=
  match l.acc with
  | .ok pa k _ _ => some (pa, k)
  | _ => none

/-- The access of a lane that passed. -/
def LaneAcc.req (l : LaneAcc) (size time : Nat) : Option LaneReq := l.place.map fun e => ⟨l.g, l.j, l.addr, e.1, e.2, size, time⟩

/-- The value a load lane receives: its bytes sign-extended (R132, R135). -/
def State.laneLoad (s : State) (l : LaneReq) : W32 := low32 (extend l.size true (bytesNat (s.coreBytes s.st.coreIdx l.pa l.size)))

/-- What keeps a lane's bytes from the load: the first poisoned byte of it, or a home that does not answer (R115, R391). -/
def State.laneFails (s : State) (l : LaneReq) : Option (Nat × Word) :=
  match s.firstPoison s.st.coreIdx l.pa l.size with
  | some a => some (0x0C, word (l.va.toNat + (a - l.pa)))
  | none => if s.reachable l.pa then none else some (0x05, l.va)

/-- R390: poisoned lines of the expander that the lanes read are logged. -/
def State.noteLanes (s : State) (ls : List LaneReq) : State :=
  ((ls.filterMap fun l => (s.firstPoison s.st.coreIdx l.pa l.size).map fun a => a - a % 64).dedup).foldl
    (fun s a => s.notePoison s.st.part s.st.coreIdx a) s

/-- The destination registers of a load from its lanes' values. -/
def State.laneRegs (s : State) (c : VCmd) (ps : List (BitVec 16)) (val : Nat → Nat → W32) : List (Nat × VReg) :=
  ((List.range ps.length).zip ps).map fun e => (e.1, mergeLanes (s.vOld e.1 c.dst) (ofLanes (val e.1)) e.2)

/-- The value of a lane from a list of lanes' values. -/
def laneValue (vs : List ((Nat × Nat) × W32)) (g j : Nat) : W32 := (vs.lookup (g, j)).getD 0

/-- A tower load that has passed its checks reads its tower at issue (R133); poison in it is found when its data return (R115). -/
def State.vLoad (s : State) (c : VCmd) (ps : List (BitVec 16)) (rs : List LaneReq) : VAct :=
  match rs.findSome? s.laneFails with
  | some (_, a) => .later s (some a) none []
  | none => .done s ⟨s.laneRegs c ps (laneValue (rs.map fun l => ((l.g, l.j), s.laneLoad l))), [], 0, none⟩

/-- A byte list in which a later write of an address replaces an earlier one. -/
def overlay (bs : List (Nat × Byte)) : List (Nat × Byte) := bs.foldl (fun m e => m.filter (fun x => x.1 != e.1) ++ [e]) []

/-- A store that has passed its checks: lanes in rising order, so that the highest stands (R132, R136). -/
def State.vStore (s : State) (c : VCmd) (addr : Word) (ls : List LaneAcc) : State :=
  let bytes (k : Nat) : List (Nat × Byte) := overlay (ls.map fun l => match l.place, c.dst with
    | some (pa, kind), .vec p => if kind == k then layout pa (natBytes c.accessSize (laneOf (s.vRead 3 l.g p) l.j).toNat) else []
    | _, _ => []).flatten
  [0, 1, 2].foldl (fun t k => match bytes k with
    | [] => t
    | b => t.fineWrite t.st.coreIdx t.st.sid k addr b) s

/-- Lanes in the order the V engine chooses (R137): by a free key each. -/
def insertLane (key : LaneAcc → Nat) (l : LaneAcc) : List LaneAcc → List LaneAcc
  | [] => [l]
  | x :: t => if key l < key x then l :: x :: t else x :: insertLane key l t

/-- The code under which a GAMO's request travels. -/
def gamoOp (lb ty : Nat) : Nat := if ty == 1 then 10 else match lb with | 0 => 11 | 1 => 14 | 2 => 15 | _ => 13

/-- The lanes of a GAMO leave as requests, relaxed and at domain scope, in an order the V engine chooses (R137, R269). -/
def State.vSend (s : State) (cmd : Cmd) (c : VCmd) (ls : List LaneAcc) : State × Atoms :=
  let operand (l : LaneAcc) : W32 := match c.dst with | .vec p => laneOf (s.vRead 3 l.g p) l.j | _ => 0
  let order := ls.foldl (fun m l => insertLane (fun x => (Config.free s.freeCtr (x.g * 16 + x.j)).toNat) l m) []
  let reqs := order.filterMap fun l => l.place.map fun e =>
    (⟨gamoOp c.lb c.ty, e.1, l.addr, 0, 6, zext32 (operand l), [⟨s.st.sid, 300, some (s.freeCtr, l.g, l.j, l.addr), cmd.addr, zext32 (operand l), 0⟩],
      s.time⟩ : AtomReq)
  ({ s with net := s.net ++ reqs }, ⟨s.freeCtr, reqs.length, [], none⟩)

/-- R280: a global access of the V queue that is still to be performed touches one of these bytes. -/
def Strand.vBusy (st : Strand) (pa n : Nat) : Bool := st.vLanes.any fun l => decide (l.pa < pa + n) && decide (pa < l.pa + l.size)

/-- Whether an access of the command must wait: for an S access of the strand, a kind-S lane for the strand's earlier accesses
(R285), any lane for an earlier access of the V queue to its bytes (R280), a load for buffered lines that hold part of it (R264), an
atomic for a buffered write of its line (R280). -/
def State.vHeld (s : State) (need : Need) (ls : List LaneReq) : Bool :=
  s.sOpen s.st || ls.any fun l =>
    (l.kind == 0 && s.sBlocked s.st) || s.st.vBusy l.pa l.size || (need == .load && s.outMixed s.st.coreIdx l.pa l.size) ||
      (need == .atomic && s.amoLine s.st l.pa)

/-- A memory command: base checks, lane checks, then its accesses. A global load reads its lanes, and a GAMO performs them, behind its
issue (R115, R137). -/
def State.vMemory (s : State) (cmd : Cmd) (c : VCmd) (need : Need) (ps : List (BitVec 16)) (gb : List VReg) : VAct :=
  match c.baseFault with
  | some (code, a) => .fault s code a
  | none =>
    let bs := (List.range ps.length).map fun g => s.vSource 2 g c.b gb
    let ls := (trueLanes ps).map fun e => s.laneCheck c need e.1 e.2 (bs.getD e.1 0)
    match firstFailure (c.op == .gldp) ls with
    | some l =>
      (match l.acc with
       | .absent cause => .park ⟨l.addr, need.kind, cause, 1⟩
       | .fault code _ => .fault s code l.addr
       | .ok _ _ _ _ => .hold)
    | none =>
      let rs := ls.filterMap (·.req c.accessSize s.time)
      if s.vHeld need rs then .hold
      else
        let t := ls.foldl (fun t l => t.cacheFor t.st l.addr) s
        match need with
        | .load => if c.op == .tld || c.op == .tldx then t.vLoad c ps rs else .later t none none rs
        | .store => .done (t.vStore c cmd.addr ls) ⟨[], [], 0, none⟩
        | .atomic => let r := t.vSend cmd c ls
                     .later r.1 none (some r.2) rs

/-- What a command does once nothing holds it. -/
def State.vAct (s : State) (cmd : Cmd) (c : VCmd) (ga gb : List VReg) : VAct :=
  let ps := (List.range s.st.cellCount).map fun g => s.pRead 4 g c.cond
  match c.op.need with
  | some need => s.vMemory cmd c need ps gb
  | none =>
    match c.op with
    | .nop | .fence => .done s ⟨[], [], 0, none⟩
    | .xtr | .ptst => .done s ⟨[], [], 0, s.vMailbox c ps ga⟩
    | .redadd | .redmax => .done s (s.vReduce c ps ga)
    | .shf => .done s (s.vShift c ps ga)
    | .cmp | .cmpn | .fcmp | .plog | .pset => .done s (s.vPredicates c ps ga gb)
    | _ => .done s (s.vLocal c ps ga gb)

/-! ### Issue (R108) -/

/-- The results of a command stand in its destinations. -/
def State.vWrite (s : State) (c : VCmd) (o : VOut) : State :=
  let vregs := match c.dst with
    | .vec p => o.regs.foldl (fun m e => SMap.set 0 m (vKey (s.st.cell e.1) p) e.2) s.vregs
    | _ => s.vregs
  let preds := o.preds.foldl (fun m e => if e.2.1 == 0 then m else SMap.set 0 m (pKey (s.st.cell e.1) e.2.1) e.2.2) s.preds
  { s with vregs := vregs, preds := preds }

/-- The pending results of a command: its destination's, and for GLDP that of p11, which makes the posts. -/
def State.vFlights (s : State) (cmd : Cmd) (c : VCmd) (o : VOut) (poison : Option Word) (atoms : Option Atoms) (reads : List LaneReq)
    (pops : List (Nat × Nat × Group)) : List Flight :=
  let lanes := (List.range s.st.cellCount).map fun g => (s.st.cell g, s.pRead 4 g c.cond)
  let dst := match c.op with
    | .tst | .tstx | .gst | .nop | .fence => VDst.none
    | _ => c.dst
  let f : Flight := ⟨cmd, dst, lanes, s.st.vcyc + c.bound s.st.cellCount, c.interlocked, c.op == .gst, o.flags, o.mb,
    cmd.tok, c.op == .nop || c.op == .fence, poison, 0, atoms, reads, pops⟩
  if c.op == .gldp then [{ f with tok := 0 }, { f with dst := .pred 11 }] else [f]

/-- R196 stage 5 for V results: posts of performed commands in command order; a result that is over and due is
forgotten. -/
def Strand.postFlights (st : Strand) (fs : List Flight) : Strand × List Flight :=
  match fs with
  | [] => (st, [])
  | f :: t =>
    if !f.landed then (st, f :: t)
    else
      let r := st.post .V f.tok
      if r.2 != 0 then (r.1, { f with tok := r.2 } :: t)
      else
        let u := Strand.postFlights r.1 t
        (u.1, { f with tok := 0 } :: u.2)

/-- R109, R110: a result that is over is needed no longer, by which readers know what an earlier one of its destination, not yet due, may
still change. -/
def Flight.spent (f : Flight) (vcyc : Nat) (older : List Flight) : Bool :=
  f.over && (f.dst == .none || ((f.inter || decide (f.due ≤ vcyc)) && !older.any fun e => e.dst == f.dst && !e.inter && decide (vcyc < e.due)))

/-- The results that are still needed, behind those kept so far. -/
def keepFlights (vcyc : Nat) : List Flight → List Flight → List Flight
  | kept, [] => kept
  | kept, f :: t => keepFlights vcyc (if f.spent vcyc kept then kept else kept ++ [f]) t

/-- The posts that can be made are made. -/
def Strand.settleFlights (st : Strand) : Strand :=
  let r := st.postFlights st.flights
  { r.1 with flights := keepFlights st.vcyc [] r.2 }

/-- A V command leaves the queue with its pending results. -/
def Strand.vLeave (st : Strand) (fs : List Flight) : Strand :=
  Strand.settleFlights { st with vq := { st.vq with cur := none }, flights := st.flights ++ fs }

/-- R112: a discarded command: nothing but its posts, in command order. -/
def Strand.vDiscard (st : Strand) (c : Cmd) : Strand :=
  st.vLeave [⟨c, .none, [], st.vcyc, false, false, 0, none, c.tok, true, none, 0, none, [], []⟩]

/-- Results issued and not yet landed that the replay buffer can hold (R178). -/
def replayDepth : Nat := 48

/-- The results a command makes (R178): registers and predicates. -/
def VCmd.results (c : VCmd) : Nat :=
  match c.op with
  | .tst | .tstx | .gst | .nop | .fence | .xtr | .ptst => 0
  | .gldp => 2
  | _ => 1

/-- R178: the command's results would be more than the replay buffer holds. -/
def Strand.replayFull (st : Strand) (c : VCmd) : Bool :=
  c.results != 0 && decide (replayDepth < (st.flights.filter fun f => !f.landed && f.dst != .none).length + c.results)

/-- The groups a command needs, or what holds it or faults. -/
def Strand.pops (st : Strand) (cmd : Cmd) (l : List (Nat × Nat)) : Except Pop (List (Nat × Group)) :=
  match l with
  | [] => .ok []
  | (q, b) :: t =>
    match st.streamHead cmd q b with
    | .group g =>
      (match Strand.pops st cmd t with
       | .ok r => .ok ((q, g) :: r)
       | e => e)
    | p => .error p

/-- The group a source takes. -/
def groupOf (l : List (Nat × Group)) (v : VSrc) : List VReg :=
  match v with
  | .stream q _ => match l.lookup q with | some g => g.data | none => []
  | _ => []

/-- The groups a command pops, with the binding each belongs to. -/
def popped (l : List (Nat × Nat)) (gs : List (Nat × Group)) : List (Nat × Nat × Group) :=
  gs.map fun e => (e.1, (l.lookup e.1).getD 0, e.2)

/-- Nothing is written yet. -/
def VOut.none : VOut := ⟨[], [], 0, Option.none⟩

/-- A command has issued: its groups are popped, the window closes, its results stand, and commands under way count it (R168). -/
def State.vIssued (s : State) (gs : List (Nat × Group)) (fs : List Flight) (c : VCmd) (o : VOut) : State :=
  let st := (gs.foldl (fun st e => Strand.popGroup st e.1) s.st).closeWindow 1
  let t := { s with st := { st with flights := st.flights.map fun f : Flight => { f with later := f.later + 1 } } }.vWrite c o
  { t with st := t.st.vLeave fs, freeCtr := s.freeCtr + 8 }

/-- A command at stage 4 of R196: the issue rules, then its performance. -/
def State.vPerform (s : State) (cmd : Cmd) (c : VCmd) : State :=
  match c.dst with
  | .bound _ => s.engineFault .V cmd 0x0B 0 0
  | _ =>
    match s.st.pops cmd c.streams with
    | .error (.fault code a) => s.engineFault .V cmd code a 0
    | .error _ => s
    | .ok gs =>
      if s.st.vInterlock c || s.st.replayFull c || (c.op == .fence && !s.st.flights.all (·.landed)) then s
      else
        match s.vAct cmd c (groupOf gs c.a) (groupOf gs c.b) with
        | .hold => s
        | .fault t code a => State.engineFault { t with freeCtr := s.freeCtr + 8 } .V cmd code a 0
        | .park p => s.parkNow p
        | .done t o => t.vIssued gs (s.vFlights cmd c o none none [] []) c o
        | .later t p a r => t.vIssued gs (s.vFlights cmd c VOut.none p a r (popped c.streams gs)) c VOut.none

/-! ### Landing (R109, R114) -/

/-- Whether a result may land now: a store once its bytes have left the outbound buffer, and a far home has answered; a global load
where no buffered line holds part of it (R264) and no retrain keeps it (R384, R387); a GAMO once every lane has heard. -/
def State.canLand (s : State) (f : Flight) : Bool :=
  (match f.atoms with
   | some a => a.left == 0
   | none => match f.dst with
     | .pred _ => true
     | _ => !f.reads.any fun l => s.outMixed s.st.coreIdx l.pa l.size || s.stalled s.st.die l.pa) &&
  (!f.store || !((s.outQ s.st.coreIdx) ++ s.farWrites).any fun e => e.sid == s.st.sid && e.addr == f.cmd.addr)

/-- A result landed: the first of the list that is the given one. -/
def landOne (x : Flight) : List Flight → List Flight
  | [] => []
  | f :: t => if f == x then { f with landed := true } :: t else f :: landOne x t

/-- What a result met on its way: a fault and its address (R115). -/
def Flight.failure (f : Flight) : Option (Nat × Word) :=
  match f.poison, f.atoms with
  | some a, _ => some (0x0C, a)
  | none, some a => a.bad.map Prod.snd
  | none, none => none

/-- R115: a faulting command pops nothing: a group it has popped is again the next of its binding. -/
def Strand.unpop (st : Strand) (e : Nat × Nat × Group) : Strand :=
  { st with streams := st.streams.map fun r =>
      if r.1 == e.1 && r.2.bound && r.2.bind == e.2.1 then (r.1, { r.2 with fifo := e.2.2 :: r.2.fifo }) else r }

/-- R115: a load or GAMO has failed behind its issue: its results go, its groups stand in their streams and it stands at the V head
again, and its fault is pending with the number of V commands that have issued since. -/
def Strand.failFlight (st : Strand) (f : Flight) (code : Nat) (a : Word) : Strand :=
  let c := f.cmd
  let st := f.pops.foldl Strand.unpop st
  let v := st.vq
  ({ st with flights := st.flights.filter fun x => x.cmd != c,
             vq := { v with cur := some c, items := v.cur.toList.map Item.cmd ++ v.items, stopped := true } }).addPend
    ⟨code, 1, f.later, c.addr, a, c.repk, c.seq, c.lp, false⟩

/-- Lane values in a destination. -/
def State.lanesLand (s : State) (f : Flight) (vs : List ((Nat × Nat) × W32)) : State :=
  match f.dst with
  | .vec p =>
    { s with vregs := ((List.range f.lanes.length).zip f.lanes).foldl (fun m e =>
        let old := SMap.get 0 m (vKey e.2.1 p)
        SMap.set 0 m (vKey e.2.1 p) (mergeLanes old (ofLanes (laneValue vs e.1)) e.2.2)) s.vregs }
  | _ => s

/-- R135: p11 of a GLDP: 1 in the true lanes whose page is not resident. -/
def State.absentLand (s : State) (f : Flight) : State :=
  { s with preds := ((List.range f.lanes.length).zip f.lanes).foldl (fun m e =>
      let there := (f.reads.filter (·.g == e.1)).foldl (fun (b : BitVec 16) l => b ||| BitVec.ofNat 16 (2 ^ l.j)) 0
      SMap.set 0 m (pKey e.2.1 11) ((SMap.get 0 m (pKey e.2.1 11) &&& ~~~e.2.2) ||| (e.2.2 &&& ~~~there))) s.preds }

/-- The result belongs to a GLDP. -/
def Flight.isGldp (f : Flight) : Bool := match f.cmd.pay with | .v c => c.op == .gldp | _ => false

/-- The values of a result that is performed behind its issue stand in its destination. -/
def State.resultLand (s : State) (f : Flight) : State :=
  match f.atoms with
  | some a => s.lanesLand f a.got
  | none =>
    if f.isGldp && f.dst == .pred 11 then s.absentLand f
    else if f.reads.isEmpty && !f.isGldp then s
    else
      f.reads.foldl (fun (t : State) l => t.noteRead t.st.coreIdx t.st.sid l.pa l.size) (s.lanesLand f (f.reads.map fun l => ((l.g, l.j), s.laneLoad l)))

/-- A lane of a global load fails (R115, R391), the lowest grid index and lane first. -/
def State.readFails (s : State) (f : Flight) : Option (Nat × Word) :=
  match f.atoms, f.dst with
  | none, .vec _ => f.reads.findSome? s.laneFails
  | _, _ => none

/-- A result of the executing strand lands, or is found to have failed: its values, flags and mailbox value are recorded, its posts
follow. Other packages may have written the remote bytes it reads. -/
def State.landFlight (s : State) (f : Flight) : State :=
  let s := if f.atoms.isSome then s else (f.reads.filter fun l => !s.outForwards s.st.coreIdx l.pa l.size).foldl (fun s l => s.foreignWrite l.pa l.size) s
  match f.failure.or (s.readFails f) with
  | some (code, a) =>
    let s := s.noteLanes f.reads
    State.logRaised { s with st := s.st.failFlight f code a } code a 0
  | none =>
    let s := s.resultLand f
    let st := { s.st with flights := landOne f s.st.flights }
    let st := st.orFlags f.flags
    let st := match f.mb with | some v => st.setSys 0x005 v | none => st
    { s with st := st.settleFlights }

/-- The oldest result of the executing strand that may land lands; while the strand is parked only global accesses are performed. -/
def State.vLand (s : State) : State :=
  match s.st.flights.find? fun f => !f.landed && s.canLand f && (s.st.park.isNone || !f.reads.isEmpty) with
  | none => { s with st := s.st.settleFlights }
  | some f => s.landFlight f

/-- R109: a result that is not interlocked and whose bound has come lands, behind every earlier one of its kind: the first of those still
to land. -/
def Strand.dueFlight (st : Strand) : Option Flight :=
  let open' := st.flights.filter fun f => !f.landed && !f.inter
  if open'.any fun f => decide (f.due ≤ st.vcyc) then open'.head? else none

/-- Every result that is due lands. -/
def State.landDue (s : State) : Nat → State
  | 0 => s
  | n + 1 => match s.st.dueFlight with
    | some f => (s.landFlight f).landDue n
    | none => s

/-- V_PERFORMED (R114). -/
def execVPerformed (s : State) : Host.Outcome State Fault Refusal :=
  .next (if s.st.live then s.vLand else s)

/-- The V cycle of an issue: `gap` cycles behind the last, or, for a command that its page has come to, the one it stood at (R179). -/
def Strand.vClock (st : Strand) (gap : Nat) : Strand :=
  { st with vcyc := if st.vfrozen then st.vcyc else st.vcyc + gap + 1, vfrozen := false }

/-- V_ISSUE (R108): after `gap` cycles without issue, what is due lands, and the head of the V queue issues, is discarded, or
waits, also while the governor holds its issue (R404). -/
def execVIssue (gap : Nat) (s : State) : Host.Outcome State Fault Refusal :=
  if s.st.queueOff .V || s.resumeWaits 1 then .next s
  else
    let u := State.landDue { s with st := s.st.vClock gap } s.st.flights.length
    if u.st.queueOff .V then .next u
    else
    let r := u.st.stage .V
    let t := { u with st := r.1 }
    .next (match r.2 with
      | .perform cmd => if t.hub.holds then { t with st := t.st.settleFlights }
        else (match cmd.pay with | .v c => (t.resumed 1).vPerform cmd c | _ => t)
      | .discard cmd => { t with st := t.st.vDiscard cmd }
      | _ => { t with st := t.st.settleFlights })

end Sys2Proof.Machine
end

