-- ==== Sys2Proof/Machine/Dot.lean ====
section
/-! DEFINITION. The arithmetic of the dot engine (R144-R161): tile layouts, operand values, accumulator units, the
down-converter, TOUT's epilogues and stores, and summation by parts. -/

namespace Sys2Proof.Machine

/-! ### Tile layouts (R146) -/

/-- The elementwise floating-point format of a format code (Table 2.9). -/
def fmtOfCode (f : Nat) : Option Fmt :=
  match f with
  | 4 => some .e4m3
  | 5 => some .e5m2
  | 6 => some .e2m1
  | 7 => some .bf16
  | 8 => some .fp16
  | 10 => some .fp32
  | _ => none

/-- Bytes of e elements in a format. -/
def tileBytes (f e : Nat) : Nat :=
  match f with
  | 0 => 48 * e / 128
  | 1 => 80 * e / 128
  | 2 => 128 * e / 128
  | 6 => e / 2
  | 7 | 8 => 2 * e
  | 9 => 144 * e / 256
  | 10 => 4 * e
  | _ => e

/-- Element i of a tile whose bytes are x, with its exponent bound (R74). DESIGN CHOICE: a zero takes the bound of the subnormals
(log 62). -/
def tileElem (f x i : Nat) : FVal × Int :=
  if f ≤ 2 then
    let bits := bqBits f
    let off := 8 * (bqGroupBytes f * (i / 128))
    let k := i % 128 / 16
    let ex := bitsOf x (off + 8 * k) 8
    let qs := bitsOf x (off + 64 + 8 * k + 2 * (i % 16 / 4)) 2
    let el := bitsOf x (off + 128 + bits * (i % 128)) bits
    let v := if ex == 255 then .nan false
      else .fin (el / 2 ^ (bits - 1) == 1) (el % 2 ^ (bits - 1)) ((ex : Int) - 127 - qs - (bits - 2 : Nat))
    (v, (ex : Int) - 126)
  else
    match fmtOfCode f with
    | some m =>
      let el := bitsOf x (m.width * i) m.width
      let e := bitsOf el m.mbits m.ebits
      (m.decode el, if e == 0 then 2 - (m.bias : Int) else (e : Int) - m.bias + 1)
    | none =>
      let v := bitsInt 8 (bitsOf x (8 * i) 8)
      (.fin (decide (v < 0)) v.natAbs 0, 8)

/-! ### Shapes and accumulator units (R144, R145) -/

def shapeM (shape : Nat) : Nat := if shape == 0 then 16 else if shape == 2 then 8 else 32
def shapeN (shape : Nat) : Nat := if shape == 0 then 16 else if shape == 1 then 8 else 32

/-- The tiles of a unit. -/
def unitTiles (shape n : Nat) : List Nat := if shape == 3 then [n, n + 4, n + 8, n + 12] else [n]

/-- Tile and element number of element (row, col) of a unit. -/
def unitElem (shape n row col : Nat) : Nat × Nat :=
  if shape == 3 then (n + 4 * (2 * (row / 16) + col / 16), row % 16 * 16 + col % 16) else (n, row * shapeN shape + col)

/-- The last unit of a shape. -/
def lastUnit (shape : Nat) : Nat := if shape == 3 then 3 else 15

/-- An accumulator element and its tile's type bit (true INT32). -/
def State.accElem (s : State) (cell shape n row col : Nat) : W32 × Bool :=
  let e := unitElem shape n row col
  (SMap.get 0 s.acc (accKey cell e.1 e.2), SMap.get false s.accInt (tKey cell e.1))

/-- Rows and columns of a shape in order. -/
def shapeElems (shape : Nat) : List (Nat × Nat) :=
  ((List.range (shapeM shape)).map fun r => (List.range (shapeN shape)).map fun c => (r, c)).flatten

/-- Elements of a unit written in one cell, with the unit's type bits. -/
def State.setUnit (s : State) (cell shape n : Nat) (es : List (Nat × Nat)) (int : Bool) (f : Nat → Nat → W32) : State :=
  { s with
    acc := es.foldl (fun m e =>
      let p := unitElem shape n e.1 e.2
      SMap.set 0 m (accKey cell p.1 p.2) (f e.1 e.2)) s.acc,
    accInt := (unitTiles shape n).foldl (fun m t => SMap.set false m (tKey cell t) int) s.accInt }

/-- A change made in every cell of the grid. -/
def State.eachCell (s : State) (f : State → Nat → State) : State := s.st.grid.foldl f s

/-! ### Accumulation (R73-R76) -/

/-- One run of a command in its queue: what a replay repeats (R241). -/
def Cmd.run (c : Cmd) : Nat := ((c.seq * 2 ^ 64 + c.lp.iter) * 2 ^ 64 + c.lp.inner) * 64 + c.repk

/-- The free value of an element of a dot command. -/
def State.dotFree (s : State) (c : Cmd) (cell row col : Nat) : Nat :=
  (Config.dotFree s.st.sid c.run (cell * 1024 + row * 32 + col)).toNat

/-- A product term. -/
def mulTerm (a b : FVal × Int) : Term := ⟨a.1.mul b.1, a.2 + b.2⟩

/-- DOT (R150) in one cell, from the operands' values: A by row and k, B by k and column. -/
def State.dotCell (s : State) (c : Cmd) (cell n k : Nat) (int : Bool) (a b : Nat → Nat → FVal × Int) : State :=
  let shape := s.st.shape
  let val (row col : Nat) : W32 :=
    accumulate int (s.dotFree c cell row col) (s.accElem cell shape n row col).1
      ((List.range k).map fun i => mulTerm (a row i) (b i col))
  s.setUnit cell shape n (shapeElems shape) int val

/-! ### The down-converter (R151) -/

/-- An accumulator element as a value: FP32, or an exact integer. -/
def accValue (x : W32 × Bool) : FVal :=
  if x.2 then .fin (decide (x.1.toInt < 0)) x.1.toInt.natAbs 0 else Fmt.fp32.decode x.1.toNat

/-- Element k of row `row` of a DOTC source. -/
def State.chainElem (s : State) (cell a row k : Nat) : W32 × Bool :=
  let n := shapeN s.st.shape
  s.accElem cell s.st.shape (a + k / n) row (k % n)

/-- One element of the converted A operand, in target 0 BQ7, 1 BQ4, 2 BQ2, 3 BF16. -/
def State.downConvert (s : State) (cell a target row k : Nat) : FVal × Int :=
  if target == 3 then
    let x := s.chainElem cell a row k
    let y := if x.2 then (convertI .bf16 x.1.toInt).1 else (convertF .fp32 .bf16 true 0 x.1.toNat).1
    tileElem 7 y 0
  else
    let f := 2 - target
    let vs := (List.range 16).map fun i => accValue (s.chainElem cell a row (k / 16 * 16 + i))
    let blk := (bqPack (bqBits f) vs).1
    (blk.value (bqBits f) (k % 16), (blk.ex : Int) - 126)

/-! ### TOUT and TIN (R152, R153) -/

/-- The largest finite magnitude of a destination format, as a value. -/
def outMax (g : Nat) : FVal :=
  match fmtOfCode g with
  | some m => (match m.decode m.maxBits with | .fin _ a b => .fin false a b | v => v)
  | none => if g == 3 then .fin false 127 0 else (match Fmt.fp32.decode Fmt.fp32.maxBits with | .fin _ a b => .fin false a b | v => v)

/-- Its integer part, capped at 2^31 - 1. -/
def outMaxInt (g : Nat) : Int := min (truncTerm (some (outMax g))) (2 ^ 31 - 1)

/-- The bias value as the INT32 epilogue adds it. -/
def biasInt (v : FVal) : Int :=
  match v with
  | .nan _ => 0
  | .inf n => if n then -(2 ^ 31) else 2 ^ 31 - 1
  | .fin n m e => satI (rneInt n m e).1 32

/-- The epilogue on an accumulator element: 1 ReLU, 2 clamp, 3 add-bias-row. -/
def epilogue (e g : Nat) (x : W32 × Bool) (bias : FVal) : W32 × Bool :=
  let v := accValue x
  match e with
  | 1 => if v.isNan then x else if v.sign then (0, x.2) else x
  | 2 =>
    if x.2 then
      let m := outMaxInt g
      (BitVec.ofInt 32 (max (min x.1.toInt m) (-m)), true)
    else if v.isNan then x
    else
      let m := outMax g
      let mb := BitVec.ofNat 32 (Fmt.fp32.round true m).1
      if m.lt v then (mb, false) else if v.lt m.neg then (mb ||| 0x80000000#32, false) else x
  | 3 =>
    if x.2 then (BitVec.ofInt 32 (x.1.toInt + biasInt bias), true)
    else (BitVec.ofNat 32 (Fmt.fp32.result (v.add bias) 0).1, false)
  | _ => x

/-- The low 8 bits of sat_i(rne(v), 8), NaN 0. -/
def outInt8 (v : FVal) : Nat :=
  match v with
  | .nan _ => 0
  | .inf n => intBits 8 (if n then -128 else 127)
  | .fin n m e => intBits 8 (satI (rneInt n m e).1 8)

/-- out(x, G) for an elementwise destination. -/
def outElem (g : Nat) (x : W32 × Bool) : Nat :=
  match fmtOfCode g with
  | some m =>
    if g == 10 && !x.2 then x.1.toNat
    else if x.2 then (convertI m x.1.toInt).1 else (convertF .fp32 m true 0 x.1.toNat).1
  | none => outInt8 (accValue x)

/-- The bytes of a tile of elements in a format (R62, R64, R65). -/
def outBytes (g : Nat) (xs : List (W32 × Bool)) : List Byte :=
  if g ≤ 2 then
    let bits := bqBits g
    let block (j : Nat) : BqBlock := (bqPack bits ((xs.drop (16 * j)).take 16 |>.map accValue)).1
    ((List.range (xs.length / 128)).map fun i => bqGroupOf g ((List.range 8).map fun k => block (8 * i + k))).flatten
  else
    let w := match fmtOfCode g with | some m => m.width | none => 8
    natBytes (tileBytes g xs.length) (xs.foldr (fun x a => outElem g x + 2 ^ w * a) 0)

/-- TIN's loaded value of element i of a tile x in format f. -/
def inElem (f x i : Nat) (int : Bool) : W32 :=
  if f == 10 then BitVec.ofNat 32 (bitsOf x (32 * i) 32)
  else if f == 3 then
    let v := bitsInt 8 (bitsOf x (8 * i) 8)
    if int then BitVec.ofInt 32 v else BitVec.ofNat 32 (convertI .fp32 v).1
  else
    let v := match fmtOfCode f with
      | some m => m.decodeFlush (bitsOf x (m.width * i) m.width)
      | none => (tileElem f x i).1
    if int then BitVec.ofInt 32 (toI32 v).1 else BitVec.ofNat 32 (Fmt.fp32.round true v).1

/-! ### Summation by parts (R155-R160) -/

/-- A permutation table that holds nothing (R163). -/
def PermTable.initial : PermTable := ⟨[], [], 0, 0, false, false⟩

/-- A running sum of zero. -/
def RunSum.initial : RunSum := ⟨[], 0, [], []⟩

/-- SBPPT from the 144 bytes of a row (R157). -/
def permOf (x row : Nat) : PermTable :=
  let code (i : Nat) : Nat := bitsOf x (128 + 4 * i) 4
  let order := ((List.range 16).map fun c => (List.range 256).filter fun i => code i == c).flatten
  let ends := (List.range 16).map fun c => ((List.range 256).filter fun i => decide (code i ≤ c)).length
  let h := BitVec.ofNat 128 x
  ⟨order, ends, h, row, true, sg4Nan h⟩

/-- t(i): x(i) in units of 2^(X - 166), toward zero. -/
def scanTerm (v : FVal) (xexp : Nat) : Int :=
  match v with
  | .fin n m e =>
    let k := e - ((xexp : Int) - 166)
    if 0 ≤ k then sgn n (m * 2 ^ k.toNat) else sgn n (m / 2 ^ (-k).toNat)
  | _ => 0

/-- SBPSC of one column (R158): x the activation tile, format f 1 or 2. -/
def scanColumn (p : PermTable) (f x col : Nat) : RunSum :=
  let elem (i : Nat) : FVal × Int := tileElem f x (col * 256 + i)
  let exps := (List.range 16).map fun j => ((elem (16 * j)).2 + 126).toNat
  if exps.any (· == 255) then ⟨List.replicate 16 0, 255, List.replicate 16 (0, 0), List.replicate 16 (0, 0)⟩
  else
    let xe := exps.foldl max 0
    let upTo (v : Nat) : List Nat := p.order.take (p.ends.getD v 0)
    let bucket (v : Nat) : List (Int × Int) :=
      ((upTo v).drop (if v == 0 then 0 else p.ends.getD (v - 1) 0)).map fun i => (elem i).1.scaled
    let sums := (List.range 16).map fun v => BitVec.ofInt 64 ((upTo v).foldl (fun a i => a + scanTerm (elem i).1 xe) 0)
    ⟨sums, BitVec.ofNat 8 xe, (List.range 16).map fun v => (bucket v).foldl scaledAdd (0, 0),
      (List.range 16).map fun v => ((bucket v).map scaledAbs).foldl scaledAdd (0, 0)⟩

/-- Codebook value c of a header, as an integer (R66). -/
def sg4Code (h : BitVec 128) (c : Nat) : Int := sg4V0 h + ((sg4Diffs h).take c).sum

/-- Z of R159. -/
def sbpZ (h : BitVec 128) (r : RunSum) : Int :=
  let s (v : Nat) : Int := (r.s.getD v 0).toInt
  sg4Code h 15 * s 15 - ((List.range 15).map fun v => ((sg4Diffs h).getD v 0 : Int) * s v).sum

/-- R161, R74: whether c lies within the bound of one row and one column around the exact sum: 2^-22 of the magnitudes, and
τ = 256 * 2^-40 * 2^eB. -/
def withinSbpBound (c exact rel : Int × Int) (eb : Int) : Bool :=
  scaledLe (scaledAbs (scaledAdd c (-exact.1, exact.2))) (scaledAdd (rel.1, rel.2 - 22) (1, eb - 32))

/-- FP32 accumulation of one SG4 group (R159, R161): of the value the difference form gives, or any finite value within the bound of R74
around the sum of the exact products. DESIGN CHOICE: the value of a group stands for its terms under R434, so a zero from an old -0
and terms that are all -0 is +0 (log 61); a result is never infinity where the sum rounds to a finite value (log 113). -/
def accumSbp (free : Nat) (a : W32) (value products mag : Int × Int) (eb : Int) : W32 :=
  let f := Fmt.fp32
  match f.decode a.toNat with
  | .nan _ => 0x7FC00000#32
  | .inf _ => a
  | .fin n m e =>
    let sum := scaledAdd (sgn n m, e) value
    let best := BitVec.ofNat 32 (f.round true (sumVal sum false)).1
    match f.decode (free % 2 ^ 32) with
    | .fin cn cm ce =>
      if zeroSignOk sum cn cm && withinSbpBound (sgn cn cm, ce) (scaledAdd (sgn n m, e) products) (scaledAdd ((m : Int), e) mag) eb then
        BitVec.ofNat 32 free
      else best
    | _ => best

/-- R159: the sum over the codes of w(c), in units of 2^(E - 133), times a per-code sum. -/
def sbpWeigh (h : BitVec 128) (w : Int → Int) (per : List (Int × Int)) : Int × Int :=
  let sum := (List.range 16).foldl (fun t c => let x := per.getD c (0, 0); scaledAdd t (w (sg4Code h c) * x.1, x.2)) (0, 0)
  (sum.1, sum.2 + (sg4E h : Int) - 133)

/-- SBPMA into one element (R159). -/
def sbpElem (int : Bool) (free : Nat) (a : W32) (p : PermTable) (r : RunSum) : W32 :=
  if p.nan || r.x == 255 then (if int then a else 0x7FC00000#32)
  else
    let e := (sg4E p.header : Int) - 133 + (r.x.toNat : Int) - 166
    let z := sbpZ p.header r
    if int then a + BitVec.ofInt 32 (truncTerm (some (.fin (decide (z < 0)) z.natAbs e)))
    else
      accumSbp free a (z, e) (sbpWeigh p.header id r.exact) (sbpWeigh p.header (fun w => (w.natAbs : Int)) r.mag)
        ((sg4E p.header : Int) - 122 + ((r.x.toNat : Int) - 126))

end Sys2Proof.Machine
end

