-- ==== Sys2Proof/Machine/DEngine.lean ====
section
/-! DEFINITION. The D queue (R139-R163): the checks of a command at its head, its performance, poison in its tiles (R143,
R238) and the wait on a tile (R142). -/

namespace Sys2Proof.Machine

/-! ### Tables of the strand -/

/-- The format-table entry a select bit chooses (R48). -/
def Strand.ftEntry (st : Strand) (c : Cmd) (sel : Nat) : Word := st.sysv (0x020 + (if sel == 0 then 0 else c.idx))

def ftA (e : Word) : Nat := bf e 9 4
def ftB (e : Word) : Nat := bf e 5 4
def ftInt (e : Word) : Bool := wbit e 0

/-! ### Checks at the head (R142, R148) -/

/-- What the checks of a D command find. -/
inductive DCheck where
  | ok
  | wait (tile : Nat)
  | fault (code : Nat) (trec2 : Word)
deriving DecidableEq, Repr

/-- A tile-table entry a D command names: the format and the bytes it needs, and whether it is written. -/
structure TileUse where
  tile : Nat
  fmt : Nat
  bytes : Nat
  dest : Bool
deriving DecidableEq, Repr

/-- The tile-table entries of a command in field order. DEDUCED: the tile of SBPPT must be tagged SG4 as R142 step 4 has it, fault 0x12, not
0x01 (log 70). -/
def DOp.tiles (op : DOp) (st : Strand) (c : Cmd) : List TileUse :=
  let m := shapeM st.shape
  let n := shapeN st.shape
  let k := st.kstep
  match op with
  | .dot _ a b sel =>
    let e := st.ftEntry c sel
    [⟨a, ftA e, tileBytes (ftA e) (m * k), false⟩, ⟨b, ftB e, tileBytes (ftB e) (n * k), false⟩]
  | .dotc _ _ _ b sel =>
    let e := st.ftEntry c sel
    [⟨b, ftB e, tileBytes (ftB e) (n * k), false⟩]
  | .sbppt _ w _ => [⟨w, 9, 2304, false⟩]
  | .sbpsc _ x sel => let e := st.ftEntry c sel; [⟨x, ftB e, tileBytes (ftB e) 4096, false⟩]
  | .sbpd _ w x sel => let e := st.ftEntry c sel; [⟨w, 9, 2304, false⟩, ⟨x, ftB e, tileBytes (ftB e) 4096, false⟩]
  | .tout _ t f _ => [⟨t, f, tileBytes f (m * n), true⟩]
  | .tin _ t f => [⟨t, f, tileBytes f (m * n), false⟩]
  | _ => []

/-- The accumulator unit a command names. -/
def DOp.unit : DOp → Option Nat
  | .tzero a | .dot a _ _ _ | .dotc a _ _ _ _ | .sbpma a _ _ | .sbpd a _ _ _ | .tout a _ _ _ | .tin a _ _ => some a
  | _ => none

/-- Faults 0x01 at the head (Table 6.1, Table 6.4). -/
def DOp.refusedForm (op : DOp) (st : Strand) (c : Cmd) : Bool :=
  let badUnit : Bool := match op.unit with | some a => decide (lastUnit st.shape < a) | none => false
  badUnit ||
  (match op with
   | .dot _ _ _ sel => let e := st.ftEntry c sel; decide (8 < ftA e) || decide (8 < ftB e)
   | .dotc acc a _ _ sel =>
     let units := st.kstep / shapeN st.shape
     decide (8 < ftB (st.ftEntry c sel)) || decide (lastUnit st.shape < a + units - 1) ||
       (decide (a ≤ acc) && decide (acc < a + units))
   | .sbppt _ _ _ | .sbpma _ _ _ => st.shape != 0
   | .sbpsc _ _ sel => let b := ftB (st.ftEntry c sel); st.shape != 0 || !(b == 1 || b == 2)
   | .sbpd _ _ _ sel =>
     let e := st.ftEntry c sel
     st.shape != 0 || ftA e != 9 || !(ftB e == 1 || ftB e == 2)
   | _ => false)

/-- R158, R159: the permutation table a command reads is not valid in some cell. -/
def State.ptInvalid (s : State) (op : DOp) : Option Nat :=
  let bad (p : Nat) : Option Nat :=
    if s.st.grid.all fun cell => (SMap.get PermTable.initial s.pt (tKey cell p)).valid then none else some p
  match op with
  | .sbpsc p _ _ => bad p
  | .sbpma _ p _ => bad p
  | _ => none

/-- R142 for one entry. -/
def Strand.tileCheck (st : Strand) (u : TileUse) (bias : Bool) : DCheck :=
  let t := st.tile u.tile
  if t.len == 0 then .fault 0x12 (word u.tile)
  else if u.dest && (t.st == .filling || t.st == .draining) then .wait u.tile
  else if !u.dest && t.st != .ready then .wait u.tile
  else if bias && t.st == .empty then .fault 0x12 (word u.tile)
  else if t.tag != u.fmt || decide (64 * t.len < u.bytes) then .fault 0x12 (word u.tile)
  else .ok

/-- The first check that does not pass. -/
def firstCheck : List DCheck → DCheck
  | [] => .ok
  | .ok :: t => firstCheck t
  | x :: _ => x

/-- Every check of a D command at the head. DEDUCED: Table 6.1 names no order among them; a form that no tile could mend is refused at
once, ahead of the table's 0x12 and of any wait on a tile (log 70). -/
def State.dCheck (s : State) (op : DOp) (c : Cmd) : DCheck :=
  if op.refusedForm s.st c then .fault 0x01 0
  else
    match s.ptInvalid op with
    | some p => .fault 0x12 (word (0x100 + p))
    | none =>
      let bias : Bool := match op with | .tout _ _ _ e => e == 3 | _ => false
      firstCheck ((op.tiles s.st c).map fun u => s.st.tileCheck u bias)

/-! ### Tower bytes of the tiles -/

/-- R241: what a byte of a cell's tower held as the commands of a window were first performed, while they are performed again. -/
def Strand.shadowByte (st : Strand) (cell off : Nat) : Option (Byte × Bool) :=
  (st.shadow.find? fun u => u.g == st.grid.idxOf cell && decide (u.off ≤ off) && decide (off < u.off + u.n)).map fun u =>
    ((u.bytes.lookup off).getD 0, SMap.get false u.bad off)

/-- A byte of a cell's tower as a D or C command reads it, and whether it is poisoned. -/
def State.tileByte (s : State) (cell off : Nat) : Byte × Bool :=
  (s.st.shadowByte cell off).getD (s.homeByte (towerPA cell off), s.homePoison (towerPA cell off))

/-- Bytes [off, off + n) of a tile in a cell, as a number. -/
def State.tileNat (s : State) (cell tile off n : Nat) : Nat :=
  let at' := 64 * (s.st.tile tile).base + off
  if s.st.shadow.isEmpty then bytesNat (s.homeBytes (towerPA cell at') n)
  else bytesNat ((List.range n).map fun i => (s.tileByte cell (at' + i)).1)

/-- The byte ranges a command reads in each cell: tile, offset and length. -/
def DOp.reads (op : DOp) (st : Strand) (c : Cmd) : List (Nat × Nat × Nat) :=
  match op with
  | .sbppt _ w row => [(w, 144 * row, 144)]
  | .tout _ t f e =>
    if e == 3 then [(t, 0, if f ≤ 2 then bqGroupBytes f else tileBytes f (shapeN st.shape))] else []
  | op => (op.tiles st c).map fun u => (u.tile, 0, u.bytes)

/-- The first poisoned byte a command would read: its tile and the byte's offset in the tower. -/
def State.tilePoison (s : State) (op : DOp) (c : Cmd) : Option (Nat × Nat) :=
  s.st.grid.foldl (fun m cell =>
    match m with
    | some x => some x
    | none => (op.reads s.st c).foldl (fun m r =>
        match m with
        | some x => some x
        | none =>
          let off := 64 * (s.st.tile r.1).base + r.2.1
          (((List.range r.2.2).map (off + ·)).find? fun o => (s.tileByte cell o).2).map fun o => (r.1, o)) none) none

/-- R352: the first byte of the tiles a command uses that lies in reclaimed words, as an address of space 14. DEDUCED: a D command's access
to such a byte fails like every other access, with fault 0x05 (log 107). -/
def State.tileReclaimed (s : State) (op : DOp) (c : Cmd) : Option Word :=
  let spans := (op.reads s.st c) ++ ((op.tiles s.st c).filter (·.dest)).map fun u => (u.tile, 0, u.bytes)
  ((s.st.grid.map fun cell => spans.filterMap fun r =>
    let off := 64 * (s.st.tile r.1).base + r.2.1
    if s.reclaimedIn cell off r.2.2 then
      ((List.range r.2.2).map (off + ·)).find? fun o => s.reclaimed (towerPA cell o)
    else none).flatten.head?).map fun o => word (14 * 2 ^ 60 + o)

/-! ### Performance -/

/-- TOUT (R152) in one cell: the unit through the epilogue into the tile's bytes. -/
def State.toutCell (s : State) (cell acc tile f e : Nat) : State :=
  let shape := s.st.shape
  let n := shapeN shape
  let row0 := if e == 3 then s.tileNat cell tile 0 (if f ≤ 2 then bqGroupBytes f else tileBytes f n) else 0
  let xs := (shapeElems shape).map fun p => epilogue e f (s.accElem cell shape acc p.1 p.2) (tileElem f row0 p.2).1
  s.directWrite (layout (towerPA cell (64 * (s.st.tile tile).base)) (outBytes f xs)) false

/-- SBPMA of one row into a unit, from a table and the sixteen running sums of a cell. -/
def State.sbpRow (s : State) (c : Cmd) (cell acc row : Nat) (int : Bool) (p : PermTable) (rs : Nat → RunSum) : State :=
  s.setUnit cell 0 acc ((List.range 16).map fun col => (row, col)) int fun r col =>
    sbpElem int (s.dotFree c cell r col) (s.accElem cell 0 acc r col).1 p (rs col)

/-- What a D command does in every cell. -/
def State.dPerform (s : State) (c : Cmd) (op : DOp) : State :=
  let st := s.st
  let shape := st.shape
  match op with
  | .tcfg sh ks =>
    let st := (List.range 16).foldl (fun st e => Strand.setSys st (0x020 + e) 0) { st with shape := sh, kstep := 32 * 2 ^ ks }
    { s with st := st, acc := s.acc.dropCells 4096 st.grid, accInt := s.accInt.dropCells 16 st.grid }
  | .tzero a => s.eachCell fun s cell => s.setUnit cell shape a (shapeElems shape) false fun _ _ => 0
  | .dot a ta tb sel =>
    let e := st.ftEntry c sel
    let k := st.kstep
    s.eachCell fun s cell =>
      let x := s.tileNat cell ta 0 (tileBytes (ftA e) (shapeM shape * k))
      let y := s.tileNat cell tb 0 (tileBytes (ftB e) (shapeN shape * k))
      s.dotCell c cell a k (ftInt e) (fun row i => tileElem (ftA e) x (row * k + i)) fun i col => tileElem (ftB e) y (col * k + i)
  | .dotc a src target tb sel =>
    let e := st.ftEntry c sel
    let k := st.kstep
    s.eachCell fun s cell =>
      let y := s.tileNat cell tb 0 (tileBytes (ftB e) (shapeN shape * k))
      s.dotCell c cell a k (ftInt e) (fun row i => s.downConvert cell src target row i) fun i col => tileElem (ftB e) y (col * k + i)
  | .sbppt p w row =>
    s.eachCell fun s cell => { s with pt := SMap.set PermTable.initial s.pt (tKey cell p) (permOf (s.tileNat cell w (144 * row) 144) row) }
  | .sbpsc p x sel =>
    let e := st.ftEntry c sel
    s.eachCell fun s cell =>
      let t := SMap.get PermTable.initial s.pt (tKey cell p)
      let y := s.tileNat cell x 0 (tileBytes (ftB e) 4096)
      { s with rs := (List.range 16).foldl (fun m col => SMap.set RunSum.initial m (tKey cell col) (scanColumn t (ftB e) y col)) s.rs }
  | .sbpma a p row =>
    s.eachCell fun s cell =>
      s.sbpRow c cell a row (ftInt (st.ftEntry c 0)) (SMap.get PermTable.initial s.pt (tKey cell p)) fun col =>
        SMap.get RunSum.initial s.rs (tKey cell col)
  | .sbpd a w x sel =>
    let e := st.ftEntry c sel
    s.eachCell fun s cell =>
      let y := s.tileNat cell x 0 (tileBytes (ftB e) 4096)
      (List.range 16).foldl (fun s row =>
        let p := permOf (s.tileNat cell w (144 * row) 144) row
        s.sbpRow c cell a row (ftInt e) p fun col => scanColumn p (ftB e) y col) s
  | .tout a t f e =>
    let s := s.eachCell fun s cell => s.toutCell cell a t f e
    { s with st := s.st.setTile t { s.st.tile t with st := .ready, fill := none } }
  | .tin a t f =>
    let int := ftInt (st.ftEntry c 0)
    s.eachCell fun s cell =>
      let x := s.tileNat cell t 0 (tileBytes f (shapeM shape * shapeN shape))
      s.setUnit cell shape a (shapeElems shape) int fun row col => inElem f x (row * shapeN shape + col) int
  | .fmtw n code => { s with st := st.setSys (0x020 + n) (code.setWidth 64) }

/-- The D command of a queue entry. -/
def Cmd.dop (c : Cmd) : Option DOp := match c.pay with | .d op => some op | _ => none

/-- The wait of a D head on a tile is noted: it begins anew with another tile (R142). -/
def Strand.tileWait (st : Strand) (c : Cmd) (t : Nat) : Strand :=
  if c.on == t then st else st.setHead .D { c with on := t, since := st.cyc }

/-- R241: before a command of the window writes n bytes of a tile, the window keeps what they hold in every cell (log 39); a command
performed again replaces nothing. -/
def State.saveTile (s : State) (c : Cmd) (t n : Nat) : State :=
  if !s.st.inWindow c || !s.st.replay.isEmpty then s
  else
    let s := s.st.grid.foldl (fun s cell => s.mergeAll cell) s
    let off := 64 * (s.st.tile t).base
    let save (g : Nat) : TileSave :=
      let pa := towerPA (s.st.cell g) off
      ⟨g, off, n, (s.mem.filter fun e => decide (pa ≤ e.1) && decide (e.1 < pa + n)).map fun e => (e.1 - pa + off, e.2),
       (s.poison.filter fun e => decide (pa ≤ e.1) && decide (e.1 < pa + n)).map fun e => (e.1 - pa + off, e.2)⟩
    { s with st := { s.st with win := s.st.win.map fun w => { w with undo := w.undo ++ (List.range s.st.grid.length).map save } } }

/-- The bytes of its tile that a D command writes: its tile and their number. -/
def DOp.target (op : DOp) (st : Strand) : Option (Nat × Nat) :=
  match op with
  | .tout _ t f _ => some (t, tileBytes f (shapeM st.shape * shapeN st.shape))
  | _ => none

/-- A D command at stage 4. -/
def State.dRun (s : State) (c : Cmd) (op : DOp) : State :=
  match s.dCheck op c with
  | .wait t => { s with st := s.st.tileWait c t }
  | .fault code a => s.engineFault .D c code a 0
  | .ok =>
    if !(op.tiles s.st c).isEmpty && s.sOpen s.st then s
    else if (s.tileReclaimed op c).isSome then s.engineFault .D c 0x05 ((s.tileReclaimed op c).getD 0) 0
    else if (s.tilePoison op c).isSome then s
    else
      let bias : Bool := match op with | .tout _ _ _ e => e == 3 | _ => false
      let s := if bias then { s with st := s.st.closeWindow 6 } else s
      let s := (match op.target s.st with | some (t, n) => s.saveTile c t n | none => s).dPerform c op
      { s with st := s.st.finishHead .D c }

/-- The D head takes its stages; with the first command of a window at it the D snapshot is taken. -/
def State.dStage (s : State) : State × HeadAct :=
  let r := s.st.stage .D
  let t := { s with st := r.1 }
  (match r.1.dq.cur with | some c => t.takeDSnap c | none => t, r.2)

/-- D_PERFORMED (R139, R196): the head of the D queue is performed or discarded, makes its posts, or waits, also
while the governor holds its issue (R404). -/
def execDPerformed (s : State) : Host.Outcome State Fault Refusal :=
  let r := State.dStage { s with st := s.st.retryPosts .D }
  let t := r.1
  .next (match r.2 with
    | .perform c => if t.hub.holds then t else (match c.dop with | some op => t.dRun c op | none => t)
    | .discard c => { t with st := t.st.finishHead .D { c with dropped := true } }
    | _ => t)

/-- TILE_WAIT_WATCHDOG (R142, R198): a D command that has waited on a tile for the interval raises 0x12. -/
def execTileWaitWatchdog (s : State) : Host.Outcome State Fault Refusal :=
  let r := s.st.stage .D
  match r.2 with
  | .perform c =>
    (match c.dop with
     | some op =>
       (match State.dCheck { s with st := r.1 } op c with
        | .wait t =>
          .next (if c.on == t && decide (c.since + Config.watchdog ≤ r.1.cyc) then
            State.engineFault { s with st := r.1 } .D c 0x12 (word t) 0
          else { s with st := r.1.tileWait c t })
        | _ => .next s)
     | none => .next s)
  | _ => .next s

/-! ### Consumed poison (R238, R239, R245) -/

/-- R245: the present window has been rolled back and its re-execution or replay is still under way: a unit is still to be executed again,
or a retained command to be performed again. -/
def Strand.inReplay (st : Strand) : Bool :=
  match st.win with
  | some w => w.again && (st.reexec.isSome || !st.replay.isEmpty)
  | none => false

/-- D_POISON_CONSUMED: the head of the D queue meets poison in a tile; the window rolls back, or the task ends. DEDUCED: of two causes
of R245 that hold at once, poison in a replay (5) is logged before a tile without a fill record (3) (log 118). -/
def execDPoisonConsumed (s : State) : Host.Outcome State Fault Refusal :=
  let r := s.dStage
  let t := r.1
  match r.2 with
  | .perform c =>
    (match c.dop with
     | some op =>
       (match t.dCheck op c, t.tilePoison op c with
        | .ok, some (tile, off) =>
          let byte := word (14 * 2 ^ 60 + off)
          (match t.st.win with
           | none => .next (t.machineCheck t.st 2 c.addr byte)
           | some _ =>
             if t.st.inReplay then .next (t.machineCheck t.st 5 c.addr byte)
             else
               match (t.st.tile tile).fill with
               | none => .next (t.machineCheck t.st 3 c.addr byte)
               | some f => .next { t with st := { t.st with rollback := some (.poison tile byte c.addr f (t.st.tile tile) .found) } })
        | _, _ => .next s)
     | none => .next s)
  | _ => .next s

end Sys2Proof.Machine
end

