-- ==== Sys2Proof/Machine/CopyData.lean ====
section
/-! DEFINITION. What a copy makes of bytes: patterns (R216), sizes (R217), the ZB format (R229), the conversions of the copy
path (R67, R68, R70) with the spread of poison (R215), and the CRC of a rind (R224). -/

namespace Sys2Proof.Machine

/-! ### Patterns (R216) -/

/-- A pattern value. -/
structure Pat where
  repl : Bool
  raw : Bool
  rel : Bool
  ratio : Nat
  pair : Nat
  op : Nat
  stride : Nat
  rows : Nat
  len : Nat
deriving DecidableEq, Repr

def patOf (w : Word) : Pat :=
  ⟨wbit w 62, wbit w 61, wbit w 60, bf w 56 4, bf w 52 4, bf w 48 4, bf w 32 16, bf w 16 16, bf w 0 16⟩

/-- The operand checks of a pattern: reserved values, then zero fields; `once` says that REPL is refused. -/
def patFault (w : Word) (once : Bool) : Option Nat :=
  let p := patOf w
  if 5 < p.ratio || 4 < p.op || p.rows == 0 || p.len == 0 || (p.raw && p.op != 0) || (p.repl && once) then some 0x01
  else if wbit w 63 || (p.pair != 0 && p.op ≤ 2) then some 0x02
  else none

/-- R219: R of a ratio code. -/
def ratioOf (code : Nat) : Nat := 2 ^ code

/-- The BQ code of pair codes 13-15 (Table 3.5). -/
def pairBq (pair : Nat) : Option Nat := if 13 ≤ pair then some (15 - pair) else none

/-- Widths of a pair's source and destination elements. -/
def pairWidths (pair : Nat) : Nat × Nat := (sideWidth (pairFmts pair).1, sideWidth (pairFmts pair).2)

/-- Bytes of the source that give n bytes under a pair code, if that is a whole number. -/
def sourceBytes (pair n : Nat) : Option Nat :=
  match pairBq pair with
  | some q => if n % 512 == 0 then some (n / 512 * bqGroupBytes q) else none
  | none =>
    let w := pairWidths pair
    if 8 * n % w.2 == 0 && n * w.1 % w.2 == 0 then some (n * w.1 / w.2) else none

/-- Bytes that as many elements of x bits take as fill n bytes with elements of w bits; the last byte may be half filled. -/
def elementBytes (w x n : Nat) : Nat := (8 * n / w * x + 7) / 8

/-! ### Sizes (Table 10.2) -/

/-- What a copy moves for one image: whether its read or its write side is a ZB stream, the bytes of the read side where it
is none, the bytes before conversion, and those of the write side (at most, for ZB-compress). -/
structure CopySize where
  inZb : Bool
  outZb : Bool
  inBytes : Nat
  mid : Nat
  outBytes : Nat
deriving DecidableEq, Repr

/-- Table 10.2; none is fault 0x01. `rowsRead` says that the rows of the pattern are on the read side of a raw or converting
copy. -/
def copySize (p : Pat) (op : Nat) (rowsRead : Bool) : Option CopySize :=
  let total := p.len * p.rows
  match op with
  | 0 => some ⟨false, false, total, total, total⟩
  | 1 => if total % 1024 == 0 then some ⟨true, false, 0, total, total⟩ else none
  | 2 => if total % 1024 == 0 then some ⟨false, true, total, total, 1056 * (total / 1024)⟩ else none
  | 3 =>
    if rowsRead then
      (match pairBq p.pair with
       | some q => if p.len % bqGroupBytes q == 0 then some ⟨false, false, total, total, total / bqGroupBytes q * 512⟩ else none
       | none =>
         if 8 * p.len % (pairWidths p.pair).1 == 0 then
           some ⟨false, false, total, total, elementBytes (pairWidths p.pair).1 (pairWidths p.pair).2 total⟩
         else none)
    else if (pairBq p.pair).isSome || 8 * p.len % (pairWidths p.pair).2 != 0 then none
    else
      let n := elementBytes (pairWidths p.pair).2 (pairWidths p.pair).1 total
      some ⟨false, false, n, n, total⟩
  | _ =>
    match sourceBytes p.pair total with
    | some n => if n % 1024 == 0 && (rowsRead || (pairBq p.pair).isNone) then some ⟨true, false, 0, n, total⟩ else none
    | none => none

/-! ### Marked bytes -/

/-- A byte and whether its value comes of a poisoned one. -/
abbrev MByte := Byte × Bool

/-- A list cut into pieces of n. -/
def piecesOf {α : Type} (n : Nat) : Nat → List α → List (List α)
  | 0, _ => []
  | _ + 1, [] => []
  | k + 1, l => l.take n :: piecesOf n k (l.drop n)

def cut {α : Type} (n : Nat) (l : List α) : List (List α) := piecesOf n l.length l

def anyBad (l : List MByte) : Bool := l.any Prod.snd

def plainBytes (l : List MByte) : List Byte := l.map Prod.fst

def markAll (bad : Bool) (l : List Byte) : List MByte := l.map fun b => (b, bad)

/-! ### Conversion on the copy path -/

/-- Elements of w bits with their marks. -/
def splitElems (w : Nat) (l : List MByte) : List (Nat × Bool) :=
  if w == 4 then (l.map fun b => [(b.1.toNat % 16, b.2), (b.1.toNat / 16, b.2)]).flatten
  else (cut (w / 8) l).map fun e => (bytesNat (plainBytes e), anyBad e)

/-- Elements of w bits as bytes; `pad` stands above an odd last element of 4 bits. -/
def joinElems (w pad : Nat) (l : List (Nat × Bool)) : List MByte :=
  if w == 4 then (cut 2 l).map fun e =>
      (BitVec.ofNat 8 ((e.getD 0 (0, false)).1 % 16 + 16 * (e.getD 1 (pad % 16, false)).1), e.any Prod.snd)
  else (l.map fun e => markAll e.2 (natBytes (w / 8) e.1)).flatten

/-- A BQ group as 128 FP32 values (R64, R70); a block's mark covers its sixteen elements. -/
def bqGroupOut (q : Nat) (g : List MByte) : List MByte :=
  ((List.range 8).map fun k =>
    let bits := bqBits q
    let bad := (g.getD k (0, false)).2 || (g.getD (8 + k) (0, false)).2 || anyBad ((g.drop (16 + 2 * bits * k)).take (2 * bits))
    let blk := bqGroupBlock q (plainBytes g) k
    ((List.range 16).map fun i => markAll bad (natBytes 4 (Fmt.fp32.round true (blk.value bits i)).1)).flatten).flatten

/-- R217: bytes through a pair code, saturating, k = 0. -/
def convertBytes (pair pad : Nat) (l : List MByte) : List MByte :=
  match pairBq pair with
  | some q => ((cut (bqGroupBytes q) l).map (bqGroupOut q)).flatten
  | none =>
    let w := pairWidths pair
    joinElems w.2 pad ((splitElems w.1 l).map fun e => ((convertPair pair true e.1).1, e.2))

/-! ### ZB (R229) -/

/-- Mask of line l of a block whose first 32 bytes are h. -/
def zbMask (h : List Byte) (l : Nat) : Nat := bytesNat ((h.drop (2 * l)).take 2)

/-- Set bits of a 16-bit mask. -/
def onesOf (m : Nat) : Nat := ((List.range 16).filter fun w => m.testBit w).length

/-- Bytes of a block by its masks. -/
def zbLength (h : List Byte) : Nat :=
  let n := 32 + 4 * ((List.range 16).map fun l => onesOf (zbMask h l)).sum
  (n + 15) / 16 * 16

/-- Expands the lines of a block: its stored words in order. -/
def zbWords (h : List Byte) (words : List Byte) : List Byte :=
  ((List.range 256).foldl (fun (r : List (List Byte) × List Byte) i =>
    if (zbMask h (i / 16)).testBit (i % 16) then (r.2.take 4 :: r.1, r.2.drop 4)
    else ([0, 0, 0, 0] :: r.1, r.2)) ([], words)).1.reverse.flatten

/-- A block of `zbLength` bytes expanded; poison in it marks all its output. -/
def zbExpandBlock (b : List MByte) : List MByte :=
  let bs := plainBytes b
  markAll (anyBad b) (zbWords (bs.take 32) (bs.drop 32))

/-- What reading a ZB stream gives: the expanded bytes, and the stream's length or the offset of the block that fails the
check of R219. -/
structure ZbRead where
  bytes : List MByte
  used : Nat
  failed : Option Nat
deriving DecidableEq, Repr

/-- Reads n blocks from offset pos on. -/
def zbRead (rd : Nat → MByte) (ratio : Nat) : Nat → Nat → ZbRead
  | 0, pos => ⟨[], pos, none⟩
  | n + 1, pos =>
    let len := zbLength ((List.range 32).map fun i => (rd (pos + i)).1)
    if ratioOf ratio * len < 1024 then ⟨[], pos, some pos⟩
    else
      let r := zbRead rd ratio n (pos + len)
      ⟨zbExpandBlock ((List.range len).map fun i => rd (pos + i)) ++ r.bytes, r.used, r.failed⟩

/-- Where the blocks of a ZB stream stand: offset and length of each. -/
def zbPlaces (rd : Nat → MByte) : Nat → Nat → List (Nat × Nat)
  | 0, _ => []
  | n + 1, pos =>
    let len := zbLength ((List.range 32).map fun i => (rd (pos + i)).1)
    (pos, len) :: zbPlaces rd n (pos + len)

/-- ZB-compress of 1,024 bytes: the non-zero words, canonical. -/
def zbCompressBlock (b : List MByte) : List MByte :=
  let ws := cut 4 (plainBytes b)
  let nz (w : List Byte) : Bool := w.any (· != 0)
  let masks := (cut 16 ws).map fun line => natBytes 2 (((List.range 16).zip line).foldl (fun a e => if nz e.2 then a + 2 ^ e.1 else a) 0)
  let out := masks.flatten ++ (ws.filter nz).flatten
  markAll (anyBad b) (out ++ List.replicate ((16 - out.length % 16) % 16) 0)

def zbCompress (l : List MByte) : List MByte := ((cut 1024 l).map zbCompressBlock).flatten

/-- The source bytes that byte k is converted from: the first and their number; of a BQ group the whole group (R391). -/
def convSource (pair k : Nat) : Nat × Nat :=
  match pairBq pair with
  | some q => (k / 512 * bqGroupBytes q, bqGroupBytes q)
  | none =>
    let w := pairWidths pair
    let lo := 8 * k / w.2 * w.1 / 8
    (lo, ((8 * k + 7) / w.2 * w.1 + w.1 + 7) / 8 - lo)

/-- R391: the bytes of the read side that byte k of the write side is computed from: the first and their number. `zs` are the places of
the ZB blocks, of the stream that is read or of the one that is written. -/
def sourceOf (p : Pat) (op : Nat) (zs : List (Nat × Nat)) (k : Nat) : Nat × Nat :=
  let blocks (lo n : Nat) : Nat × Nat :=
    let a := zs.getD (lo / 1024) (0, 0)
    let b := zs.getD ((lo + n - 1) / 1024) (0, 0)
    (a.1, b.1 + b.2 - a.1)
  match op with
  | 0 => (k, 1)
  | 1 => blocks k 1
  | 2 => (1024 * (zs.findIdx fun b => decide (k < b.1 + b.2)), 1024)
  | 3 => convSource p.pair k
  | _ => let m := convSource p.pair k; blocks m.1 m.2

/-- R217: the write side's bytes, or the offset of a block beyond its declared ratio. DESIGN CHOICE: an odd number of 4-bit elements
leaves half of the last byte, of which the manual says nothing: `pad`, a free value, stands there (log 71). -/
def transform (p : Pat) (op : Nat) (z : CopySize) (pad : Nat) (rd : Nat → MByte) : List MByte × Option Nat :=
  match op with
  | 0 => ((List.range z.inBytes).map rd, none)
  | 1 => let r := zbRead rd p.ratio (z.mid / 1024) 0; (r.bytes, r.failed)
  | 2 => (zbCompress ((List.range z.inBytes).map rd), none)
  | 3 => (convertBytes p.pair pad ((List.range z.inBytes).map rd), none)
  | _ => let r := zbRead rd p.ratio (z.mid / 1024) 0; (convertBytes p.pair pad r.bytes, r.failed)

/-! ### Rinds (R224) -/

/-- One step of the CRC-32C register over a bit. -/
def crcShift (r : Nat) : Nat := if r % 2 == 1 then (r / 2) ^^^ 0x82F63B78 else r / 2

/-- CRC-32C (PRESUMED: the Castagnoli polynomial, reflected, register and result inverted; log 24). -/
def crc32c (bs : List Byte) : W32 :=
  let r := bs.foldl (fun r b => (List.range 8).foldl (fun r _ => crcShift r) (r ^^^ b.toNat)) (2 ^ 32 - 1)
  BitVec.ofNat 32 (r ^^^ (2 ^ 32 - 1))

/-- The logical address of the block of a physical address: the home package by its number. -/
def State.logical (s : State) (pa : Nat) : BitVec 48 :=
  BitVec.ofNat 48 (((if paPackage pa == 255 then s.hub.pkg else paPackage pa) * 2 ^ 48 + pa % 2 ^ 48) / 256)

/-- The rind of a block by its physical address. -/
def State.rindOf (s : State) (pa : Nat) : Rind := SMap.get Rind.absent s.rinds (pa / 256)

end Sys2Proof.Machine
end

