-- ==== Sys2Proof/Machine/CopyPlan.lean ====
section
/-! DEFINITION. The checks a copy makes at the head of the C queue (R208-R224, R228, R421): its sides as runs of bytes, the
address checks of every byte, and the translations it takes. -/

namespace Sys2Proof.Machine

/-! ### Sides -/

/-- A run of bytes in a task space; the offset is exact, so that one beyond the space shows. -/
structure Run where
  sp : Nat
  off : Nat
  n : Nat
deriving DecidableEq, Repr

def Run.addr (r : Run) : Word := word (r.sp * 2 ^ 60 + r.off % 2 ^ 60)

/-- A run cut at page boundaries. -/
def cutRun (sp : Nat) : Nat → Nat → Nat → List Run
  | 0, _, _ => []
  | k + 1, off, n =>
    if n == 0 then []
    else
      let m := min n (2 ^ 16 - off % 2 ^ 16)
      ⟨sp, off, m⟩ :: cutRun sp k (off + m) (n - m)

def Run.pieces (r : Run) : List Run := cutRun r.sp (r.n / 2 ^ 16 + 2) r.off r.n

/-- One image of a copy: the cells whose towers space 14 names on the read and the write side, and the runs of each. -/
structure Image1 where
  g : Nat
  rcell : Nat
  wcell : Nat
  reads : List Run
  writes : List Run
deriving DecidableEq, Repr

/-- A copy with its operands checked: pattern, effective op, sizes, rind policy, the tile entries it fills and drains, the
class the far side must have (read side, class), and its images. -/
structure Plan1 where
  pat : Pat
  op : Nat
  size : CopySize
  policy : Nat
  fills : Option Nat
  drains : Option Nat
  needs : Option (Bool × Nat)
  remote : Bool
  images : List Image1
deriving DecidableEq, Repr

/-- The rows of a pattern from an offset. -/
def Pat.rowRuns (p : Pat) (sp off : Nat) : List Run := (List.range p.rows).map fun r => ⟨sp, off + 64 * p.stride * r, p.len⟩

/-- R218: the distance of the far images of neighbouring grid indices: under ops 1, 2 and 4 the stride is the slot of each cell. -/
def Pat.step (p : Pat) (sp : Nat) : Nat :=
  if p.repl || sp == 14 then 0 else if p.op == 1 || p.op == 2 || p.op == 4 then 64 * p.stride else p.rows * 64 * p.stride

/-- The far side of a tile copy for grid index g. -/
def Pat.farRuns (p : Pat) (far : Word) (zb : Bool) (n g : Nat) : List Run :=
  let sp := bf far 60 4
  let off := bf far 0 60 + p.step sp * g
  if zb then [⟨sp, off, n⟩] else p.rowRuns sp off

/-- What a copy command gives: its operands with the direction, without those of CPYX and CPYE. -/
structure TileCopy where
  tile : Nat
  far : Word
  pat : Word
  policy : Nat
  into : Bool
  needs : Option Nat
  remote : Bool
deriving DecidableEq, Repr

/-- CPY, CPYB and CPYR (Table 10.3). -/
def COp.tileCopy : COp → Option TileCopy
  | .cpy t a b out p => some ⟨t, a, b, p, !out, none, false⟩
  | .cpyb t a b p => some ⟨t, a, b &&& 0x0000FFFFFFFFFFFF, p, true, some 0, false⟩
  | .cpyr t a b put p => some ⟨t, a, b, p, !put, some 3, true⟩
  | _ => none

/-- R209, R210, R218: the tile side of a copy. -/
def Strand.tileSide (st : Strand) (t bytes : Nat) (into : Bool) : Option (Nat × Word) :=
  let e := st.tile t
  if e.len == 0 || 64 * e.len < bytes || (!into && (e.st == .empty || e.st == .filling)) then some (0x12, word t) else none

/-- The operand and tile checks of CPY, CPYB and CPYR, in the order of R215. DEDUCED: R217's test of 64 * stride applies to op 2 where it
drains the tile, for the streams it packs out, and not where it fills one (log 116). -/
def Strand.planTile (st : Strand) (k : TileCopy) : Except (Nat × Word) Plan1 :=
  let p := patOf k.pat
  match patFault k.pat (!k.into), copySize p p.op k.into with
  | some c, _ => .error (c, 0)
  | none, none => .error (0x01, 0)
  | none, some z =>
    let farZb := if k.into then z.inZb else z.outZb
    if z.outZb && !k.into && decide (64 * p.stride < z.outBytes) then .error (0x01, 0)
    else
      match st.tileSide k.tile (if k.into then z.outBytes else z.inBytes) k.into with
      | some e => .error e
      | none =>
        if bf k.far 0 6 != 0 then .error (0x04, k.far)
        else
          let own := 64 * (st.tile k.tile).base
          let image (g : Nat) : Image1 :=
            let cell := st.cell g
            let farSide := p.farRuns k.far farZb 0 g
            let tileSide := [(⟨14, own, if k.into then z.outBytes else z.inBytes⟩ : Run)]
            if k.into then ⟨g, cell, cell, farSide, tileSide⟩ else ⟨g, cell, cell, tileSide, farSide⟩
          .ok ⟨p, p.op, z, k.policy, if k.into then some k.tile else none, if k.into then none else some k.tile,
            k.needs.map fun c => (k.into, c), k.remote, (List.range st.cellCount).map image⟩

/-- CPYX (R222). -/
def Strand.planX (st : Strand) (t : Nat) (sa sb : Word) : Except (Nat × Word) Plan1 :=
  let p := patOf sb
  let td := bf sa 32 6
  let last := 64 * p.stride * (p.rows - 1) + p.len
  let short (n : Nat) : Bool := (st.tile n).len == 0 || decide (64 * (st.tile n).len < last)
  if td == t || p.op != 0 || p.raw || p.repl then .error (0x01, 0)
  else
    match patFault sb true with
    | some c => .error (c, 0)
    | none =>
      if bf sa 38 26 != 0 then .error (0x02, 0)
      else if short t || (st.tile t).st == .empty || (st.tile t).st == .filling then .error (0x12, word t)
      else if short td then .error (0x12, word td)
      else
        let w := st.width
        let h := st.height
        let into (g : Nat) : Nat := (g % w + bf sa 0 8) % w + w * ((g / w + bf sa 8 8) % h)
        let image (g : Nat) : Image1 := ⟨g, st.cell g, st.cell (into g), p.rowRuns 14 (64 * (st.tile t).base),
          p.rowRuns 14 (64 * (st.tile td).base)⟩
        let total := p.len * p.rows
        .ok ⟨p, 0, ⟨false, false, total, total, total⟩, 0, some td, some t, none, false,
          ((List.range st.cellCount).filter fun g => (bf sa 16 16).testBit (g % 16)).map image⟩

/-- R228: the op of a copy of a compressed page that is expanded on its way. DESIGN CHOICE: the manual says that such a copy performs
ZB-expand whatever its op; an op that compresses then expands only, and one that converts converts what was expanded (log 72). -/
def expandedOp (op : Nat) : Nat := if op ≤ 2 then 1 else 4

/-- CPYE (R227); `expand` says that R228 applies: an op other than 1 and 4 that expands checks no ratio (R219). DESIGN CHOICE: the packed
write side is judged as one run, and a side in space 14 names the tower of the anchor cell (log 101). -/
def Strand.planE (st : Strand) (sa sb sc : Word) (policy : Nat) (toExp expand : Bool) : Except (Nat × Word) Plan1 :=
  let p := patOf sc
  let op := if expand then expandedOp p.op else p.op
  let p := if op == p.op then p else { p with ratio := 5 }
  match patFault sc true, copySize p op true with
  | some c, _ => .error (c, 0)
  | none, none => .error (0x01, 0)
  | none, some z =>
    if bf sa 0 6 != 0 then .error (0x04, sa)
    else if bf sb 0 6 != 0 then .error (0x04, sb)
    else if z.outZb && decide (64 * p.stride < z.outBytes) then .error (0x01, 0)
    else
      let src := if z.inZb then [⟨bf sa 60 4, bf sa 0 60, 0⟩] else p.rowRuns (bf sa 60 4) (bf sa 0 60)
      .ok ⟨p, op, z, policy, none, none, some (!toExp, 2), false,
        [⟨0, st.anchor, st.anchor, src, [⟨bf sb 60 4, bf sb 0 60, z.outBytes⟩]⟩]⟩

/-- The plan of a copy command. -/
def Strand.planCopy (st : Strand) (op : COp) (expand : Bool) : Except (Nat × Word) Plan1 :=
  match op with
  | .cpyx t a b => st.planX t a b
  | .cpye a b c _ p d => st.planE a b c p d expand
  | op =>
    match op.tileCopy with
    | some k => st.planTile k
    | none => .error (0x01, 0)

/-! ### Addresses -/

/-- What a copy finds at a piece of a run: the physical address, page kind, G, Z and home class; a failure with its step of
Table 4.5 and how far into the piece it stands; or a page that is not resident. -/
inductive Place where
  | ok (pa kind : Nat) (g z : Bool) (home : Nat)
  | fault (code step off : Nat)
  | absent (cause : Nat)
deriving DecidableEq, Repr

/-- R298, R414, R416: whether a copy may name a physical address: this package, a package of the domain, and, for CPYR, a window, or
for its put a group. -/
def State.copyExists (s : State) (pa : Nat) (remote wr : Bool) : Bool :=
  let p := paPackage pa
  if p < 144 || p == 255 then paExists pa
  else if p < 240 then remote && paRemoteSpace pa && wbit (SMap.get 0 s.hub.windows (p - 144)) 63
  else remote && wr && paRemoteSpace pa && !(SMap.get [] s.hub.groups (p - 240)).isEmpty

/-- R352, R387, R391, R419: whether its home answers; the homes behind a window or a group answer for themselves. -/
def State.copyAnswers (s : State) (pa : Nat) : Bool := decide (144 ≤ paPackage pa) && paPackage pa != 255 || s.answers pa

/-- The first bytes of the units that answer apart in n bytes from an address, from that address: bank words of a tower, else 256-byte
blocks. -/
def answerUnits (pa n : Nat) : List Nat :=
  let u := if paIsTower pa then 32 else 256
  (List.range ((pa % u + n + u - 1) / u)).map fun i => if i == 0 then 0 else u * i - pa % u

/-- How far into n bytes from an address the first stands whose home does not answer. -/
def State.firstSilent (s : State) (pa n : Nat) : Option Nat := (answerUnits pa n).find? fun j => !s.copyAnswers (pa + j)

/-- The attribute checks on a leaf for a copy; G and Z have their own rules (R223, R228). DEDUCED: an execute-only page refuses a write
with 0x08 although it lacks the write right too (R364, log 67). -/
def copyLeaf (l : Word) (wr right : Bool) : Option (Nat × Nat) :=
  if leafHome l == 4 then some (0x05, 2)
  else if wbit l 2 then some (if wr then 0x08 else 0x05, 4)
  else if wr && !right then some (0x05, 2)
  else none

/-- A piece of a run under its leaf. -/
def State.leafPlace (s : State) (l : Word) (pa kind home n : Nat) (remote wr right : Bool) : Place :=
  if !s.copyExists pa remote wr then .fault 0x05 2 0
  else
    match copyLeaf l wr right with
    | some (c, n) => .fault c n 0
    | none =>
      match s.firstSilent pa n with
      | some j => .fault 0x05 2 j
      | none => .ok pa kind (wbit l 9) (wbit l 5) home

/-- A copy's leaf for a page: one it took when it began, else the translator's (R214, R292). -/
def State.copyLookup (s : State) (retiring : Bool) (off : Nat) : Walk :=
  match s.st.ctr.find? (fun t => t.hit s.st.part off) with
  | some t => .leaf t.leaf t.large
  | none => s.lookup s.st.cluster s.st.part off retiring

/-- R292: an INVAL marker for the page of an address stands behind the head of the C queue: its own page, or one that the entry
which is retiring for the marker maps too. -/
def State.markerBehind (s : State) (off : Nat) : Bool :=
  s.st.cq.cmds.any fun c => match c.pay with
    | .c (.marker part page) _ => part == s.st.part && (page == off / 2 ^ 16 ||
        (SMap.get [] s.tlb s.st.cluster).any fun t => t.retiring && t.hit part off && t.hit part (page * 2 ^ 16))
    | _ => false

/-- How far into a range of a cell's tower the first byte stands that the strand may not reach: a reclaimed word (R352), a region held for
another task (R334), the tower's end. -/
def State.firstBarred (s : State) (cell off n : Nat) : Option Nat :=
  if 2 ^ 21 < off + n || s.reclaimedIn cell off n || s.heldHit s.st cell off n then
    some (((answerUnits off n).find? fun j => 2 ^ 21 ≤ off + j || s.reclaimed (towerPA cell (off + j)) || s.heldHit s.st cell (off + j) 1).getD 0)
  else none

/-- A piece of a run, within one page, for the executing strand. -/
def State.copyPlace (s : State) (cell : Nat) (remote wr : Bool) (r : Run) : Place :=
  if r.sp == 14 then
    match s.firstBarred cell r.off r.n with
    | some j => .fault 0x05 2 j
    | none => .ok (towerPA cell r.off) 1 false false 1
  else if r.sp == 15 then
    if 2 ^ 55 < r.off + r.n then .fault 0x05 2 0
    else
      match s.copyLookup (s.markerBehind r.off) r.off with
      | .absent c => .absent c
      | .leaf l large => s.leafPlace l (leafPA l large r.off) (leafKind l) (leafHome l) r.n remote wr (wbit l 1)
  else
    let e := s.st.extent r.sp
    if e.units == 0 || e.units * 2 ^ 16 < r.off + r.n || (!wr && !e.rd) then .fault 0x05 2 0
    else s.leafPlace (e.leaves.getD (r.off / 2 ^ 16) 0) (e.base + r.off) e.kind e.home r.n remote wr e.wr

/-- A failure of the address checks: its step, code, address, and for a page its fault-queue kind and cause. -/
structure Issue where
  step : Nat
  code : Nat
  addr : Word
  kind : Nat
  cause : Nat
deriving DecidableEq, Repr

/-- The issues of one piece of the read or the write side. -/
def State.pieceIssues (s : State) (p : Plan1) (cell : Nat) (wr : Bool) (r : Run) : List Issue :=
  match s.copyPlace cell p.remote wr r with
  | .fault c n j => [⟨n, c, word (r.sp * 2 ^ 60 + (r.off + j) % 2 ^ 60), 0, 0⟩]
  | .absent c => [⟨3, 0, r.addr, if wr then 4 else 3, c⟩]
  | .ok pa _ g _ home =>
    (match p.needs with
     | some (onRead, cls) => if onRead != wr && home != cls then [⟨2, 0x05, r.addr, 0, 0⟩] else []
     | none => []) ++
    (if wr && g && (p.policy == 0 || pa % 256 != 0 || r.n % 256 != 0) then [⟨6, 0x05, r.addr, 0, 0⟩] else []) ++
    (if decide (144 ≤ paPackage pa) && decide (paPackage pa < 240) && (p.op == 1 || p.op == 2 || p.op == 4) then [⟨0, 0x01, 0, 0, 0⟩] else [])

/-- The bytes a read of a run meets, for the length of a ZB stream: where they cannot be read they count as 0. -/
def State.peek (s : State) (cell : Nat) (remote : Bool) (r : Run) (i : Nat) : MByte :=
  let b : Run := ⟨r.sp, r.off + i, 1⟩
  match s.copyPlace cell remote false b with
  | .ok pa _ _ _ _ =>
    if r.sp == 14 then (s.st.shadowByte cell (r.off + i)).getD (s.coreByte s.st.coreIdx pa, s.corePoison s.st.coreIdx pa)
    else (s.coreByte s.st.coreIdx pa, s.corePoison s.st.coreIdx pa)
  | _ => (0, false)

/-- Whether every byte of a range can be reached. -/
def State.readable (s : State) (cell : Nat) (remote : Bool) (r : Run) : Bool :=
  r.pieces.all fun q => match s.copyPlace cell remote false q with | .ok _ _ _ _ _ => true | _ => false

/-- The bytes of n blocks of a ZB stream at a run's start, as far as they can be read. -/
def State.zbExtent (s : State) (cell : Nat) (remote : Bool) (r : Run) : Nat → Nat → Nat
  | 0, pos => pos
  | n + 1, pos =>
    if !s.readable cell remote ⟨r.sp, r.off + pos, 32⟩ then pos + 32
    else
      let len := zbLength ((List.range 32).map fun i => (s.peek cell remote r (pos + i)).1)
      if !s.readable cell remote ⟨r.sp, r.off + pos, len⟩ then pos + len
      else s.zbExtent cell remote r n (pos + len)

/-- The images with the length of each ZB stream they read filled in. -/
def State.sized (s : State) (p : Plan1) : Plan1 :=
  if !p.size.inZb then p
  else { p with images := p.images.map fun i =>
    { i with reads := i.reads.map fun r => { r with n := s.zbExtent i.rcell p.remote r (p.size.mid / 1024) 0 } } }

/-- What a side of an image is read through: the runs one after another. -/
def runsByte (rs : List Run) (i : Nat) : Option (Run × Nat) :=
  match rs with
  | [] => none
  | r :: t => if i < r.n then some (r, i) else runsByte t (i - r.n)

/-- The bytes of the read side of an image, in order; a ZB stream has no end here. -/
def State.readSide (s : State) (p : Plan1) (i : Image1) : Nat → MByte :=
  match p.size.inZb, i.reads with
  | true, r :: _ => s.peek i.rcell p.remote r
  | _, rs => fun k => match runsByte rs k with
    | some (r, j) => s.peek i.rcell p.remote r j
    | none => (0, false)

/-- What the write side of an image receives, and the offset of a ZB block that fails. -/
def State.produced (s : State) (p : Plan1) (i : Image1) : List MByte × Option Nat := transform p.pat p.op p.size (Config.free s.freeCtr (2 ^ 62)).toNat (s.readSide p i)

/-- The images with the length of each ZB stream they write filled in (R224: the stream counts as one row). -/
def State.sizedOut (s : State) (p : Plan1) : Plan1 :=
  if !p.size.outZb then p
  else { p with images := p.images.map fun i =>
    let n := (s.produced p i).1.length
    { i with writes := i.writes.map fun r => { r with n := n } } }

/-- Every issue of the address checks of a copy. -/
def State.planIssues (s : State) (p : Plan1) : List Issue :=
  (p.images.map fun i =>
    (i.reads.map fun r => (r.pieces.map (s.pieceIssues p i.rcell false)).flatten).flatten ++
    (i.writes.map fun r => (r.pieces.map (s.pieceIssues p i.wcell true)).flatten).flatten).flatten

/-- The first issue by its step; of pages that are not resident, the lowest. -/
def firstIssue (l : List Issue) : Option Issue :=
  l.foldl (fun m x => match m with
    | none => some x
    | some y =>
      if x.step < y.step || (x.step == 3 && y.step == 3 && decide (x.addr.toNat < y.addr.toNat)) then some x else some y) none

/-- The places of every piece of one side. -/
def State.sidePlaces (s : State) (p : Plan1) (wr : Bool) : List (Run × Place) :=
  (p.images.map fun i =>
    ((if wr then i.writes else i.reads).map fun r =>
      r.pieces.map fun q => (q, s.copyPlace (if wr then i.wcell else i.rcell) p.remote wr q)).flatten).flatten

/-- R228: a home that holds no compressed pages: the expander, and a package that lacks profile C1. -/
def State.lacksC1 (s : State) (pa home : Nat) : Bool :=
  home == 2 || (decide (240 ≤ paPackage pa) && decide (paPackage pa < 255) &&
    (SMap.get [] s.hub.groups (paPackage pa - 240)).any fun m => m != s.hub.pkg && !Config.packageC1 m) ||
    (decide (paPackage pa < 240) && !Config.packageC1 (paPackage pa))

/-- The task address of the first piece of a copy's read side that lies on a compressed page. -/
def State.zAt (s : State) (p : Plan1) : Option Word :=
  (s.sidePlaces p false).findSome? fun e => match e.2 with | .ok _ _ _ z _ => if z then some e.1.addr else none | _ => none

/-- R228: the read side reaches a compressed page, and the write side a place where none are held. -/
def State.zExpands (s : State) (p : Plan1) : Bool :=
  let p := s.sizedOut (s.sized p)
  (s.zAt p).isSome && (s.sidePlaces p true).any fun e => match e.2 with | .ok pa _ _ _ h => s.lacksC1 pa h | _ => false

/-- What the checks at the head come to. -/
inductive CopyCheck where
  | begins (p : Plan1)
  | fault (code : Nat) (addr : Word)
  | page (i : Issue)
deriving DecidableEq, Repr

/-- A plan against the addresses of every byte it will touch (R215); of pages that are not resident the lowest holds it (R301). -/
def State.planCheck (s : State) (p : Plan1) : CopyCheck :=
  let p := s.sizedOut (s.sized p)
  match firstIssue (s.planIssues p) with
  | some i => if i.step == 3 then .page i else .fault i.code i.addr
  | none =>
    match p.drains with
    | some t => if p.size.inZb && p.images.any (fun i => i.reads.any fun r => decide (64 * (s.st.tile t).len < r.n)) then .fault 0x12 (word t)
      else .begins p
    | none => .begins p

/-- R422: a member of a put's group that cannot be reached: the address with its number. -/
def State.lostMember (s : State) (p : Plan1) : Option Word :=
  (s.sidePlaces p true).findSome? fun e => match e.2 with
    | .ok pa _ _ _ _ =>
      if decide (240 ≤ paPackage pa) && decide (paPackage pa < 255) then
        ((SMap.get [] s.hub.groups (paPackage pa - 240)).find? fun m => m != s.hub.pkg && SMap.get false s.hub.unreach m).map fun m =>
          word (m * 2 ^ 48 + pa % 2 ^ 48)
      else none
    | _ => none

/-- Every check of a copy at the head (R215). -/
def State.copyCheck (s : State) (op : COp) : CopyCheck :=
  match s.st.planCopy op false with
  | .error (c, a) => .fault c a
  | .ok p =>
    if s.zExpands p && !p.pat.raw then
      (match s.st.planCopy op true with
       | .error (c, a) => .fault c a
       | .ok p => s.planCheck p)
    else
      match s.planCheck p with
      | .begins q =>
        if s.zExpands p then .fault 0x10 ((s.zAt q).getD 0)
        else
          (match s.lostMember q with
           | some a => .fault 0x05 a
           | none => .begins q)
      | x => x

/-- R214: the translations of a copy's far pages, as it begins. -/
def State.takeLeaves (s : State) (p : Plan1) : List TlbEntry :=
  let pages := (((s.sidePlaces p false) ++ (s.sidePlaces p true)).filterMap fun e => if e.1.sp == 15 then some e.1.off else none)
  pages.foldl (fun l off =>
    if l.any fun t : TlbEntry => t.hit s.st.part off then l
    else match s.copyLookup (s.markerBehind off) off with
      | .leaf lf large => l ++ [⟨s.st.part, if large then off / 2 ^ 29 else off / 2 ^ 16, large, lf, false⟩]
      | .absent _ => l) []

/-- A far page of a side is of kind S. -/
def State.touchesS (s : State) (p : Plan1) (wr : Bool) : Bool :=
  (s.sidePlaces p wr).any fun e => match e.2 with | .ok _ k _ _ _ => k == 0 | _ => false

end Sys2Proof.Machine
end

