-- ==== Sys2Proof/Machine/CopyRun.lean ====
section
/-! DEFINITION. A copy from its beginning to its end (R213-R227): the tiles it holds, its transfer with rinds and poison, its
carried word, and its failure on data. -/

namespace Sys2Proof.Machine

/-! ### The end of a C head -/

/-- R50, R226: the carried word goes into the D queue, behind what stands there. -/
def Strand.insertCarried (st : Strand) (c : Cmd) (dropped : Bool) : Strand :=
  match c.pay with
  | .c _ (some k) =>
    let d : Cmd := { c with pay := .d k.op, addr := k.addr, tok := k.tok, guard := k.guard, ts := k.ts, idx := 0, since := 0, on := 64,
                            waited := false, begun := false, done := false, dropped := dropped, kindS := false }
    { st with dq := { st.dq with items := st.dq.items ++ [.cmd d] } }
  | _ => st

/-- A C command is performed or discarded (R196 stage 5). -/
def Strand.leaveC (st : Strand) (c : Cmd) (dropped : Bool) : Strand :=
  ({ st.insertCarried c dropped with arrived := [] }).finishHead .C { c with dropped := c.dropped || dropped }

/-! ### The beginning -/

/-- Sets the state of an entry. -/
def Strand.tileTo (st : Strand) (t : Option Nat) (v : TState) : Strand :=
  match t with
  | some n => st.setTile n { st.tile n with st := v }
  | none => st

/-- The 256-byte blocks that n bytes from an address touch. -/
def blocksOf (pa n : Nat) : List Nat := (List.range ((pa % 256 + n + 255) / 256)).map fun i => pa - pa % 256 + 256 * i

/-- The HBM blocks that a side of a copy touches. -/
def State.hbmBlocks (s : State) (p : Plan1) (wr : Bool) : List Nat :=
  (((s.sidePlaces p wr).map fun e => match e.2 with
    | .ok pa _ _ _ _ => if paIsHbm pa then blocksOf pa e.1.n else []
    | _ => []).flatten).dedup

/-- R341: the bursts a copy presents, one for each 256-byte block of HBM that it reads, and one for each that it writes. -/
def State.copyBursts (s : State) (p : Plan1) : List Burst :=
  let burst (wr : Bool) (b : Nat) : Burst := ⟨b, wr, s.st.die, s.st.core, s.st.sid, 10 * s.time, none, 0, false⟩
  (s.hbmBlocks p false).map (burst false) ++ (s.hbmBlocks p true).map (burst true)

/-- The bytes of its tile that a copy may write. -/
def Plan1.tileBytes (p : Plan1) : Nat :=
  (p.images.map fun i => (i.writes.map fun r => r.off + r.n).foldl max 0 - ((i.writes.map (·.off)).foldl min (2 ^ 21))).foldl max 0

/-- R213: a copy begins; `carries` says that its own slots carry its bursts (R221). -/
def State.beginCopy (s : State) (c : Cmd) (op : COp) (p : Plan1) (carries : Bool) : State :=
  let st := s.st.takeCSnap c
  let st := match op with
    | .cpyb _ _ _ _ => st.closeWindow 5
    | _ => if s.touchesS p true then st.closeWindow 4 else st
  let t := match p.fills with
    | some n => State.saveTile { s with st := st } c n p.tileBytes
    | none => { s with st := st }
  let st := ((t.st.tileTo p.fills .filling).tileTo p.drains .draining).setHead .C
    { c with begun := true, since := s.time, kindS := s.touchesS p false || s.touchesS p true }
  { t with st := { st with ctr := s.takeLeaves p, arrived := [] }, bursts := s.bursts ++ if carries then s.copyBursts p else [] }

/-- R215: a begun copy fails: its tiles go back, its head stops with the fault. -/
def State.failCopy (s : State) (c : Cmd) (p : Plan1) (code : Nat) (addr : Word) (version : Nat) : State :=
  let st := ((s.st.tileTo p.fills .empty).tileTo p.drains .ready)
  State.engineFault { s with st := { st with ctr := [], arrived := [] }, bursts := s.bursts.filter fun b => b.sid != s.st.sid } .C c code addr version

/-- The cop of a copy that leaves a fill record (R239). -/
def COp.fillRec : COp → Option FillRec
  | .cpy _ a b false p => some ⟨a, b, p, 1⟩
  | .cpyb _ a b p => some ⟨a, b, p, 2⟩
  | .cpyr _ a b false p => some ⟨a, b, p, 4⟩
  | _ => none

/-- The tile copy that a fill record stands for. -/
def FillRec.copy (f : FillRec) (t : Nat) : COp :=
  if f.cop == 2 then .cpyb t f.far f.pat f.policy
  else if f.cop == 4 then .cpyr t f.far f.pat false f.policy
  else .cpy t f.far f.pat false f.policy

/-- The final states of a copy's entries (Table 10.1). -/
def Strand.settleTiles (st : Strand) (op : COp) (p : Plan1) : Strand :=
  let st := match p.fills with
    | some t => st.setTile t { st.tile t with st := .ready, fill := op.fillRec }
    | none => st
  st.tileTo p.drains (if p.pat.rel then .empty else .ready)

/-! ### Transfer -/

/-- A failure on data: code, address, and the version of a rind. -/
structure DataErr where
  code : Nat
  addr : Word
  version : Nat
deriving DecidableEq, Repr

/-- R224, R225: the rind of a block of a read piece is missing or does not match. Another package holds its rinds with its blocks: one
that its page lacks shows here, a mismatch on arrival (COPY_DATA_FAULT). -/
def State.blockFault (s : State) (policy : Nat) (g : Bool) (addr : Word) (b : Nat) : Option DataErr :=
  if policy == 0 then none
  else if !g then (if policy == 2 then some ⟨0x0D, addr, 0⟩ else none)
  else if paPackage b != 255 then none
  else
    let r := s.rindOf b
    if r == Rind.absent then some ⟨0x0D, addr, 0⟩
    else if r.crc != crc32c (s.homeBytes b 256) || r.addr != s.logical b then some ⟨0x0D, addr, r.version.toNat⟩
    else none

/-- What stops the read of a piece, in the blocks that `want` names. -/
def State.readFault (s : State) (p : Plan1) (cell : Nat) (want : Nat → Bool) (q : Run) : Option DataErr :=
  match s.copyPlace cell p.remote false q with
  | .ok pa _ g _ _ => ((blocksOf pa q.n).filter want).findSome? fun b => s.blockFault p.policy g (word (q.sp * 2 ^ 60 + (q.off + b - pa))) b
  | .fault _ _ j => some ⟨0x05, word (q.sp * 2 ^ 60 + (q.off + j)), 0⟩
  | .absent _ => some ⟨0x05, q.addr, 0⟩

/-- R224: the new rind of a block just written, from the one it held. DESIGN CHOICE: the first rind of a block has version 1 (log 102). -/
def State.renewRind (s : State) (old : Rind) (b : Nat) : State :=
  { s with rinds := SMap.set Rind.absent s.rinds (b / 256) ⟨crc32c (s.homeBytes b 256), s.logical b,
      if old == Rind.absent then 1 else old.version + 1⟩ }

/-- Bytes land at their home: poisoned ones mark their units, whole blocks of a G page get new rinds. Of a group's put a member of this
number lands here (R422); what a window names in another package leaves the machine, every other byte of one stands under its physical
address (log 20), whose rinds that package keeps. -/
def State.landBytes (s : State) (pa : Nat) (g : Bool) (bs : List MByte) : State :=
  let pa := if decide (240 ≤ paPackage pa) && decide (paPackage pa < 255) && (SMap.get [] s.hub.groups (paPackage pa - 240)).contains s.hub.pkg
    then 255 * 2 ^ 48 + pa % 2 ^ 48 else pa
  if decide (144 ≤ paPackage pa) && paPackage pa != 255 then s
  else
    let held := s
    let s := s.directWrite (layout pa (plainBytes bs)) false
    let s := ((List.range bs.length).zip bs).foldl (fun (s : State) e => if e.2.2 then s.mark (pa + e.1) true else s) s
    if g && paPackage pa == 255 then
      ((blocksOf pa bs.length).filter fun b => decide (pa ≤ b) && decide (b + 256 ≤ pa + bs.length)).foldl
        (fun s b => s.renewRind (held.rindOf b) b) s
    else s

/-- Lands a list of bytes over pieces, until a piece has no home. -/
def State.landPieces (s : State) (p : Plan1) (cell : Nat) : List Run → List MByte → State × Option DataErr
  | [], _ => (s, none)
  | _, [] => (s, none)
  | q :: t, bs =>
    match s.copyPlace cell p.remote true q with
    | .ok pa _ g _ _ => State.landPieces (s.landBytes pa g (bs.take q.n)) p cell t (bs.drop q.n)
    | .fault _ _ j => (s, some ⟨0x05, word (q.sp * 2 ^ 60 + (q.off + j)), 0⟩)
    | .absent _ => (s, some ⟨0x05, q.addr, 0⟩)

/-- R390: poisoned lines of the expander that a read side takes, of those `want` names, are logged. -/
def State.notePoisonRead (s : State) (p : Plan1) (cell : Nat) (want : Nat → Bool) (q : Run) : State :=
  match s.copyPlace cell p.remote false q with
  | .ok pa _ _ _ 2 => (((List.range ((pa % 64 + q.n + 63) / 64)).map fun i => pa - pa % 64 + 64 * i).filter want).foldl (fun s a =>
      if s.homePoison a then s.notePoison s.st.part s.st.coreIdx a else s) s
  | _ => s

/-! ### The bytes of a transfer one by one (R5, R391) -/

/-- A byte of the write side: its place, whether its page keeps rinds, and the 64-byte lines it is computed from. -/
structure OutByte where
  pa : Nat
  g : Bool
  lines : List Nat
deriving DecidableEq, Repr

/-- Where byte k of a side stands, and the G of its page. -/
def State.bytePlace (s : State) (p : Plan1) (i : Image1) (wr : Bool) (k : Nat) : Option (Nat × Bool) :=
  (runsByte (if wr then i.writes else i.reads) k).bind fun e =>
    match s.copyPlace (if wr then i.wcell else i.rcell) p.remote wr ⟨e.1.sp, e.1.off + e.2, 1⟩ with
    | .ok pa _ g _ _ => some (pa, g)
    | _ => none

/-- The places of the ZB blocks of an image: of the stream it reads, or of the one it writes. -/
def State.zbOf (s : State) (p : Plan1) (i : Image1) : List (Nat × Nat) :=
  if p.size.inZb then zbPlaces (s.readSide p i) (p.size.mid / 1024) 0
  else if p.size.outZb then (let out := (s.produced p i).1; zbPlaces (fun k => out.getD k (0, false)) (p.size.mid / 1024) 0)
  else []

/-- The bytes of an image's write side with their values; the values stop at a ZB block that fails. -/
def State.outBytes (s : State) (p : Plan1) (i : Image1) : List (OutByte × MByte) :=
  let zs := s.zbOf p i
  let line (j : Nat) : Option Nat := (s.bytePlace p i false j).map fun e => e.1 - e.1 % 64
  let out := (s.produced p i).1
  ((List.range out.length).zip out).filterMap fun e =>
    (s.bytePlace p i true e.1).map fun w =>
      let r := sourceOf p.pat p.op zs e.1
      (⟨w.1, w.2, ((List.range r.2).filterMap fun j => line (r.1 + j)).dedup⟩, e.2)

/-- Bytes under rising addresses, in runs. -/
def byteRuns (l : List (Nat × MByte)) : List (Nat × List MByte) :=
  l.foldr (fun e m => match m with
    | (a, bs) :: t => if e.1 + 1 == a then (e.1, e.2 :: bs) :: t else (e.1, [e.2]) :: m
    | [] => [(e.1, [e.2])]) []

/-- Bytes of a write side land. -/
def State.landAll (s : State) (l : List (OutByte × MByte)) : State :=
  let put (s : State) (g : Bool) : State :=
    (byteRuns ((l.filter fun e => e.1.g == g).map fun e => (e.1.pa, e.2))).foldl (fun s e => s.landBytes e.1 g e.2) s
  put (put s false) true

/-- The bytes that `ok` allows; of a G page's block all or none (R224). -/
def wholeBlocks (l : List (OutByte × MByte)) (ok : OutByte → Bool) : List (OutByte × MByte) :=
  let cut := ((l.filter fun e => e.1.g && !ok e.1).map fun e => e.1.pa / 256).dedup
  l.filter fun e => ok e.1 && !(e.1.g && cut.contains (e.1.pa / 256))

/-- A byte takes part in a burst. -/
def OutByte.bursts (b : OutByte) : Bool := paIsHbm b.pa || b.lines.any paIsHbm

/-- Every burst that a byte takes part in has landed. -/
def OutByte.carried (b : OutByte) (arrived : List Nat) : Bool :=
  b.lines.all (fun a => !paIsHbm a || arrived.contains (a - a % 256)) && (!paIsHbm b.pa || arrived.contains (b.pa - b.pa % 256 + 1))

/-- The bytes that the bursts landed so far have brought (R5). -/
def broughtBy (l : List (OutByte × MByte)) (arrived : List Nat) : List (OutByte × MByte) :=
  wholeBlocks l fun b => b.bursts && b.carried arrived

/-- The bytes among `l` that are not among `m`. -/
def besides (l m : List (OutByte × MByte)) : List (OutByte × MByte) :=
  let have' := m.map fun e => e.1.pa
  l.filter fun e => !have'.contains e.1.pa

/-- What a copy reads is as its issuer sees it (R282-R284): of an 8-byte unit that the core's buffer holds in part, the buffered lines go
to their homes first; what other packages hold may have changed; the strand has read what others wrote. -/
def State.forRead (s : State) (p : Plan1) (i : Image1) : State :=
  ((i.reads.map Run.pieces).flatten).foldl (fun s q =>
    match s.copyPlace i.rcell p.remote false q with
    | .ok pa _ _ _ _ =>
      let c := s.st.coreIdx
      let mixed := !(s.outQ c).isEmpty && (List.range ((pa % 8 + q.n + 7) / 8)).any fun j => s.outMixed c (pa - pa % 8 + 8 * j) 8
      let s := if mixed then s.drainAll c else s
      ((if (s.outQ c).isEmpty then s else s.noteRead c s.st.sid pa q.n).foreignWrite pa q.n)
    | _ => s) s

/-- What an image's read side fails on as it is performed: what no landed burst has brought and checked. -/
def State.imageFault (s : State) (p : Plan1) (i : Image1) : Option DataErr :=
  ((i.reads.map Run.pieces).flatten).findSome? (s.readFault p i.rcell fun b => !s.st.arrived.contains b)

/-- One image: its read side is checked, its bytes are formed and land; those that a burst has landed stay as they are. -/
def State.moveImage (s : State) (p : Plan1) (i : Image1) : State × Option DataErr :=
  match s.imageFault p i with
  | some e => (s, some e)
  | none =>
    let s := s.forRead p i
    let out := s.produced p i
    let t := ((i.reads.map Run.pieces).flatten).foldl (fun s q => s.notePoisonRead p i.rcell (fun _ => true) q) s
    let writes := (i.writes.map Run.pieces).flatten
    let r :=
      if s.st.arrived.isEmpty then t.landPieces p i.wcell writes out.1
      else
        let l := s.outBytes p i
        (t.landAll (besides l (broughtBy l s.st.arrived)),
          writes.findSome? fun q => match s.copyPlace i.wcell p.remote true q with
            | .ok _ _ _ _ _ => none
            | .fault _ _ j => some ⟨0x05, word (q.sp * 2 ^ 60 + (q.off + j)), 0⟩
            | .absent _ => some ⟨0x05, q.addr, 0⟩)
    match r.2, out.2 with
    | some _, _ => r
    | none, some off => (r.1, some ⟨0x0A, word (((i.reads.map Run.addr).headD 0).toNat + off), 0⟩)
    | none, none => r

/-- The images one after another, lowest grid index first, until one fails. -/
def State.moveImages (s : State) (p : Plan1) : List Image1 → State × Option DataErr
  | [] => (s, none)
  | i :: t =>
    let r := s.moveImage p i
    match r.2 with
    | some _ => r
    | none => State.moveImages r.1 p t

/-- The plan of a begun copy, its streams sized as the bytes stand. -/
def State.begunPlan (s : State) (op : COp) : Option Plan1 :=
  match s.st.planCopy op false with
  | .error _ => none
  | .ok p =>
    if s.zExpands p then
      (match s.st.planCopy op true with
       | .error _ => none
       | .ok p => some (s.sizedOut (s.sized p)))
    else some (s.sizedOut (s.sized p))

/-- A begun copy is performed (R213, R220). -/
def State.performCopy (s : State) (c : Cmd) (op : COp) : State :=
  match s.begunPlan op with
  | none => s
  | some p =>
    let r := s.moveImages p p.images
    let t : State := { r.1 with freeCtr := r.1.freeCtr + 1 }
    match r.2, t.lostMember p with
    | some e, _ => t.failCopy c p e.code e.addr e.version
    | none, some a => t.failCopy c p 0x05 a 0
    | none, none => { t with st := Strand.leaveC { t.st.settleTiles op p with ctr := [] } c false }

/-- The copy a C head is performing. -/
def Strand.begunCopy (st : Strand) : Option (Cmd × COp) :=
  match st.cq.cur with
  | some c => if c.begun && !c.done then (match c.pay with | .c op _ => some (c, op) | _ => none) else none
  | none => none

/-- R221: the strands whose begun CPYB belongs to the same gather. -/
def State.gatherOf (s : State) (op : COp) : List Nat :=
  match op with
  | .cpyb _ a b _ => (s.strands.filter fun t => t.die == s.st.die && t.core % 16 == s.st.core % 16 && domIdent t.dom == domIdent s.st.dom && t.part == s.st.part &&
      t.sid != s.st.sid && (match t.begunCopy with | some (_, .cpyb _ x y _) => x == a && y == b | _ => false)).map (·.sid)
  | _ => []

/-- R420: the begun copy is one with another package while no scale-up link is up. -/
def State.fabricHeld (s : State) : Bool :=
  match s.st.begunCopy with
  | some (_, .cpyr _ _ _ _ _) => s.liveLinks.isEmpty
  | _ => false

/-- R384: the begun copy goes to a tower of the other die while the die link retrains, or waits for the fabric. -/
def State.copyHeld (s : State) : Bool :=
  s.fabricHeld || s.hub.d2dDown && match s.st.begunCopy with
    | some (_, op) => (match s.begunPlan op with
      | some p => (s.sidePlaces p false ++ s.sidePlaces p true).any fun e => match e.2 with | .ok pa _ _ _ _ => paIsTower pa && s.stalled s.st.die pa | _ => false
      | none => false)
    | none => false

/-- COPY_PERFORMED (R213): the copy at the C head has moved every byte once its bursts have landed; a gather ends for all
its strands at once, once those of its lead have (R221). -/
def execCopyPerformed (s : State) : Host.Outcome State Fault Refusal :=
  match s.st.begunCopy with
  | none => .next s
  | some (c, op) =>
    let sids := s.gatherOf op
    if !s.st.live || s.copyHeld || s.bursts.any (fun b => b.sid == s.st.sid || sids.contains b.sid) then .next s
    else
      .next (sids.foldl (fun s sid => s.onStrand sid fun t =>
        match t.st.begunCopy with
        | some (c, op) => t.performCopy c op
        | none => t) (s.performCopy c op))

/-- What a burst just landed shows of an image's read side: a rind that is missing or wrong (R224), a ZB block beyond its ratio whose
bytes have all come (R219). -/
def State.burstFault (s : State) (p : Plan1) (i : Image1) (key : Nat) (arrived : List Nat) : Option DataErr :=
  match ((i.reads.map Run.pieces).flatten).findSome? (s.readFault p i.rcell (· == key)) with
  | some e => some e
  | none =>
    if !p.size.inZb then none
    else
      let come (j : Nat) : Bool := match s.bytePlace p i false j with
        | some (pa, _) => !paIsHbm pa || arrived.contains (pa - pa % 256)
        | none => false
      ((s.zbOf p i).find? fun z => decide (ratioOf p.pat.ratio * z.2 < 1024) && (List.range z.2).all fun j => come (z.1 + j)).map fun z =>
        ⟨0x0A, word (((i.reads.map Run.addr).headD 0).toNat + z.1), 0⟩

/-- The bytes of one image that a burst brings land. -/
def State.landImage (s : State) (p : Plan1) (arrived : List Nat) (key : Nat) (i : Image1) : State :=
  let s := s.forRead p i
  let l := s.outBytes p i
  s.landAll (besides (broughtBy l (arrived ++ [key])) (broughtBy l arrived))

/-- The bytes of a block land for the executing strand's begun copy (R5); `key` is the block, of the write side one higher. What the burst
shows to be wrong fails the copy, and no byte computed from it lands (R225). -/
def State.landBlockHere (s : State) (key : Nat) : State :=
  match s.st.begunCopy with
  | none => s
  | some (c, op) =>
    match s.begunPlan op with
    | none => s
    | some p =>
      match p.images.findSome? fun i => s.burstFault p i key (s.st.arrived ++ [key]) with
      | some e => s.failCopy c p e.code e.addr e.version
      | none =>
        let t := p.images.foldl (fun s i => s.landImage p s.st.arrived key i) s
        { t with st := { t.st with arrived := t.st.arrived ++ [key] } }

/-- R5, R341: a burst of a strand's copy lands; a gather's lands for every member (R221). -/
def State.landBurst (s : State) (sid key : Nat) : State :=
  if (s.strand sid).isNone then s
  else
    s.onStrand sid fun s =>
      let sids := match s.st.begunCopy with | some (_, op) => s.gatherOf op | none => []
      sids.foldl (fun s sid => s.onStrand sid fun t => t.landBlockHere key) (s.landBlockHere key)

/-! ### Failures (R215, R391) -/

/-- A 64-byte line of a side of a copy: its physical and its task address, and whether it is written. -/
structure FarLine where
  pa : Nat
  addr : Word
  wr : Bool
deriving DecidableEq, Repr

/-- The lines of a copy that other units than the core hold: of each image those it reads, then those it writes. -/
def State.farLines (s : State) (p : Plan1) : List FarLine :=
  let side (cell : Nat) (wr : Bool) (rs : List Run) : List FarLine :=
    (((rs.map Run.pieces).flatten).map fun q => match s.copyPlace cell p.remote wr q with
      | .ok pa _ _ _ _ =>
        if q.sp == 14 then []
        else (List.range ((pa % 64 + q.n + 63) / 64)).map fun j => ⟨pa - pa % 64 + 64 * j, word (q.sp * 2 ^ 60 + (q.off + 64 * j - pa % 64)), wr⟩
      | _ => []).flatten
  (p.images.map fun i => side i.rcell false i.reads ++ side i.wcell true i.writes).flatten

/-- A line has not been answered: of HBM its burst has not landed, else it is among those named. -/
def FarLine.isOpen (l : FarLine) (arrived : List Nat) (named : Bool) : Bool :=
  if paIsHbm l.pa then !arrived.contains (l.pa - l.pa % 256 + if l.wr then 1 else 0) else named

/-- Whether a byte of the write side may land with some lines unanswered: each line it is computed from has been answered, under a rind
policy the whole block (R224), and the one it goes to, of which `half` says that it took the unit. -/
def OutByte.answered (b : OutByte) (policy : Nat) (un : List FarLine) (half : Nat → Bool) : Bool :=
  b.lines.all (fun a => !un.any fun l => !l.wr && (l.pa == a || (policy != 0 && l.pa / 256 == a / 256))) &&
    (half b.pa || !un.any fun l => l.wr && l.pa == b.pa - b.pa % 64)

/-- R215, R391: a begun copy fails with some of its lines unanswered: the bytes computed from answered lines alone have landed. -/
def State.failAmid (s : State) (c : Cmd) (p : Plan1) (un : List FarLine) (half : Nat → Bool) (code : Nat) (addr : Word) (version : Nat) : State :=
  let t := p.images.foldl (fun s i =>
    let s := s.forRead p i
    let l := s.outBytes p i
    let s := ((i.reads.map Run.pieces).flatten).foldl (fun s q => s.notePoisonRead p i.rcell (fun a => !un.any fun l => !l.wr && l.pa == a) q) s
    s.landAll (besides (wholeBlocks l fun b => b.answered p.policy un half) (broughtBy l s.st.arrived))) s
  State.failCopy { t with freeCtr := t.freeCtr + 1 } c p code addr version

/-- The version that a rind mismatch of a block records (R224): of this package's blocks the one held, of another's a free value. -/
def State.rindVersion (s : State) (pa : Nat) : Nat :=
  if paPackage pa == 255 then (s.rindOf (pa - pa % 256)).version.toNat else (Config.free s.freeCtr (2 ^ 61)).toNat % 2 ^ 16

/-- A re-fetch that has begun (R239): the address of its D word, the poisoned byte, its rind policy. -/
def Strand.refetching (st : Strand) : Option (Word × Word × Nat) :=
  match st.rollback with
  | some (.poison _ byte dword f _ .begun) => some (dword, byte, f.policy)
  | _ => none

/-- COPY_DATA_FAULT (R215): a begun copy fails on its nth line, those before it having been answered: a home answers with an error, or
the rind of a block is found wrong on arrival; a ZB block fails where its own bytes say so. A re-fetch that fails is not contained
(R239). -/
def execCopyDataFault (k : DataFault) (n : Nat) (s : State) : Host.Outcome State Fault Refusal :=
  match s.st.begunCopy, s.st.refetching with
  | none, some (dword, byte, policy) =>
    .next (if !s.st.live || k == .expansion || (k == .rind && policy == 0) then s else s.machineCheck s.st 10 dword byte)
  | none, none => .next s
  | some (c, op), _ =>
    match s.begunPlan op with
    | none => .next s
    | some p =>
      if !s.st.live then .next s
      else
        match k with
        | .expansion =>
          let r := s.moveImages p p.images
          .next (match r.2 with
            | some e => State.failCopy { r.1 with freeCtr := r.1.freeCtr + 1 } c p e.code e.addr e.version
            | none => s)
        | k =>
          let lines := s.farLines p
          match lines[n]? with
          | none => .next s
          | some l =>
            if !l.isOpen s.st.arrived true || (k == .rind && (p.policy == 0 || l.wr)) then .next s
            else
              let un := (((List.range lines.length).zip lines).filter fun e => e.2.isOpen s.st.arrived (decide (n ≤ e.1))).map Prod.snd
              .next (if k == .rind then s.failAmid c p un (fun _ => false) 0x0D (l.addr - word (l.pa % 256)) (s.rindVersion l.pa)
                else s.failAmid c p un (fun _ => false) 0x05 l.addr 0)

end Sys2Proof.Machine
end

