-- ==== Sys2Proof/Machine/CEngine.lean ====
section
/-! DEFINITION. The C queue (R208-R234): every command at its head, gathers (R221), QFENCE (R230), stream registers and
their decoders (R231-R233), and the discard of a head (R199). -/

namespace Sys2Proof.Machine

/-! ### Tile words -/

/-- R208: the operand checks of TDEF. -/
def tdefFault (v : Word) : Option (Nat × Word) :=
  let stop := 64 * (bf v 0 15 + bf v 15 15 + 1)
  if 10 < bf v 33 4 || bf v 30 3 == 7 then some (0x01, 0)
  else if bf v 37 27 != 0 then some (0x02, 0)
  else if 2 ^ 21 < stop then some (0x05, word stop)
  else none

/-- R208, R212: TDEF writes its entry, and the span code of every stripe its region overlaps, in every cell. -/
def State.tdef (s : State) (t : Nat) (v : Word) : State :=
  let base := bf v 0 15
  let len := bf v 15 15 + 1
  let span := bf v 30 3
  let first := base / 8
  let count := (base + len + 7) / 8 - first
  let m := s.st.grid.foldl (fun m cell =>
    (List.range count).foldl (fun m i => SMap.set 6 m (cell * 4096 + first + i) span) m) s.span
  { s with st := s.st.setTile t ⟨.empty, base, len, span, bf v 33 4, none⟩, span := m }

/-! ### Streams (R231-R233) -/

/-- A stream register with nothing bound. -/
def Stream.unbound : Stream := ⟨false, 0, 0, 0, 0, 0, 0, []⟩

def xformOp (x : Word) : Nat := bf x 0 4
def xformPair (x : Word) : Nat := bf x 4 4
def xformRatio (x : Word) : Nat := bf x 8 4

/-- Source bytes of one decoded unit: a group, or for pair codes 13-15 eight. -/
def xformUnit (x : Word) : Nat :=
  if xformOp x ≤ 1 then 64
  else match pairBq (xformPair x) with
    | some q => bqGroupBytes q
    | none => 64 * (pairWidths (xformPair x)).1 / (pairWidths (xformPair x)).2

/-- Groups of one unit. -/
def xformYield (x : Word) : Nat := if 1 < xformOp x && (pairBq (xformPair x)).isSome then 8 else 1

/-- Offset of unit u of a raw or converting pattern from its base. -/
def patternAt (pat : Word) (u : Nat) : Nat :=
  64 * (u / bf pat 0 16 * bf pat 48 16 + u % bf pat 0 16 * bf pat 32 16)

/-- The operand checks of QBIND, in order. -/
def qbindFault (sa sb sc : Word) : Option (Nat × Word) :=
  let op := xformOp sc
  let units := bf sb 0 16 * bf sb 16 16
  if bf sb 0 16 == 0 || bf sb 16 16 == 0 || 5 < xformRatio sc || op == 2 || 4 < op then some (0x01, 0)
  else if bf sc 12 52 != 0 || (op % 3 == 1 && bf sb 32 32 != 0) || (op ≤ 1 && xformPair sc != 0) then some (0x02, 0)
  else if bf sa 60 4 != 14 || bf sa 21 39 != 0 then some (0x05, sa)
  else if op % 3 == 1 then none
  else
    ((List.range units).find? fun u => decide (2 ^ 21 < bf sa 0 21 + patternAt sb u + xformUnit sc)).map fun u =>
      (0x05, word (max (2 ^ 21) (bf sa 0 21 + patternAt sb u)))

/-- The stream a QBIND binds. -/
def streamOf (bind : Nat) (sa sb sc : Word) : Stream :=
  ⟨true, bind, bf sa 0 21, sb, sc, bf sb 0 16 * bf sb 16 16 * xformYield sc, 0, []⟩

/-- A V command enqueued before, that names the stream, still stands in the V queue, or may come back to it (R233, R115). -/
def Strand.pendingPops (st : Strand) (c : Cmd) (q : Nat) : Bool :=
  (st.flights.any fun f => !f.landed && f.pops.any fun e => e.1 == q) || st.vq.nexts.any fun x => x.precedes c && match x.pay with
    | .v v => v.streams.any fun e => e.1 == q
    | _ => false

def Strand.setStream (st : Strand) (q : Nat) (v : Stream) : Strand := { st with streams := SMap.set Stream.unbound st.streams q v }

/-- What a decoder reads of a cell's tower at an offset. -/
def State.towerByte (s : State) (cell off : Nat) : MByte := (s.homeByte (towerPA cell off), s.homePoison (towerPA cell off))

/-- The space-14 address of an offset. -/
def towerAddr (off : Nat) : Word := word (14 * 2 ^ 60 + off)

/-- The value of 64 bytes. -/
def groupValue (l : List MByte) : VReg := BitVec.ofNat 512 (bytesNat (plainBytes l))

/-- R232: a decoded part of a group: the fault or the poison a pop meets, and its bytes. -/
structure Decoded where
  bytes : List MByte
  fault : Option (Nat × Word)
  poison : Option Word
deriving DecidableEq, Repr

/-- The first poisoned byte of a range of a tower. -/
def State.towerPoison (s : State) (cell off n : Nat) : Option Word :=
  (((List.range n).map (off + ·)).find? fun o => (s.towerByte cell o).2).map towerAddr

/-- A unit of a raw or converting pattern, in one cell. -/
def State.decodeUnit (s : State) (cell : Nat) (r : Stream) (u : Nat) : Decoded :=
  let off := r.base + patternAt r.pat u
  let n := xformUnit r.xform
  if s.reclaimedIn cell off n || s.heldHit s.st cell off n then ⟨[], some (0x05, towerAddr off), none⟩
  else
    let src := (List.range n).map fun i => s.towerByte cell (off + i)
    ⟨if xformOp r.xform == 0 then src else convertBytes (xformPair r.xform) 0 src, none, s.towerPoison cell off n⟩

/-- The blocks of a ZB stream in a tower from an offset: where each begins and its length, or the fault of R219 or of a block
beyond the tower. -/
def State.zbBlocks (s : State) (cell ratio : Nat) : Nat → Nat → Except (Nat × Word) (List (Nat × Nat))
  | 0, _ => .ok []
  | n + 1, pos =>
    if 2 ^ 21 < pos + 32 then .error (0x05, towerAddr pos)
    else
      let len := zbLength ((List.range 32).map fun i => (s.towerByte cell (pos + i)).1)
      if 2 ^ 21 < pos + len then .error (0x05, towerAddr pos)
      else if ratioOf ratio * len < 1024 then .error (0x0A, towerAddr pos)
      else match State.zbBlocks s cell ratio n (pos + len) with
        | .ok l => .ok ((pos, len) :: l)
        | e => e

/-- A unit of a ZB stream, in one cell. -/
def State.decodeZb (s : State) (cell : Nat) (r : Stream) (u : Nat) : Decoded :=
  let n := xformUnit r.xform
  let first := u * n / 1024
  match s.zbBlocks cell (xformRatio r.xform) (((u + 1) * n + 1023) / 1024) r.base with
  | .error e => ⟨[], some e, none⟩
  | .ok l =>
    let bs := ((l.drop first).map fun b => zbExpandBlock ((List.range b.2).map fun i => s.towerByte cell (b.1 + i))).flatten
    let src := (bs.drop (u * n % 1024)).take n
    ⟨if xformOp r.xform == 1 then src else convertBytes (xformPair r.xform) 0 src, none,
     (l.drop first).findSome? fun b => s.towerPoison cell b.1 b.2⟩

/-- R232: the next group of a stream in every cell of the grid. -/
def State.decodeGroup (s : State) (r : Stream) : Group :=
  let y := xformYield r.xform
  let parts := s.st.grid.map fun cell =>
    let d := if xformOp r.xform % 3 == 1 then s.decodeZb cell r (r.next / y) else s.decodeUnit cell r (r.next / y)
    let bs := (d.bytes.drop (64 * (r.next % y))).take 64
    ({ d with bytes := bs, poison := if anyBad bs then d.poison else none } : Decoded)
  ⟨parts.map fun d => groupValue d.bytes, parts.findSome? Decoded.fault, parts.findSome? Decoded.poison⟩

/-- STREAM_GROUP_DECODE (R232): a decoder with room in its FIFO of 8 decodes its next group. -/
def execStreamGroupDecode (q : BitVec 2) (s : State) : Host.Outcome State Fault Refusal :=
  match s.st.streams.lookup q.toNat with
  | none => .next s
  | some r =>
    if !s.st.live || !r.bound || 8 ≤ r.fifo.length || r.total ≤ r.next || s.sOpen s.st then .next s
    else .next { s with st := s.st.setStream q.toNat { r with fifo := r.fifo ++ [s.decodeGroup r], next := r.next + 1 } }

/-! ### QFENCE (R230) -/

/-- What a QFENCE at the head still waits for. -/
def State.fenceWaits (s : State) (c : Cmd) (mask scope : Nat) : Bool :=
  let st := s.st
  (mask.testBit 2 && (!st.flightsDone || st.vq.nexts.any fun x => x.precedes c)) ||
  (mask.testBit 1 && st.dq.nexts.any fun x => !x.done && x.precedes c) ||
  (mask.testBit 3 && !st.loads.isEmpty) || (mask.testBit 2 && !st.vLanes.isEmpty) ||
  (mask / 4 != 0 && scopeHome scope && s.releaseBlocked st [0, 1, 2])

/-! ### The head -/

/-- R214: a page that is not resident holds the head; a fault-queue entry is posted. -/
def State.holdC (s : State) (i : Issue) : State :=
  let p : Park := ⟨i.addr, i.kind, i.cause, 3⟩
  State.fqPost { s with st := { s.st with cheld := some p } } s.st.cluster (s.st.heldFault p)

/-- A command that is performed at the head at once. -/
def State.performHead (s : State) (c : Cmd) : State := { s with st := (s.st.takeCSnap c).leaveC c false }

/-- R221: the core mask of a CPYB omits its own core. -/
def Strand.offMask (st : Strand) (b : Word) : Bool := !(bf b 48 16).testBit (st.core / 16)

/-- A copy at the head: its checks, then its beginning; a CPYB waits for its gather. -/
def State.tryCopy (s : State) (c : Cmd) (op : COp) : State :=
  match s.copyCheck op with
  | .fault code a => s.engineFault .C c code a 0
  | .page i => s.holdC i
  | .begins p =>
    match op with
    | .cpyb _ _ b _ => if s.st.offMask b then s.engineFault .C c 0x15 0 0 else s
    | _ => if s.sOpen s.st || ((s.touchesS p false || s.touchesS p true) && s.sBlocked s.st) then s else s.beginCopy c op p true

/-- A C command at stage 4. -/
def State.cRun (s : State) (c : Cmd) (op : COp) : State :=
  match op with
  | .tdef t v =>
    (match tdefFault v with
     | some (code, a) => s.engineFault .C c code a 0
     | none => State.tdef { s with st := (s.st.takeCSnap c).leaveC c false } t v)
  | .trel t =>
    if (s.st.tile t).len == 0 then s.engineFault .C c 0x12 (word t) 0
    else { s with st := ((s.st.takeCSnap c).tileTo (some t) .empty).leaveC c false }
  | .qbind q b sa sb sc =>
    (match qbindFault sa sb sc with
     | some (code, a) => s.engineFault .C c code a 0
     | none =>
       if s.st.pendingPops c q then s
       else { s with st := ((s.st.takeCSnap c).setStream q (streamOf b sa sb sc)).leaveC c false })
  | .qunb q _ =>
    if s.st.pendingPops c q then s
    else { s with st := ((s.st.takeCSnap c).setStream q Stream.unbound).leaveC c false }
  | .qfence m sc => if s.fenceWaits c m sc then s else s.performHead c
  | .marker _ _ => { s with st := { s.st with cq := { s.st.cq with cur := none } } }
  | op => s.tryCopy c op

/-- COPY_BEGIN (R196, R215): the head of the C queue takes its stages; a copy begins once its checks pass, every other command
is performed. -/
def execCopyBegin (s : State) : Host.Outcome State Fault Refusal :=
  let s := { s with st := s.st.retryPosts .C }
  if s.st.cheld.isSome || s.resumeWaits 3 then .next s
  else
    let r := s.st.stage .C
    let t := { s with st := r.1 }
    .next (match r.2 with
      | .perform c => (match c.pay with | .c op _ => (t.resumed 3).cRun c op | _ => t)
      | .discard c => { t with st := t.st.leaveC c true }
      | _ => t)

/-- INVAL_MARKER (R292): a marker at the C head is performed. -/
def execInvalMarker (s : State) : Host.Outcome State Fault Refusal :=
  let r := s.st.stage .C
  match r.2 with
  | .perform c =>
    (match c.pay with
     | .c (.marker p g) _ => .next (State.cRun { s with st := r.1 } c (.marker p g))
     | _ => .next s)
  | _ => .next s

/-- COMMAND_DISCARD (R199): the head of a queue, its guard false or its fault discarded, makes its posts and leaves; of V that takes an
issue cycle (R112). -/
def execCommandDiscard (q : EngineQ) (s : State) : Host.Outcome State Fault Refusal :=
  let r := s.st.stage q
  match r.2 with
  | .discard c =>
    .next { s with st := match q with
      | .V => Strand.vDiscard { r.1 with vcyc := r.1.vcyc + 1 } c
      | .D => r.1.finishHead .D { c with dropped := true }
      | .C => r.1.leaveC c true }
  | _ => .next s

/-! ### Gathers (R221) -/

/-- The CPYB a strand offers at its C head. -/
def Strand.offers (st : Strand) : Option (Cmd × COp) :=
  match (st.stage .C).2 with
  | .perform c => (match c.pay with | .c (.cpyb t a b p) _ => if st.cheld.isNone then some (c, .cpyb t a b p) else none | _ => none)
  | _ => none

/-- The same gather: equal sA, sB and DOM identity. PRESUMED: its strands belong to one partition (log 103). -/
def Strand.matchesGather (st t : Strand) (op : COp) : Bool :=
  t.part == st.part && domIdent t.dom == domIdent st.dom && (match op, t.offers with
    | .cpyb _ a b _, some (_, .cpyb _ x y _) => x == a && y == b
    | _, _ => false)

/-- The strand of a core that joins: of those that match, the one in the lowest field. -/
def State.joins (s : State) (op : COp) (core : Nat) : Option Strand :=
  (s.strands.filter fun t => t.die == s.st.die && t.core == core && s.st.matchesGather t op).foldl
    (fun m t => match m with
      | none => some t
      | some u => if t.field < u.field then some t else some u) none

/-- The members of the executing strand's gather, one for each core of its mask; none while one is missing. -/
def State.members (s : State) (op : COp) : Option (List Strand) :=
  match op with
  | .cpyb _ _ b _ => ((List.range 16).filter fun j => (bf b 48 16).testBit j).mapM fun j => s.joins op (16 * j + s.st.core % 16)
  | _ => none

/-- Whether the executing strand's own part of a gather could begin. -/
def State.gatherReady (s : State) : Bool :=
  match s.st.offers with
  | some (_, op) => (match s.copyCheck op with
    | .begins p => !s.resumeWaits 3 && !s.sOpen s.st && !(s.touchesS p false && s.sBlocked s.st)
    | _ => false)
  | none => false

/-- The executing strand's part of a gather begins; the calendar slots of the lowest core carry the bursts of all. -/
def State.gatherBegin (s : State) (lead : Bool) : State :=
  let r := s.st.stage .C
  let t := State.resumed { s with st := r.1 } 3
  match s.st.offers with
  | some (c, op) => (match t.copyCheck op with
    | .begins p => t.beginCopy { c with waited := true } op p lead
    | _ => s)
  | none => s

/-- A part of the state seen from another strand. -/
def State.seenBy (s : State) (sid : Nat) : State := if s.isCur sid then s else s.select sid

/-- R221: a CPYB at the C head raises fault 0x15. -/
def State.refuseGather (s : State) : State :=
  match s.st.offers with
  | some (c, _) => State.engineFault { s with st := (s.st.stage .C).1 } .C c 0x15 0 0
  | none => s

/-- GATHER (R221): every core of the mask holds its CPYB, and the gather begins at all of them; partners of another gang size
are a fault of every member. -/
def execGather (s : State) : Host.Outcome State Fault Refusal :=
  match s.st.offers with
  | none => .next s
  | some (_, op) =>
    match s.members op with
    | none => .next s
    | some l =>
      if !l.any (fun t => t.sid == s.st.sid) then .next s
      else if l.any (fun t => t.gang != s.st.gang) then .next (l.foldl (fun s t => s.onStrand t.sid State.refuseGather) s)
      else if l.all (fun t => (s.seenBy t.sid).gatherReady) then
        .next (l.foldl (fun s t => s.onStrand t.sid fun s => s.gatherBegin ((l.head?.map (·.sid)) == some t.sid)) s)
      else .next s

/-- GATHER_PARTNER_TIMEOUT (R221): a CPYB that has waited for its partners for the watchdog interval. -/
def execGatherPartnerTimeout (s : State) : Host.Outcome State Fault Refusal :=
  match s.st.offers with
  | none => .next s
  | some (c, _) => .next (if c.since + Config.watchdog ≤ s.st.cyc then s.refuseGather else s)

end Sys2Proof.Machine
end

