-- ==== Sys2Proof/Machine/Loopb.lean ====
section
/-! DEFINITION. LOOPB (R38, R53, R201-R203): the decode of a whole body, the shares it gives the queues, and its enqueue. -/

namespace Sys2Proof.Machine

/-! ### The body (R53) -/

/-- One engine word of a body: its address and its issues, the REP steps applied. -/
structure BodyWord where
  pc : Word
  issues : List Instr
deriving DecidableEq, Repr

/-- A nested LOOPB: its address, the captured count, the skews of C, D and V, and its words. -/
structure Nested where
  pc : Word
  count : Nat
  c : Nat
  d : Nat
  v : Nat
  words : List BodyWord
deriving DecidableEq, Repr

/-- An item of an outer body. -/
inductive BodyPart where
  | word (w : BodyWord)
  | nested (n : Nested)
deriving DecidableEq, Repr

/-- Bytes of an engine word with its dependent word, if the word is one. -/
def Strand.engineBytes (st : Strand) (i : Instr) : Option Nat := (st.engineWord i).map (·.n)

/-- Whether a word is LOOPB (lop 6). -/
def isLoopbWord (w : W32) : Bool := isLong 6 w

/-- Whether a word is LOOPS (sop 26). -/
def isLoopsWord (w : W32) : Bool := fld w 24 8 == 26

/-- The text word at an address, as it stands. -/
def State.rawWord (s : State) (pc : Word) : Option W32 := (s.textAt s.st.part pc).map fun e => s.textWord e.1 e.2

/-- What raises 0x01 at a word of a body ahead of a zero field that is not zero (R34, R53): an S word that no body holds, a REP
without a permitted target, a further LOOPB or one that runs on behind its body, an owner whose dependent word lies there. -/
def State.bodyForbids (s : State) (pc : Word) (n e : Nat) (deep : Bool) (w : W32) : Bool :=
  if wordClass w == 0 then
    if isRepWord w then decide (e ≤ n + 1) || (s.repTarget (pc + 4)).isNone
    else !isLoopbWord w || deep || decide (e < n + 1 + (fld w 0 8).toNat)
  else isOwner w && decide (e < n + 2)

/-- The instruction at a word of a body, or its fault. -/
def State.bodyFetch (s : State) (pc : Word) (n e : Nat) (deep : Bool) : Except (Nat × Word) Instr :=
  match s.fetch s.st.part pc with
  | .ok i => .ok i
  | .error (c, _) => .error (if c == 0x02 && (s.rawWord pc).any (s.bodyForbids pc n e deep) then 0x01 else c, pc)

/-- One item at word n of a body that ends at word e: the item without nesting, and the word after it. A REP is checked before
its target, which then meets its own checks. -/
def State.bodyWord (s : State) (base : Word) (n e : Nat) (i : Instr) : Except (Nat × Word) (BodyWord × Nat) :=
  let pc := base + word (4 * n)
  match i with
  | .rep c b a k =>
    match (if e ≤ n + 1 then none else s.repTarget (pc + 4)) with
    | none => .error (0x01, pc)
    | some (m1, m2, m3) =>
      if (!m1 && a != 0) || (!m2 && b != 0) || (!m3 && c != 0) then .error (0x02, pc)
      else
        match s.bodyFetch (pc + 4) (n + 1) e true with
        | .error x => .error x
        | .ok t =>
          match s.st.engineBytes t with
          | none => .error (0x01, pc + 4)
          | some z =>
            if e < n + 1 + z / 4 then .error (0x01, pc + 4)
            else .ok (⟨pc + 4, (List.range (k.toNat + 1)).map fun j => stepInstr j a b c t⟩, n + 1 + z / 4)
  | i =>
    match s.st.engineBytes i with
    | none => .error (0x01, pc)
    | some z => if e < n + z / 4 then .error (0x01, pc) else .ok (⟨pc, [i]⟩, n + z / 4)

/-- The words of a nested body. -/
def State.innerBody (s : State) (base : Word) (e : Nat) : Nat → Nat → Except (Nat × Word) (List BodyWord)
  | 0, _ => .ok []
  | f + 1, n =>
    if e ≤ n then .ok []
    else
      match s.bodyFetch (base + word (4 * n)) n e true with
      | .error x => .error x
      | .ok i =>
        match s.bodyWord base n e i with
        | .error x => .error x
        | .ok (w, m) => match State.innerBody s base e f m with
          | .ok l => .ok (w :: l)
          | .error x => .error x

/-- The queue of a word. -/
def Strand.queueOf (st : Strand) (i : Instr) : EngineQ :=
  match st.engineWord i with
  | some w => w.q
  | none => .V

/-- The queue of a body word. -/
def Strand.wordQueue (st : Strand) (w : BodyWord) : EngineQ := st.queueOf (w.issues.headD .nop)

/-- The words of a queue. -/
def Strand.shareOf (st : Strand) (q : EngineQ) (ws : List BodyWord) : List BodyWord := ws.filter fun w => st.wordQueue w == q

/-- R202: three shares with words and three skews. -/
def Strand.deadSkews (st : Strand) (ws : List BodyWord) (c d v : Nat) : Bool :=
  c != 0 && d != 0 && v != 0 && [EngineQ.V, .D, .C].all fun q => !(st.shareOf q ws).isEmpty

/-- A nested LOOPB at an address, from its word: its own zero field comes after its own 0x01 and before the faults of its words. -/
def State.nestedBody (s : State) (pc : Word) (w : W32) (reserved : Bool) : Except (Nat × Word) Nested :=
  let l := (fld w 0 8).toNat
  let n (ws : List BodyWord) : Nested :=
    ⟨pc, bf (s.st.rs (fld w 20 5)) 0 32, (fld w 8 3).toNat, (fld w 11 3).toNat, (fld w 14 3).toNat, ws⟩
  match s.innerBody (pc + 4) l l 0 with
  | .error x => .error (if reserved then (0x02, pc) else x)
  | .ok ws =>
    if s.st.deadSkews ws (n ws).c (n ws).d (n ws).v then .error (0x01, pc)
    else if reserved then .error (0x02, pc) else .ok (n ws)

/-- The items of an outer body; `deep` says that it has had its nested LOOPB. -/
def State.outerBody (s : State) (base : Word) (e : Nat) : Nat → Nat → Bool → Except (Nat × Word) (List BodyPart)
  | 0, _, _ => .ok []
  | f + 1, n, deep =>
    if e ≤ n then .ok []
    else
      let pc := base + word (4 * n)
      let w := (s.rawWord pc).getD 0
      let more (p : BodyPart) (m : Nat) (deep : Bool) : Except (Nat × Word) (List BodyPart) :=
        match State.outerBody s base e f m deep with
        | .ok rest => .ok (p :: rest)
        | .error x => .error x
      match s.bodyFetch pc n e deep with
      | .error (c, a) =>
        if c == 0x02 && isLoopbWord w then
          (match s.nestedBody pc w true with
           | .error x => .error x
           | .ok _ => .error (c, a))
        else .error (c, a)
      | .ok (.loopb _ _ _ _ l) =>
        if deep || e < n + 1 + l.toNat then .error (0x01, pc)
        else
          (match s.nestedBody pc w false with
           | .error x => .error x
           | .ok x => more (.nested x) (n + 1 + l.toNat) true)
      | .ok i =>
        match s.bodyWord base n e i with
        | .error x => .error x
        | .ok (w, m) => more (.word w) m deep

/-! ### The shares (R201) -/

/-- The words of a body in one list. -/
def BodyPart.words : BodyPart → List BodyWord
  | .word w => [w]
  | .nested n => n.words

/-- The words of a body that are performed: those of a nested LOOPB with count 0 are not. -/
def BodyPart.live : BodyPart → List BodyWord
  | .word w => [w]
  | .nested n => if n.count == 0 then [] else n.words

/-- R202: the skew of a queue, 0 where its own share or the previous queue's is empty. -/
def Strand.skewOf (st : Strand) (q : EngineQ) (ws : List BodyWord) (c d v : Nat) : Nat :=
  if (st.shareOf q ws).isEmpty || (st.shareOf (prevQueue q) ws).isEmpty then 0
  else match q with
    | .C => c
    | .D => d
    | .V => v

/-- What a word of a body carries: a TS mark, and a D word (R50). -/
def Strand.wordMarks (st : Strand) (w : BodyWord) : Bool × Bool :=
  match st.engineWord (w.issues.headD .nop) with
  | some e => (e.ts, e.pay.carries)
  | none => (false, false)

/-- The carried word of a body word is marked TS. -/
def Strand.carriedTs (st : Strand) (w : BodyWord) : Bool :=
  match st.engineWord (w.issues.headD .nop) with
  | some ⟨_, .c _ (some k), _, _, _, _⟩ => k.ts
  | _ => false

/-- The commands of a body word, issue by issue, under one enqueue number. -/
def Strand.bodyCmds (st : Strand) (w : BodyWord) : List (EngineQ × Cmd) :=
  ((List.range w.issues.length).zip w.issues).filterMap fun e =>
    let at' : Strand := { st with pc := w.pc, rep := { RepState.none with left := 1, made := e.1 } }
    (at'.engineWord e.2).map fun x => (x.q, at'.command x.pay x.tok x.g x.ts)

/-- The strand after a body word's enqueue: its number is used and the names of its binding stand (R20). -/
def Strand.passWord (st : Strand) (w : BodyWord) : Strand :=
  let st := w.issues.foldl (fun st i => match st.engineWord i with
    | some x => st.rename x.pay
    | none => st) st
  { st with seq := st.seq + 1 }

/-- The commands of a list of body words, and the strand after them. -/
def Strand.wordsCmds (st : Strand) : List BodyWord → List (EngineQ × Cmd) × Strand
  | [] => ([], st)
  | w :: t =>
    let r := Strand.wordsCmds (st.passWord w) t
    (st.bodyCmds w ++ r.1, r.2)

/-- The commands of one queue. -/
def cmdsOf (q : EngineQ) (l : List (EngineQ × Cmd)) : List Cmd := (l.filter fun e => e.1 == q).map Prod.snd

/-- The items of each queue for a body, in order, and the strand after them; a nested LOOPB with count 0 gives none. -/
def Strand.shares (st : Strand) (id : Nat) : List BodyPart → (EngineQ → List BodyItem) × Strand
  | [] => (fun _ => [], st)
  | .word w :: t =>
    let r := Strand.shares (st.passWord w) id t
    (fun q => (cmdsOf q (st.bodyCmds w)).map BodyItem.cmd ++ r.1 q, r.2)
  | .nested n :: t =>
    let cs := st.wordsCmds (if n.count == 0 then [] else n.words)
    let r := Strand.shares cs.2 id t
    (fun q =>
      let l := cmdsOf q cs.1
      (if l.isEmpty then []
       else [.inner ⟨id, l, l, n.count, 0, st.skewOf q n.words n.c n.d n.v⟩]) ++ r.1 q, r.2)

/-- A share goes behind its queue. -/
def Strand.putShare (st : Strand) (q : EngineQ) (id count skew : Nat) (body : List BodyItem) : Strand :=
  if body.isEmpty then st
  else
    let v := st.queue q
    st.setQueue q { v with items := v.items ++ [.outer ⟨id, body, body, count, 0, skew⟩] }

/-- The strand after the enqueue of a body (R201). -/
def Strand.putBody (st : Strand) (parts : List BodyPart) (count c d v : Nat) : Strand :=
  let ws := (parts.map BodyPart.live).flatten
  let id := st.loopSeq + 1
  let r := st.shares (id + 1) parts
  let t := [EngineQ.C, .D, .V].foldl (fun t q => t.putShare q id count (st.skewOf q ws c d v) (r.1 q)) r.2
  { t with loopSeq := id + 1 }

/-- R194: whether every share fits, the D words carried by C words among them. -/
def Strand.bodyFits (st : Strand) (ws : List BodyWord) : Bool :=
  let carried := (ws.filter fun w => (st.wordMarks w).2).length
  st.room .V (st.shareOf .V ws).length && st.room .C (st.shareOf .C ws).length && st.room .D ((st.shareOf .D ws).length + carried)

/-- R235: a word of the body is marked TS, or carries one. -/
def Strand.opensBody (st : Strand) (ws : List BodyWord) : Bool := ws.any fun w => (st.wordMarks w).1 || st.carriedTs w

/-- The strand before the enqueue of a body: a TS word opens a window (R235), and retention gives way (R243). -/
def Strand.forBody (st : Strand) (ws : List BodyWord) : Strand :=
  let st := if st.opensBody ws then st.openWindow else st
  let carried := (ws.filter fun w => (st.wordMarks w).2).length
  (st.makeRoom .C (st.shareOf .C ws).length).makeRoom .D ((st.shareOf .D ws).length + carried)

/-- R38, R53: the items of the body of a LOOPB at PC, from its word, or the fault the body raises. DEDUCED: a fault of a body word comes
before the LOOPB's own dead skew (R202, log 37). -/
def State.loopbParts (s : State) (c d v l : Nat) : Except (Nat × Word) (List BodyPart) :=
  match s.outerBody (s.st.pc + 4) l l 0 false with
  | .error x => .error x
  | .ok parts => if s.st.deadSkews (parts.map BodyPart.words).flatten c d v then .error (0x01, 0) else .ok parts

/-- LOOPB. -/
def State.loopbWord (s : State) (r : BitVec 5) (v d c : Nat) (l : Nat) : WRes :=
  match s.loopbParts c d v l with
  | .error (code, a) => flt code a
  | .ok parts =>
    let live := (parts.map BodyPart.live).flatten
    let count := bf (s.st.rs r) 0 32
    let cmds := s.st.wordsCmds live
    let w : Enqueued := ⟨s.st.pc, cmds.1.map fun e => (e.1, e.2.pay), count⟩
    if count == 0 then .ok (s.advance (4 * (l + 1)))
    else if s.st.again then
      .ok (State.enqueuedAgain { s with st := { s.st with qname := cmds.2.qname, qbinds := cmds.2.qbinds } } w (4 * (l + 1)))
    else if s.st.opensBody live && s.st.awaiting then .wait .interlock
    else
      let st := s.st.forBody live
      if st.bodyFits live then
        .ok (State.advance { s with st := (st.putBody parts count c d v).noteWord w } (4 * (l + 1)))
      else .wait .queueFull

/-- R34: what ranks before a 0x02 of the word at PC: a 0x01 that its REP target, its LOOPS end or its LOOPB body gives it. -/
def State.illegalToo (s : State) (w : W32) : Option (Nat × Word) :=
  if isRepWord w then (if (s.repTarget (s.st.pc + 4)).isNone then some (0x01, 0) else none)
  else if isLoopsWord w then (if s.loopsRefused (fld w 0 14).toNat then some (0x01, 0) else none)
  else if isLoopbWord w then
    (match s.loopbParts (fld w 8 3).toNat (fld w 11 3).toNat (fld w 14 3).toNat (fld w 0 8).toNat with
     | .error (c, a) => if c == 0x01 || c == 0x13 then some (c, a) else none
     | .ok _ => none)
  else none

/-- R34-R37: the instruction at PC, or its fault with TREC2. -/
def State.nextFetch (s : State) : Except (Nat × Word) Instr :=
  match s.fetch s.st.part s.st.pc with
  | .ok i => .ok i
  | .error (c, a) => .error (if c == 0x02 then ((s.rawWord s.st.pc).bind s.illegalToo).getD (c, a) else (c, a))

/-- LOOPB (R53, R201). -/
def execLoopb (r : BitVec 5) (v : BitVec 3) (d : BitVec 3) (c : BitVec 3) (l : BitVec 8) (s : State) : Host.Outcome State Fault Refusal :=
  finish s (s.loopbWord r v.toNat d.toNat c.toNat l.toNat)

end Sys2Proof.Machine
end

