-- ==== Sys2Proof/Machine/Window.lean ====
section
/-! DEFINITION. Command windows (R235-R245): the checker's mismatches (R204, R205), the rollback of a window, and the
re-fetch of a poisoned tile. -/

namespace Sys2Proof.Machine

/-! ### The checker (R204, R205) -/

/-- R204: a word the checker compares, beside the engine words. -/
def isCompared : Instr → Bool
  | .loopb _ _ _ _ _ | .st _ _ _ _ | .swr _ _ | .fork _ | .syncs _ | .syncc _ | .spawn _ _ | .signal _ | .tend | .bar | .barw _ _ | .bara
  | .yield | .wear _ | .amoAdd _ _ _ _ _ | .amoAnd _ _ _ _ _ | .amoOr _ _ _ _ _ | .amoXor _ _ _ _ _ | .amoMin _ _ _ _ _ | .amoMax _ _ _ _ _
  | .amoMinn _ _ _ _ _ | .amoMaxn _ _ _ _ _ | .amoSwap _ _ _ _ _ | .amoCas _ _ _ _ _ | .amoFadd32 _ _ _ _ _ | .amoAddw _ _ _ _ _
  | .amoCasw _ _ _ _ _ | .amoSwapw _ _ _ _ _ => true
  | _ => false

/-- The word at PC, where the sequencer is about to execute it. -/
def State.nextWord (s : State) : Option Instr :=
  let st := s.st
  if !st.live || st.park.isSome || st.atJoin || st.saveReq || st.saving || st.rollback.isSome || !st.jobs.isEmpty then none
  else match s.nextFetch with
    | .ok i => some (st.stepped i)
    | .error _ => none

/-- R235: whether a word opens a window: its own issue, or a LOOPB whose body holds a marked word. -/
def State.marksWindow (s : State) (i : Instr) : Bool :=
  match i with
  | .loopb r v d c l =>
    (match s.loopbParts c.toNat d.toNat v.toNat l.toNat with
     | .ok parts => bf (s.st.rs r) 0 32 != 0 && s.st.opensBody (parts.map BodyPart.live).flatten
     | .error _ => false)
  | i => match s.st.engineWord i with
    | some w => s.st.opensWindow w.pay w.ts
    | none => false

/-- R238, R245: a mismatch at the word at PC: the window rolls back, or the task ends. At a marking word it falls in the window that
opens there, which waits for the loads under way. -/
def State.mismatch (s : State) : State :=
  match s.nextWord with
  | none => s
  | some i =>
    if !(isCompared i || (s.st.engineWord i).isSome) then s
    else if !s.st.again && s.marksWindow i then
      if s.st.awaiting then s
      else { s with st := { s.st.openWindow with rollback := some (.mismatch s.st.pc), stall := none } }
    else
      match s.st.win with
      | none => s.machineCheck s.st 1 s.st.pc 0
      | some _ =>
        if s.st.inReplay then s.machineCheck s.st 5 s.st.pc 0
        else { s with st := { s.st with rollback := some (.mismatch s.st.pc), stall := none } }

/-- CHECKER_MISMATCH (R205): the checker has produced another item. -/
def execCheckerMismatch (s : State) : Host.Outcome State Fault Refusal := .next s.mismatch

/-- CHECKER_TIMEOUT (R205): the checker has not produced the item within 64 cy, which is a mismatch. -/
def execCheckerTimeout (s : State) : Host.Outcome State Fault Refusal := .next s.mismatch

/-! ### Rolling back (R238) -/

/-- A map with the entries of a list of cells replaced by saved ones. -/
def SMap.restore {α : Type} [DecidableEq α] (d : α) (m saved : SMap α) (n : Nat) (cells : List Nat) : SMap α :=
  saved.foldl (fun m e => SMap.set d m e.1 e.2) (m.dropCells n cells)

/-- Step 2: the D snapshot comes back in every cell. -/
def State.restoreD (s : State) (w : Window) : State :=
  match w.dsnap with
  | none => s
  | some d =>
    let cells := s.st.grid
    let st := ((List.range 16).zip d.ft).foldl (fun (st : Strand) e => st.setSys (0x020 + e.1) e.2) s.st
    { s with st := { st with shape := d.shape, kstep := d.kstep },
             acc := SMap.restore 0 s.acc d.acc 4096 cells, accInt := SMap.restore false s.accInt d.accInt 16 cells,
             pt := SMap.restore PermTable.initial s.pt d.pt 16 cells, rs := SMap.restore RunSum.initial s.rs d.rs 16 cells }

/-- Step 2: the tile table comes back. -/
def Strand.restoreC (st : Strand) (w : Window) : Strand :=
  match w.csnap with
  | none => st
  | some c => { st with tiles := c.tiles }

/-- The command at a queue's head when its strand goes back: it waits on no tile; one of the window already performed, whose posts
hold it, is performed again for the posts still to come. -/
def Window.rewindHead (w : Window) (c : Cmd) : Cmd :=
  if c.done && decide (w.startSeq ≤ c.seq) then { c.kept with tok := c.tok } else { c with on := 64 }

/-- Step 5: a queue goes back to its first retained entry; the command at its head stands behind the retained ones. -/
def Queue.rewind (q : Queue) (w : Window) : Queue :=
  { q with cur := none, retained := [],
           items := q.retained.map Item.cmd ++ (q.cur.toList.map fun c => Item.cmd (w.rewindHead c)) ++ q.items }

/-- Step 4: the checkpoint comes back. -/
def Strand.restoreCheckpoint (st : Strand) (cp : Checkpoint) : Strand :=
  let st := { st with
    pc := cp.pc, wp := cp.wp, vwp := cp.vwp, guards := cp.guards, loops := cp.loops, rep := cp.rep, qname := cp.qname, qbinds := cp.qbinds,
    afterCall := none, stall := none }
  ((List.range 31).zip cp.regs).foldl (fun (st : Strand) e => st.setRs (BitVec.ofNat 5 (e.1 + 1)) e.2) st

/-- A strand that has gone back: its tile table and its queues; what the window performed is to be performed again in the same
order (R241), behind what an earlier window has still to perform again. -/
def Strand.rewound (st : Strand) (w : Window) : Strand :=
  let st := st.restoreC w
  { st with dq := st.dq.rewind w, cq := st.cq.rewind w, replay := st.replay ++ w.order, win := some { w with again := true } }

/-- R241: what the window's D commands and copies have written stands; performed again, they read what their tiles held the first time. -/
def Strand.shade (st : Strand) : Strand :=
  match st.win with
  | some w => { st with shadow := if st.replay.isEmpty then [] else st.shadow ++ w.undo }
  | none => st

/-- R238: the rollback is complete: the sequencer goes on, and the contained event is counted. -/
def State.contained (s : State) : State :=
  State.logDie { s with st := { s.st with rollback := none } } s.st.die 9 (some s.st.core) 0 0 0 0 0

/-- The re-execution of a window's units (R240). -/
def Window.reexec (w : Window) (intrap : Bool) : Option Reexec := if w.units == 0 then none else some ⟨w.units, w.loads, intrap, w.words⟩

/-- R238 once no copy of the strand is under way: the snapshots come back, the queues rewind; after a mismatch the sequencer
goes back to the checkpoint and executes again up to the dropped item (R240). A word that differs from its entry ends the task (R245). -/
def State.rollBack (s : State) (w : Window) (r : Rollback) : State :=
  match r with
  | .mismatch _ =>
    if s.st.awaiting then s
    else
      let s := s.restoreD w
      let st := ((s.st.rewound w).restoreCheckpoint w.cp).shade
      let st := { st with reexec := w.reexec st.intrap, win := st.win.map fun w => { w with units := 0 } }
      State.contained { s with st := st }
  | .poison t byte dword f e .found =>
    let s := s.restoreD w
    { s with st := { s.st.rewound w with rollback := some (.poison t byte dword f e .restored) } }
  | .poison _ _ _ _ _ _ => s
  | .differs a => s.machineCheck s.st 5 a 0

/-- WINDOW_ROLLBACK (R238). -/
def execWindowRollback (s : State) : Host.Outcome State Fault Refusal :=
  match s.st.rollback, s.st.win with
  | some r, some w => if !s.st.live || s.st.begunCopy.isSome then .next s else .next (s.rollBack w r)
  | _, _ => .next s

/-! ### The re-fetch (R239) -/

/-- A re-fetched byte of the tile is poisoned. -/
def State.refetchPoison (s : State) (p : Plan1) : Bool :=
  p.images.any fun i => i.writes.any fun r => (List.range r.n).any fun k => s.homePoison (towerPA i.wcell (r.off + k))

/-- The strand as the re-fetch of a tile finds it: the entry the D word read, empty. -/
def Strand.forRefetch (st : Strand) (tile : Nat) (e : Tile) : Strand := st.setTile tile { e with st := .empty }

/-- A re-fetch begins: the checks of its head, its leaves (R214). -/
def State.refetchBegin (s : State) (tile : Nat) (byte dword : Word) (f : FillRec) (e : Tile) : State :=
  let u : State := { s with st := s.st.forRefetch tile e }
  match u.copyCheck (f.copy tile) with
  | .fault _ _ => s.machineCheck s.st 10 dword byte
  | .page i => s.holdC i
  | .begins p =>
    if s.sOpen s.st || (u.touchesS p false && s.sBlocked s.st) then s
    else { s with st := { s.st with ctr := u.takeLeaves p, rollback := some (.poison tile byte dword f e .begun) } }

/-- The fill of a tile is performed again into the entry the D word read: no tokens and no carried word; then the tile table of the
snapshot stands. -/
def State.refetch (s : State) (tile : Nat) (byte dword : Word) (f : FillRec) (e : Tile) : State :=
  let now := s.st.tile tile
  let u : State := { s with st := s.st.forRefetch tile e }
  match u.begunPlan (f.copy tile) with
  | none => s.machineCheck s.st 10 dword byte
  | some p =>
    let r := u.moveImages p p.images
    let t : State := { r.1 with freeCtr := r.1.freeCtr + 1 }
    match r.2 with
    | some _ => t.machineCheck t.st 10 dword byte
    | none =>
      if t.refetchPoison p then t.machineCheck t.st 4 dword byte
      else State.contained { t with st := { (t.st.setTile tile now).shade with ctr := [] } }

/-- TILE_REFETCH (R239): the poisoned tile of a rollback is fetched again, ahead of every other C command. -/
def execTileRefetch (s : State) : Host.Outcome State Fault Refusal :=
  match s.st.rollback with
  | some (.poison t byte dword f e .restored) =>
    if !s.st.live || s.st.cheld.isSome || s.st.saving || s.resumeWaits 3 then .next s else .next ((s.resumed 3).refetchBegin t byte dword f e)
  | some (.poison t byte dword f e .begun) => if !s.st.live then .next s else .next (s.refetch t byte dword f e)
  | _ => .next s

end Sys2Proof.Machine
end

