-- ==== Sys2Proof/Machine/Spill.lean ====
section
/-! DEFINITION. The spill engine's transfers (R14-R18), and a trap taken at a boundary (R165-R167). -/

namespace Sys2Proof.Machine

/-- SPILL_TRANSFER (R14, R18): the oldest transfer that the word at the boundary of the executing strand waits for is performed,
once no load is outstanding into its registers; the word goes on with the last. -/
def execSpillTransfer (s : State) : Host.Outcome State Fault Refusal :=
  match s.st.jobs with
  | [] => .next s
  | j :: t =>
    if !s.st.live || s.st.jobBusy j || s.sOpen s.st then .next s
    else
      let s := s.spillMove j
      .next { s with st := { s.st with jobs := t, moved := s.st.moved + 1,
                                       stall := if t.isEmpty && s.st.stall == some .spill then none else s.st.stall } }

/-- TRAP_ENTRY (R165-R167): at a boundary the oldest pending engine fault of the executing strand is taken. -/
def execTrapEntry (s : State) : Host.Outcome State Fault Refusal :=
  let st := s.st
  if !st.live || st.park.isSome || st.atJoin || st.saving || st.rollback.isSome || s.trapHeld || st.loads.any (·.held) then .next s
  else match st.boundaryPend with
    | some p => .next (s.takePend p)
    | none => .next s

end Sys2Proof.Machine
end

