-- ==== Sys2Proof/Machine/Hbm.lean ====
section
/-! DEFINITION. The HBM calendar and its links (R339-R345, R386, R387), wear (R354, R355), the die-to-die link (R384), and
the expander port (R388-R392). -/

namespace Sys2Proof.Machine

/-! ### The calendar (R339-R343); times in tenths of a nanosecond -/

def State.setChan (s : State) (ch : Nat) (v : Chan) : State := { s with chans := SMap.set Chan.initial s.chans ch v }

/-- The start of the latest slot of a number that has begun. -/
def slotStart (now slot : Nat) : Option Nat :=
  let r := now / 1024 * 1024 + 32 * slot
  if r ≤ now then some r else if 1024 ≤ r then some (r - 1024) else none

/-- R340: the cluster whose agent a slot of a channel belongs to. -/
def slotCluster (channel slot : Nat) : Nat := (slot + 32 - channel % 128 / 8) % 32

/-- R340: the slot of a channel that carries the bursts of a core. -/
def slotOf (channel core : Nat) : Nat := (clusterOfCore core + channel % 128 / 8) % 32

/-- R344: the row-buffer counter of an access, and the row its bank keeps open. -/
def State.rowAccess (s : State) (pa : Nat) : State :=
  let ch := paChannel pa
  let bank := Config.hbmBank pa
  let row := Config.hbmRow pa
  let k := ch * 1024 + (bank * 16 ^^^ Config.rowHash row % 1024) % 1024
  let b := ch * 64 + bank % 64
  let open1 := SMap.get 0 s.openRow b
  let c := SMap.get 0 s.rowCtr k
  let c := if open1 == 0 then c else if open1 == row + 1 then min 3 (c + 1) else c - 1
  { s with rowCtr := SMap.set 0 s.rowCtr k c, openRow := SMap.set 0 s.openRow b (if 2 ≤ c then row + 1 else 0) }

/-- R341: the burst a slot that starts at t serves: a waiting replay first, else the first presented at least 24 ns
before. -/
def Burst.served (b : Burst) (channel cluster t : Nat) : Bool :=
  paChannel b.pa == channel && clusterOfCore b.core == cluster && b.slot.isNone && decide (b.presented + 240 ≤ t)

/-- Sets a burst of a list. -/
def putBurst (p : Burst → Bool) (f : Burst → Burst) : List Burst → List Burst
  | [] => []
  | b :: t => if p b then f b :: t else b :: putBurst p f t

/-- Whether an address is on a channel. -/
def onChannel (ch pa : Nat) : Bool := paIsHbm pa && paChannel pa == ch

/-- The fine accesses on their way to this package's HBM, each with its cluster (R263): loads, lanes of V accesses, atomics, buffered
writes. -/
def State.fineReqs (s : State) : List (Nat × Nat) :=
  (((s.strands.map fun t => ((t.loads.filter fun l => !l.amo).map fun l => (clusterOfCore t.core, l.pa)) ++ t.vLanes.map fun l => (clusterOfCore t.core, l.pa)).flatten) ++
    (s.net.filterMap fun q => (q.parts.head?.bind s.partCore).map fun c => (clusterOfCore (c % 256), q.pa)) ++
    ((s.outbound.map fun q => q.2.map fun e => (clusterOfCore (q.1 % 256), e.line)).flatten)).filter fun e => paIsHbm e.2

/-- R263: the fine access of a cluster that waits first on a channel. -/
def State.fineFirst (s : State) (ch cluster : Nat) : Option Nat := (s.fineReqs.find? fun e => e.1 == cluster && paChannel e.2 == ch).map Prod.snd

/-- R263: whether fine accesses of a cluster wait on a channel. -/
def State.fineWaits (s : State) (ch cluster : Nat) : Bool := (s.fineFirst ch cluster).isSome

/-- R342: the replay that takes a slot ahead of all else. -/
def State.replayIn (s : State) (ch t : Nat) : Option Burst :=
  s.bursts.find? fun b => paChannel b.pa == ch && b.slot == some t && decide (0 < b.replays)

/-- R386: an event of a channel: the die's counter of the class and the channel's own. -/
def State.chanEvent (s : State) (ch k pa : Nat) : State :=
  let i := 4 * ch + (k - 5)
  State.logDie { s with hbmCnt := SMap.set 0 s.hbmCnt i (min (SMap.get 0 s.hbmCnt i + 1) (2 ^ 64 - 1)) } (ch / 128) k none 0 0 (ch % 128) pa 0

/-- A fine batch has its slot: one that failed before has been cured by its replay (R386). -/
def State.fineServed (s : State) (ch pa : Nat) : State :=
  let c := s.chan ch
  State.rowAccess (if c.fineFails == 0 then s else (s.setChan ch { c with fineFails := 0 }).chanEvent ch 5 pa) pa

/-- A strand number that no strand has: the patrol scrub's. -/
def noStrand : Nat := 2 ^ 64

/-- R343: the patrol scrub reads the channel's next block in a slot that nothing takes. -/
def State.patrol (s : State) (ch t : Nat) : State :=
  let c := s.chan ch
  let pa := hbmPA (c.patrol * 65536 + 256 * ch)
  State.rowAccess (State.setChan { s with bursts := s.bursts ++ [⟨pa, false, ch / 128, 0, noStrand, t, some t, 0, false⟩] } ch
    { c with patrol := (c.patrol + 1) % max 1 (Config.hbmBytes / 65536) }) pa

/-- CALENDAR_SLOT (R263, R341-R343): the agent's slot of a channel carries a replay; else a waiting fine batch, except that a
ready burst follows a rotation whose slot went to one; else the first burst it serves; else the patrol scrub. While the die link retrains
no burst goes to the other die (R384). -/
def execCalendarSlot (channel slot : Nat) (s : State) : Host.Outcome State Fault Refusal :=
  let c := s.chan channel
  match (if slot < 32 && channel < 256 then slotStart (10 * s.time) slot else none) with
  | none => .next s
  | some t =>
    if c.retraining || c.failed || SMap.get 0 c.taken slot == t + 1 then .next s
    else
      let c' := { c with taken := SMap.set 0 c.taken slot (t + 1) }
      let cluster := slotCluster channel slot
      match s.replayIn channel t with
      | some b => .next ((s.setChan channel c').rowAccess b.pa)
      | none =>
        let burst := s.bursts.find? fun b => b.served channel cluster t && !s.stalled b.die b.pa
        match (if burst.isSome && SMap.get 0 c.fineLast slot + 1024 == t + 1 then none else s.fineFirst channel cluster) with
        | some pa => .next ((s.setChan channel { c' with fineLast := SMap.set 0 c.fineLast slot (t + 1) }).fineServed channel pa)
        | none =>
          match burst with
          | none => .next ((s.setChan channel c').patrol channel t)
          | some b =>
            .next (State.rowAccess (State.setChan { s with bursts := putBurst (· == b) (fun b => { b with slot := some t }) s.bursts } channel c') b.pa)

/-- R341: the moment a served burst lands. -/
def Burst.landsAt (b : Burst) : Option Nat := b.slot.map fun t => t + (if paChannel b.pa / 128 == b.die then 1800 else 2200)

/-- R386, R435: what the array's ECC finds under a burst: errors it corrects, and 32-byte units beyond correction, whose four
8-byte units are marked. -/
def State.arrayErrors (s : State) (pa corrected : Nat) (bad : List Nat) : State :=
  let s := (List.range corrected).foldl (fun s _ => s.chanEvent (paChannel pa) 7 pa) s
  ((bad.filter (· < 8)).dedup).foldl (fun s u =>
    State.chanEvent ([0, 8, 16, 24].foldl (fun s i => s.mark (pa + 32 * u + i) true) s) (paChannel pa) 8 (pa + 32 * u)) s

/-- A burst lands: the array's ECC has found errors under it, one that a replay has made late is counted, and its bytes move (R5). -/
def State.burstArrives (s : State) (b : Burst) (corrected : Nat) (bad : List Nat) : State :=
  let s := if b.late then s.chanEvent (paChannel b.pa) 5 b.pa else s
  State.landBurst (s.arrayErrors b.pa corrected bad |>.crossed b.die b.pa) b.sid (b.pa + if b.wr then 1 else 0)

/-- A burst whose moment lies before a time. -/
def Burst.landsBefore (b : Burst) (t : Nat) : Bool := match b.landsAt with | some u => decide (u < t) | none => false

/-- R5, R341: every burst whose moment has gone by has landed. -/
def State.landBursts (s : State) : State :=
  (s.bursts.filter fun b => b.landsBefore (10 * s.time)).foldl (fun s b => s.burstArrives b 0 [])
    { s with bursts := s.bursts.filter fun b => !b.landsBefore (10 * s.time) }

/-- BURST_LAND (R341, R342, R386): the first burst whose moment has come lands, with the errors the array's ECC finds under it; with none
they are found under the fine access that waits first. -/
def execBurstLand (corrected : Nat) (bad : List Nat) (s : State) : Host.Outcome State Fault Refusal :=
  match takeFirst (fun b : Burst => b.landsBefore (10 * s.time + 1)) s.bursts with
  | some (b, rest) => .next (State.burstArrives { s with bursts := rest } b corrected bad)
  | none =>
    match s.fineReqs with
    | [] => .next s
    | e :: _ => .next (s.arrayErrors (e.2 - e.2 % 256) corrected bad)

/-- R342, R387: a channel goes out of service to be retrained (class 6). -/
def State.retrain (s : State) (ch pa : Nat) : State := (s.setChan ch { s.chan ch with retraining := true, fineFails := 0 }).chanEvent ch 6 pa

/-- HBM_LINK_CRC_FAIL (R342, R386): the transfer of the nth served burst fails its CRC, or behind those the nth waiting fine access's: it is
replayed a rotation later, and after the third replay its channel retrains. -/
def execHbmLinkCrcFail (n : Nat) (s : State) : Host.Outcome State Fault Refusal :=
  let served := s.bursts.filter fun b => b.slot.isSome
  match served[n]?, s.fineReqs[n - served.length]? with
  | some b, _ =>
    if b.replays < 3 then
      .next { s with bursts := putBurst (· == b) (fun b => { b with slot := b.slot.map (· + 1024), replays := b.replays + 1, late := true }) s.bursts }
    else
      .next (State.retrain { s with bursts := putBurst (· == b) (fun b => { b with slot := none, replays := 0, late := false }) s.bursts }
        (paChannel b.pa) b.pa)
  | none, some (_, pa) =>
    let ch := paChannel pa
    let c := s.chan ch
    .next (if c.retraining || c.failed then s
      else if c.fineFails < 3 then s.setChan ch { c with fineFails := c.fineFails + 1 } else s.retrain ch pa)
  | none, none => .next s

/-- R387: the copy at the C head of the executing strand fails where a block that it waits for is on a channel that has failed. -/
def State.failOn (s : State) (pa : Nat) : State :=
  match s.st.begunCopy with
  | none => s
  | some (c, op) =>
    match s.begunPlan op with
    | none => s
    | some p =>
      let un := (s.farLines p).filter fun l => l.isOpen s.st.arrived true
      match un.find? fun l => l.pa / 256 == pa / 256 with
      | none => s
      | some l => s.failAmid c p un (fun _ => false) 0x05 l.addr 0

/-- R221, R387: the copies whose bursts a failed channel was to carry fail, those of a gather at every member. -/
def State.failBursts (s : State) (ch : Nat) : State :=
  ((((s.bursts.filter fun b => paChannel b.pa == ch).map fun b => (b.sid, b.pa)).foldr (fun e m => if m.any (·.1 == e.1) then m else e :: m) []).foldl
    (fun s e => s.onStrand e.1 fun t =>
      let sids := match t.st.begunCopy with | some (_, op) => t.gatherOf op | none => []
      sids.foldl (fun s sid => s.onStrand sid fun u => u.failOn e.2) (t.failOn e.2)) s)

/-! ### The links after a warm reset (R401) -/

/-- R401: a link retrains in its turn, where a warm reset brings them back; at any other time it does so by itself. -/
def State.retrainsNow (s : State) (n : Nat) : Bool := s.hub.coming.isEmpty || s.hub.coming.head? == some n

/-- R349, R401: with the last link the lehr refreshes the valid banks. -/
def State.refreshValid (s : State) : State :=
  { s with banks := ((List.range (16 * Config.cells)).map fun k =>
      let b := SMap.get Bank.initial s.banks k
      (k, if b.inv then b else { b with stamp := s.now })).filter fun e => e.2 != Bank.initial }

/-- R401: a link that a warm reset retrains is back, or has failed, and the next one's turn comes. DESIGN CHOICE: the CXL link is last and its
devices are enumerated later (R400), so that its own retraining shows only in UP (log 109). -/
def State.cameBack (s : State) (n : Nat) : State :=
  match s.hub.coming with
  | [] => s
  | l =>
    let l := l.filter (· != n)
    let t := { s with hub := { s.hub with coming := l } }
    if l.isEmpty then t.refreshValid else t

/-- CHANNEL_RETRAIN_DONE (R387): a retrain ends; the third failure in a row fails the channel, and what waits on it is
answered with an error. -/
def execChannelRetrainDone (channel : Nat) (ok : Bool) (s : State) : Host.Outcome State Fault Refusal :=
  let c := s.chan channel
  if !c.retraining || !s.retrainsNow channel then .next s
  else if ok then .next ((s.setChan channel { c with retraining := false, fails := 0 }).cameBack channel)
  else if c.fails + 1 < 3 then .next (s.setChan channel { c with fails := c.fails + 1 })
  else
    let s := s.failBursts channel
    .next ((State.setChan { s with bursts := s.bursts.filter fun b => paChannel b.pa != channel } channel
      { c with retraining := false, fails := 3, failed := true }).cameBack channel)

/-! ### Wear (R354, R355, R330) -/

/-- STRESS_UPDATE (R354): the larger of a core's two stress factors becomes its index. -/
def execStressUpdate (die core : Nat) (bti em : BitVec 16) (s : State) : Host.Outcome State Fault Refusal :=
  let k := coreIndex die core
  .next (s.setCore k { s.coreAt k with stress := max bti.toNat em.toNat })

/-- LIFETIME_RECORD_WRITE (R354, R330): pending retirements that can happen do, and the records are stored. -/
def execLifetimeRecordWrite (s : State) : Host.Outcome State Fault Refusal :=
  .next s.retireDue.storeRecords

/-! ### The die-to-die link (R384) -/

/-- Every task of the package, running or saved, ends with a machine check. -/
def State.killAll (s : State) (cause : Nat) : State :=
  let s := ((s.strands.filter fun t => t.gidx == 0).map (·.sid)).foldl (fun s sid => match s.strand sid with
    | some t => s.machineCheck t cause 0 0
    | none => s) s
  ((s.images.map (·.strands)).flatten.filter fun t => t.gidx == 0).foldl (fun s t => s.machineCheck t cause 0 0) s

/-- D2D_FLIT_CRC_FAIL (R384): a flit fails its CRC; the sixteenth failed replay in a row makes the link retrain. -/
def execD2dFlitCrcFail (s : State) : Host.Outcome State Fault Refusal :=
  if s.hub.d2dDown then .next s
  else if s.hub.d2dStreak + 1 < 16 then .next { s with hub := { s.hub with d2dStreak := s.hub.d2dStreak + 1 } }
  else .next (State.logHub { s with hub := { s.hub with d2dStreak := 0, d2dDown := true } } 16 none 0 0)

/-- D2D_RETRAIN_DONE (R384): the link works again, or retrains again; the third failure in a row kills every task. -/
def execD2dRetrainDone (ok : Bool) (s : State) : Host.Outcome State Fault Refusal :=
  if !s.hub.d2dDown || 3 ≤ s.hub.d2dFails || !s.retrainsNow 256 then .next s
  else if ok then .next (State.cameBack { s with hub := { s.hub with d2dDown := false, d2dFails := 0 } } 256)
  else
    let s := { s with hub := { s.hub with d2dFails := s.hub.d2dFails + 1 } }
    .next (if s.hub.d2dFails < 3 then s else ((s.killAll 7).logHub 17 none 0 0).cameBack 256)

/-! ### Far requests that are never answered (R391, R419) -/

/-- A free bit of this step. -/
def State.freeBit (s : State) (k : Nat) : Bool := (Config.free s.freeCtr k).getLsbD 0

/-- Outstanding loads of a strand that hit fail: their words take fault 0x05, the register is not written. -/
def State.failLoads (s : State) (hit : Nat → Bool) (sid : Nat) : State :=
  match s.strand sid with
  | none => s
  | some t =>
    (t.loads.filter fun l => !l.amo && l.held && hit l.pa).foldl (fun s l => s.onStrand sid fun s =>
      State.answerFault { s with st := { s.st with loads := s.st.loads.erase l, stall := none } } 0x05 l.va) s

/-- The executing strand's begun copy fails, if some of its lines are hit: `late` is one that is known to be unanswered, of the others it
is free whether they were answered, and of what was to be written which units were (R391). A re-fetch that reads one is not contained
(R239). -/
def State.failFarCopy (s : State) (hit : Nat → Bool) (late : Option Nat) : State :=
  match s.st.begunCopy, s.st.rollback with
  | some (c, op), _ =>
    (match s.begunPlan op with
     | none => s
     | some p =>
       let lines := s.farLines p
       let hits := lines.filter fun l => hit l.pa
       match (hits.find? fun l => late == some l.pa).or (hits[(Config.free s.freeCtr (2 ^ 60)).toNat % max 1 hits.length]?) with
       | none => s
       | some l =>
         let un := (((List.range lines.length).zip lines).filter fun e => e.2.isOpen s.st.arrived (e.2 == l || (hit e.2.pa && s.freeBit (2 ^ 40 + e.1)))).map
           Prod.snd
         s.failAmid c p un (fun w => hit w && s.freeBit (2 ^ 41 + w / 8)) 0x05 l.addr 0)
  | none, some (.poison tile byte dword f e .begun) =>
    let u : State := { s with st := s.st.forRefetch tile e }
    (match u.begunPlan (f.copy tile) with
     | none => s
     | some p => if (u.farLines p).any fun l => hit l.pa then s.machineCheck s.st 10 dword byte else s)
  | none, _ => s

/-- R391, R419: a task whose store or atomic has an unknown fate is killed; of a remote one the hub logs class 23. -/
def State.killUnknown (s : State) (sid : Nat) (addr : Word) (pa : Nat) : State :=
  match s.strand sid with
  | none => s
  | some t =>
    let s := if paPackage pa != 255 then s.logHub 23 (some t.part) pa 0 else s
    s.machineCheck t 6 addr (word pa)

/-- A buffered write that had not been sent is refused: its GST fails, or fault 0x05 of its store is pending. -/
def State.refuseWrite (s : State) (e : LineWrite) : State :=
  match s.strand e.sid with
  | none => s
  | some t =>
    let fail (t : Strand) : Strand := match t.flights.find? fun f => f.store && f.cmd.addr == e.addr with
      | some f => t.failFlight f 0x05 (word e.line)
      | none => t.addPend ⟨0x05, 0, 0, e.addr, word e.line, 0, t.seq, ⟨0, 0, 0, 0⟩, false⟩
    State.logViol (s.mod e.sid fail) t.part 0x05 0 t.taskNo (word e.line)

/-- The queued writes of hit lines go. -/
def dropLines (hit : Nat → Bool) (m : SMap (List LineWrite)) : SMap (List LineWrite) :=
  (m.map fun q => (q.1, q.2.filter fun e => !hit e.line)).filter fun q => !q.2.isEmpty

/-- Every request to a hit address fails: loads, begun copies, of which `late` is a line that is unanswered, buffered writes, sent writes and
atomics. Atomics issued before a time were sent; of a later one it is free whether it was (log 43). -/
def State.failFar (s : State) (hit : Nat → Bool) (upTo : Nat) (late : Option Nat) : State :=
  let sids := s.strands.map (·.sid)
  let s := sids.foldl (fun s sid => s.failLoads hit sid) s
  let s := sids.foldl (fun s sid => s.onStrand sid fun t => t.failFarCopy hit late) s
  let unsent := ((s.outbound.map Prod.snd).flatten).filter fun e => hit e.line
  let s := { s with outbound := dropLines hit s.outbound }
  let sent := s.farWrites.filter fun e => hit e.line
  let s := { s with homeq := dropLines hit s.homeq }
  let s := unsent.foldl (fun s e => s.refuseWrite e) s
  let s := ((List.range sent.length).zip sent).foldl (fun (s : State) e =>
    let s := if s.freeBit (4 + e.1) && paPackage e.2.line == 255 then s.arrayWrite e.2.bytes false else s
    s.killUnknown e.2.sid e.2.addr e.2.line) s
  let reqs := s.net.filter fun q => hit q.pa
  let s := { s with net := s.net.filter fun q => !hit q.pa }
  let s := ((List.range reqs.length).zip reqs).foldl (fun (s : State) e =>
    if decide (e.2.issued < upTo) || s.freeBit (2 ^ 20 + 2 * e.1) then
      let s := if s.freeBit (2 ^ 20 + 2 * e.1 + 1) && paPackage e.2.pa == 255 then
        (s.amoDo e.2.op e.2.pa e.2.operand ((e.2.parts.map (·.e)).headD 0)).2 else s
      e.2.parts.foldl (fun s p => s.killUnknown p.sid p.addr e.2.pa) s
    else { s with replies := s.replies ++ [⟨e.2, 0, some 0x05⟩] }) s
  { s with freeCtr := s.freeCtr + 1 }

/-! ### The expander (R388-R392) -/

/-- Whether an address is expander memory. -/
def paIsExpander (pa : Nat) : Bool := paPackage pa == 255 && paSpace pa == 2

/-- The lines of every begun copy, each with the moment it began. -/
def State.copyLines (s : State) : List (Nat × FarLine) :=
  (s.strands.map fun t => match t.begunCopy with
    | some (c, op) =>
      let u := s.seenBy t.sid
      (match u.begunPlan op with
       | some p => (u.farLines p).map fun l => (c.since, l)
       | none => [])
    | none => []).flatten

/-- When each outstanding expander request was issued, and its address: loads, lanes of V accesses, sent writes, atomics, lines of begun
copies. -/
def State.expanderRequests (s : State) : List (Nat × Nat) :=
  (((s.strands.map fun t => ((t.loads.filter fun l => !l.amo).map fun l => (l.issued, l.pa)) ++
      ((t.flights.filter fun f => !f.landed && f.atoms.isNone).map fun f => f.reads.map fun l => (l.issued, l.pa)).flatten).flatten) ++
    (s.farWrites.map fun e => (e.sent, e.line)) ++ (s.net.map fun q => (q.issued, q.pa)) ++
    s.copyLines.map fun e => (e.1, e.2.pa)).filter fun e => paIsExpander e.2

/-- EXPANDER_TIMEOUT (R391): the nth outstanding request of the port reaches its time-out: the port is isolated, and every
request fails. -/
def execExpanderTimeout (n : Nat) (s : State) : Host.Outcome State Fault Refusal :=
  match s.expanderRequests[n]? with
  | none => .next s
  | some (t, pa) =>
    if s.hub.iso || s.time < t + 1000 * s.hub.tmo then .next s
    else
      let s := (s.failFar paIsExpander (t + 1) (some pa)).logHub 18 none pa 0
      let s := { s with hub := { s.hub with iso := true, tmocnt := min (s.hub.tmocnt + 1) (2 ^ 16 - 1) } }
      .next ((((List.range 512).filterMap s.ownerOf).dedup).foldl (fun s p => s.handlerSignal p) s)

/-- The 64-byte lines that outstanding reads of the expander ask for: loads, then lines of begun copies. -/
def State.expanderReads (s : State) : List Nat :=
  ((s.strands.map fun t => (t.loads.filter fun l => !l.amo && paIsExpander l.pa).map fun l => l.pa - l.pa % 64).flatten) ++
  (s.copyLines.filter fun e => !e.2.wr && paIsExpander e.2.pa).map fun e => e.2.pa

/-- EXPANDER_POISON_RESPONSE (R390): the device answers the nth outstanding line with poison: the line is poisoned, and the
response is logged where its bytes are taken. -/
def execExpanderPoisonResponse (n : Nat) (s : State) : Host.Outcome State Fault Refusal :=
  match s.expanderReads[n]? with
  | none => .next s
  | some pa => .next (s.mark pa true)

/-- UNISO (R392): the hub retrains the link and enumerates the devices again; the same devices end the isolation, others are
logged (which device differs is open). DESIGN CHOICE: the SMP's own enumeration after a warm reset (R400) is this event too, with no
request before it (log 109). -/
def execUniso (same : Bool) (s : State) : Host.Outcome State Fault Refusal :=
  if !s.hub.unisoReq && !s.hub.resetIso then .next s
  else if same then .next { s with hub := { s.hub with iso := false, resetIso := false, unisoReq := false, up := true } }
  else .next (State.logHub { s with hub := { s.hub with unisoReq := false }, freeCtr := s.freeCtr + 1 } 14 none 0
    (word ((Config.free s.freeCtr 0).toNat % 8)))

end Sys2Proof.Machine
end

