-- ==== Sys2Proof/Machine/Translate.lean ====
section
/-! DEFINITION. The Waimel portable form (R369-R378): the check of a function record, and its translation into native words
where R373 to R378 settle every word. -/

namespace Sys2Proof.Machine

/-- Bytes [off, off + n) of a file. -/
def fbytes (f : List Byte) (off n : Nat) : List Byte := (f.drop off).take n

/-- A little-endian field of a file. -/
def fnat (f : List Byte) (off n : Nat) : Nat := bytesNat (fbytes f off n)

/-! ### Waimel records (R369, R370) -/

/-- The element size of a stream in half bytes (Table 20.8). -/
def waimelSize (fmt : Nat) : Nat := match fmt with | 0 => 8 | 1 | 2 => 4 | 3 | 4 => 2 | _ => 1

/-- Table 20.8: a malformed stream entry. -/
def waimelStreamBad (r : List Byte) (j : Nat) : Bool :=
  let a := 64 + 32 * j
  let fmt := bitsOf (fnat r a 1) 1 3
  let unit := if fmt == 5 then 1 else waimelSize fmt / 2
  bitsOf (fnat r a 1) 4 4 != 0 || decide (5 < fmt) || fnat r (a + 1) 3 != 0 || fnat r (a + 20) 12 != 0 ||
    [8, 12, 16].any fun k => fnat r (a + k) 4 % unit != 0

/-- Table 20.7: a malformed header, or a record of another length than its counts give. -/
def waimelHeaderBad (r : List Byte) : Bool :=
  let n := fnat r 0 1
  let n0 := fnat r 8 4
  let n1 := fnat r 12 4
  let n2 := fnat r 16 4
  decide (r.length < 64) || n == 0 || decide (16 < n) || decide (8 < fnat r 1 1) || decide (8 < fnat r 2 1) || fnat r 3 1 != 0 ||
    fnat r 4 2 == 0 || decide (1024 < fnat r 4 2) || fnat r 6 2 != 0 || n0 == 0 || n1 == 0 || n2 == 0 || decide (2 ^ 24 < n0 * n1 * n2) ||
    fnat r 20 44 != 0 || r.length != 64 + 32 * n + 4 * fnat r 4 2 || (List.range n).any (waimelStreamBad r)

/-- What the body has done so far: temporaries written, outputs put, and the codes each variable is reduced by. -/
structure WaimelSeen where
  temps : List Nat
  puts : List Nat
  reds : List (Nat × Nat)
deriving DecidableEq, Repr

/-- Whether stream j of a record is an output. -/
def waimelOutput (r : List Byte) (j : Nat) : Bool := fnat r (64 + 32 * j) 1 % 2 == 1

/-- R370: a value may be read: an input, a written temporary, a parameter the header counts. -/
def waimelSource (r : List Byte) (seen : WaimelSeen) (v : Nat) : Bool :=
  if v < 16 then decide (v < fnat r 0 1) && !waimelOutput r v
  else if v < 48 then seen.temps.contains v
  else decide (56 ≤ v) && decide (v - 56 < fnat r 1 1)

/-- Table 20.10: how many sources an op reads, and the types it takes. -/
def waimelOp (op : Nat) : Option (Nat × List Nat) :=
  match op with
  | 0 | 1 | 2 | 4 | 5 => some (2, [0, 1])
  | 3 | 8 => some (3, [0, 1])
  | 6 | 7 => some (1, [0])
  | 9 | 10 | 11 => some (1, [0, 1])
  | 12 | 13 | 14 => some (2, [1])
  | _ => none

/-- R370: one body word; none where the translator refuses it. -/
def waimelWord (r : List Byte) (seen : WaimelSeen) (w : Nat) : Option WaimelSeen :=
  let op := bitsOf w 26 6
  let d := bitsOf w 20 6
  let a := bitsOf w 14 6
  let b := bitsOf w 8 6
  let c := bitsOf w 2 6
  match waimelOp op with
  | none => none
  | some (n, tys) =>
    if !tys.contains (bitsOf w 0 2) || !waimelSource r seen a || (if 2 ≤ n then !waimelSource r seen b else b != 0) ||
        (if n == 3 then !waimelSource r seen c else op != 11 && c != 0) then none
    else if op == 10 then
      if decide (d < 16) && decide (d < fnat r 0 1) && waimelOutput r d && !seen.puts.contains d then some { seen with puts := d :: seen.puts } else none
    else if op == 11 then
      if d < 48 || 56 ≤ d || fnat r 2 1 ≤ d - 48 || 1 < c || seen.reds.any (fun e => e.1 == d && e.2 != c) then none
      else some { seen with reds := (d, c) :: seen.reds }
    else if d < 16 || 48 ≤ d then none
    else some { seen with temps := d :: seen.temps }

/-- R370: the first body word that the translator refuses, or the body's length where an output is never put. -/
def waimelBody (r : List Byte) : Nat → Nat → WaimelSeen → Option Nat
  | i, 0, seen =>
    if (List.range (fnat r 0 1)).any fun j => waimelOutput r j && !seen.puts.contains j then some i else none
  | i, n + 1, seen =>
    match waimelWord r seen (fnat r (64 + 32 * fnat r 0 1 + 4 * i) 4) with
    | none => some i
    | some seen => waimelBody r (i + 1) n seen

/-- R370: the body word under which a record is refused. -/
def waimelErr (r : List Byte) : Option Nat :=
  if waimelHeaderBad r then some 0 else waimelBody r 0 (fnat r 4 2) ⟨[], [], []⟩

/-! ### The body as the translator reads it -/

/-- A body word by its fields (R370). -/
structure WWord where
  op : Nat
  d : Nat
  a : Nat
  b : Nat
  c : Nat
  ty : Nat
deriving DecidableEq, Repr

/-- What the translator knows of a record: the memory format of each stream, the counts of streams, parameters and reductions, n0, and the
body. -/
structure WRec where
  fmts : List Nat
  streams : Nat
  params : Nat
  reds : Nat
  n : Nat
  body : List WWord
deriving DecidableEq, Repr

/-- The record in the translator's terms. -/
def waimelRec (r : List Byte) : WRec :=
  let k := fnat r 0 1
  { fmts := (List.range k).map fun j => bitsOf (fnat r (64 + 32 * j) 1) 1 3, streams := k, params := fnat r 1 1, reds := fnat r 2 1,
    n := fnat r 8 4,
    body := (List.range (fnat r 4 2)).map fun i =>
      let w := fnat r (64 + 32 * k + 4 * i) 4
      ⟨bitsOf w 26 6, bitsOf w 20 6, bitsOf w 14 6, bitsOf w 8 6, bitsOf w 2 6, bitsOf w 0 2⟩ }

/-- The values a body word reads, in field order. -/
def WWord.sources (w : WWord) : List Nat :=
  match waimelOp w.op with
  | some (3, _) => [w.a, w.b, w.c]
  | some (2, _) => [w.a, w.b]
  | _ => [w.a]

/-- Whether a value name is a temporary, a parameter, a stream. -/
def isTemp (v : Nat) : Bool := decide (16 ≤ v) && decide (v < 48)
def isParam (v : Nat) : Bool := decide (56 ≤ v)
def isStream (v : Nat) : Bool := decide (v < 16)

/-- The body words that read a value. -/
def WRec.readers (r : WRec) (v : Nat) : List Nat :=
  (List.range r.body.length).filter fun i => match r.body[i]? with
    | some w => w.sources.contains v
    | none => false

/-- How a reduction variable is reduced: its code and type, where all its words agree. -/
def WRec.reduction (r : WRec) (j : Nat) : Option (Nat × Nat) :=
  match r.body.filter fun w => w.op == 11 && w.d == 48 + j with
  | [] => none
  | w :: t => if t.all fun x => x.ty == w.ty then some (w.c, w.ty) else none

/-- The memory format and the element size in bytes of a stream. -/
def WRec.fmt (r : WRec) (j : Nat) : Nat := r.fmts.getD j 0
def WRec.elem (r : WRec) (j : Nat) : Nat := waimelSize (r.fmt j) / 2

/-- R375: stream j is an input that is bindable at U. DESIGN CHOICE: a record does not say where a base lies; an input of cell stride 0 is taken
to lie in space 14, as those of R379 do, and one with a cell stride, which means nothing there, is staged (log 111). -/
def waimelBindable (r : List Byte) (k : WRec) (u j : Nat) : Bool :=
  let a := 64 + 32 * j
  !waimelOutput r j && k.fmt j != 5 && fnat r (a + 4) 4 == 0 && fnat r (a + 8) 4 == k.elem j && k.n * k.elem j % 64 == 0 &&
    16 * k.elem j * u % 64 == 0

/-- R373 step 2 and R375: U suits a record. -/
def waimelFits (r : List Byte) (u : Nat) : Bool :=
  let k := waimelRec r
  decide (16 * u ≤ k.n) && decide (u * (k.reds + 1) ≤ 12) && decide (((List.range k.streams).filter (waimelBindable r k u)).length * u ≤ 4)

/-- The translator's U. -/
def waimelGroup (r : List Byte) : Option Nat := [4, 2, 1].find? (waimelFits r)

/-- The sources of a body word that its native form can name as broadcast sources: the last of an op that can broadcast. -/
def WWord.castSources (w : WWord) : List Nat :=
  match w.op with
  | 6 | 7 | 9 | 10 => []
  | 8 => [w.b, w.c]
  | 11 => [w.a]
  | _ => [w.b]

/-- Its other sources. -/
def WWord.plainSources (w : WWord) : List Nat :=
  match w.op with
  | 3 => [w.a, w.c]
  | 11 => []
  | _ => [w.a]

/-- Step 4 of R373: the parameters held in s18-s23, in their order; there are six such registers. -/
def WRec.casts (r : WRec) : List Nat :=
  (((List.range r.params).map (56 + ·)).filter fun v => r.body.any fun w => w.castSources.contains v).take 6

/-- Step 4 of R373: the parameters copied into register groups: those read elsewhere, and those for which no register is left. -/
def WRec.copies (r : WRec) : List Nat :=
  ((List.range r.params).map (56 + ·)).filter fun v =>
    (r.body.any fun w => w.plainSources.contains v) || (!r.casts.contains v && r.body.any fun w => w.castSources.contains v)

/-- How many native words of a body word read a value. -/
def WWord.readsOf (w : WWord) (v : Nat) : Nat :=
  match w.op with
  | 3 | 8 => b2n (w.a == v || w.b == v) + b2n (w.c == v)
  | _ => b2n (w.sources.contains v)

/-- Step 1 of R373: an input that more than one word reads is copied into a register group. -/
def WRec.copied (r : WRec) (v : Nat) : Bool := isStream v && decide (1 < (r.body.map fun w => w.readsOf v).sum)

/-- Whether the rules settle every word of a translation at U: every stream an input that is bound, whole strips within the counts of
a QBIND, and every reduction variable reduced. -/
def waimelSettled (r : List Byte) (u : Nat) : Bool :=
  let k := waimelRec r
  fnat r 12 4 == 1 && fnat r 16 4 == 1 && k.n % (16 * u) == 0 && decide (k.n / (16 * u) < 2 ^ 16) &&
    (List.range k.streams).all (waimelBindable r k u) && (List.range k.reds).all fun j => (k.reduction j).isSome

/-! ### V words as the translator emits them -/

/-- An emitted V word: the scalar words ahead of it, its words with LB 0; the REP steps it stands under; its register numbers, each
with its step; its bound; a broadcast form or an always interlocked word has no choice of latency. -/
structure TWord where
  pre : List W32 := []
  words : List W32
  reps : Option (BitVec 2 × BitVec 2 × BitVec 2)
  writes : List (Nat × Nat)
  reads : List (Nat × Nat)
  bound : Nat
  bcast : Bool
  held : Bool
deriving DecidableEq, Repr

/-- A source of a native op: a register and its step, or a broadcast source. -/
inductive TSrc where
  | reg (n step : Nat)
  | cast (s : BSrc)
deriving DecidableEq, Repr

/-- Table 5.1 for the ops that translations use. -/
def nativeBound (vop : Nat) : Nat :=
  if vop == 48 || vop == 49 then 18
  else if vop == 55 || vop == 56 then 8
  else if vop == 51 || (2 ≤ vop && vop ≤ 5) || (26 ≤ vop && vop ≤ 30) then 4
  else 2

/-- The vop of a body word (Table 20.10); WCLAMP is its lower bound's op, and WRED its fold's. -/
def WWord.vop (w : WWord) : Nat :=
  let fp := w.ty == 0
  match w.op with
  | 0 => if fp then 26 else 0
  | 1 => if fp then 27 else 1
  | 2 => if fp then 28 else 2
  | 3 => if fp then 29 else 5
  | 4 => if fp then 31 else 10
  | 5 | 8 => if fp then 32 else 11
  | 6 => 33
  | 7 => 34
  | 9 => 16
  | 12 => 15
  | 13 => 16
  | 14 => 17
  | _ => if w.c == 0 then (if fp then 26 else 0) else (if fp then 32 else 11)

/-- The TY field of a type. -/
def tyField (ty : Nat) : BitVec 2 := if ty == 0 then 0 else 2

/-- A native op of two sources under a REP of U (R376); `accum` where it also reads its destination. -/
def emit2 (vop : Nat) (ty : BitVec 2) (d : Nat) (a : Nat × Nat) (b : TSrc) (accum : Bool) : TWord :=
  let r4 (n : Nat) : BitVec 4 := BitVec.ofNat 4 n
  let old := if accum then [(d, 1)] else []
  match b with
  | .reg n step =>
    { words := [wVec (BitVec.ofNat 6 vop) 0 0 (r4 d) (r4 a.1) (r4 n) 0 ty], reps := some (1, BitVec.ofNat 2 a.2, BitVec.ofNat 2 step),
      writes := [(d, 1)], reads := old ++ [a, (n, step)], bound := nativeBound vop, bcast := false, held := false }
  | .cast s =>
    { words := wBcast (BitVec.ofNat 6 vop) 0 0 (r4 d) (r4 a.1) s, reps := some (1, BitVec.ofNat 2 a.2, 0), writes := [(d, 1)],
      reads := old ++ [a], bound := nativeBound vop, bcast := true, held := false }

/-- A native op of one source under a REP of U. -/
def emit1 (vop : Nat) (ty : BitVec 2) (d : Nat) (a : Nat × Nat) : TWord :=
  { words := [wVec (BitVec.ofNat 6 vop) 0 0 (BitVec.ofNat 4 d) (BitVec.ofNat 4 a.1) 0 0 ty], reps := some (1, BitVec.ofNat 2 a.2, 0),
    writes := [(d, 1)], reads := [a], bound := nativeBound vop, bcast := false, held := false }

/-- A single native word, outside a REP. -/
def emitOne (vop d a b : Nat) (ty : BitVec 2) (writes reads : List Nat) : TWord :=
  { words := [wVec (BitVec.ofNat 6 vop) 0 0 (BitVec.ofNat 4 d) (BitVec.ofNat 4 a) (BitVec.ofNat 4 b) 0 ty], reps := none,
    writes := writes.map fun x => (x, 0), reads := reads.map fun x => (x, 0), bound := nativeBound vop, bcast := false, held := false }

/-- VNOP. -/
def emitNop : TWord := emitOne 63 0 0 0 0 [] []

/-- The base register of 1 KiB block m of scratch, as the field of a TLD or TST names it: s16, then s17, then s23 downwards. DESIGN CHOICE: the
manual names none beyond the sixteen offsets of one base (log 111). -/
def scratchBase (m : Nat) : Nat := if m ≤ 1 then m else 9 - m

/-- R377: the reload, and the write, of a register of a group at an offset of scratch, in units of 64 bytes. -/
def emitTld (reg off : Nat) : TWord := { emitOne 55 reg (scratchBase (off / 16)) (off % 16) 0 [reg] [] with held := true }
def emitTst (reg off : Nat) : TWord := emitOne 56 reg (scratchBase (off / 16)) (off % 16) 0 [] [reg]

/-! ### Groups and spills (R377) -/

/-- The groups after the reductions', each with the value it holds, a temporary, a copied input or a copied parameter; the slot of each
spilled value; spills so far; the words emitted, latest first. -/
structure TAlloc where
  held : List (Option Nat)
  slots : List (Nat × Nat)
  spills : Nat
  out : List TWord
deriving DecidableEq, Repr

/-- The next word after i that reads a value. -/
def WRec.nextRead (r : WRec) (i t : Nat) : Nat := ((r.readers t).find? fun j => decide (i < j)).getD 0

/-- R377: the temporary to spill at word i: not read by it, next read furthest ahead, the lower number of equals. -/
def WRec.victim (r : WRec) (i : Nat) (held : List (Option Nat)) : Option Nat :=
  let here := match r.body[i]? with | some w => w.sources | none => []
  ((List.range 48).filter fun t => held.contains (some t) && !here.contains t).foldl (fun best t => match best with
    | none => some t
    | some b => if r.nextRead i b < r.nextRead i t then some t else some b) none

/-- The first register of group g, after the reductions' groups. -/
def WRec.reg (r : WRec) (u g : Nat) : Nat := u * (r.reds + g)

/-- Spill the victim at word i. -/
def WRec.spill (r : WRec) (u i : Nat) (s : TAlloc) : Option TAlloc :=
  match r.victim i s.held with
  | none => none
  | some t =>
    let g := s.held.idxOf (some t)
    if 16 * (8 - r.casts.length) < u * (s.spills + 1) then none
    else some { s with held := s.held.set g none, slots := (t, s.spills) :: s.slots, spills := s.spills + 1,
                       out := ((List.range u).map fun k => emitTst (r.reg u g + k) (u * s.spills + k)).reverse ++ s.out }

/-- Give a temporary the lowest free group at word i, spilling for it where none is free; its group. -/
def WRec.place (r : WRec) (u i t : Nat) (s : TAlloc) : Option (TAlloc × Nat) :=
  let take (s : TAlloc) : Option (TAlloc × Nat) :=
    let g := s.held.idxOf none
    if g < s.held.length then some ({ s with held := s.held.set g (some t) }, g) else none
  match take s with
  | some x => some x
  | none => (r.spill u i s).bind take

/-- R377: every spilled source of word i is reloaded. -/
def WRec.reload (r : WRec) (u i : Nat) : List Nat → TAlloc → Option TAlloc
  | [], s => some s
  | v :: vs, s =>
    match s.slots.lookup v with
    | none => r.reload u i vs s
    | some n =>
      match r.place u i v s with
      | none => none
      | some (s, g) =>
        r.reload u i vs { s with slots := s.slots.filter (·.1 != v),
                                 out := ((List.range u).map fun k => emitTld (r.reg u g + k) (u * n + k)).reverse ++ s.out }

/-- The register a value is read from (R376, stepped by 1): a stream's first sub-stream, or the value's group. -/
def WRec.regOf (r : WRec) (u : Nat) (s : TAlloc) (v : Nat) : Nat × Nat :=
  if s.held.contains (some v) then (r.reg u (s.held.idxOf (some v)), 1) else (12 + u * v, 1)

/-- A last source: a parameter's scalar register as a broadcast source, else its register. -/
def WRec.srcOf (r : WRec) (u : Nat) (s : TAlloc) (v : Nat) : TSrc :=
  if r.casts.contains v then .cast (.scalar (BitVec.ofNat 4 (2 + r.casts.idxOf v))) else .reg (r.regOf u s v).1 1

/-- The native words of body word w into group d (Table 20.10); where a WFMA's d is its c they share their group. -/
def WRec.native (r : WRec) (u : Nat) (s : TAlloc) (w : WWord) (d : Nat) : List TWord :=
  let ty := tyField w.ty
  let a := r.regOf u s w.a
  match w.op with
  | 3 => (if w.d == w.c then [] else [emit2 16 2 d (r.regOf u s w.c) (.reg (r.regOf u s w.c).1 1) false]) ++
      [emit2 w.vop ty d a (r.srcOf u s w.b) true]
  | 6 | 7 => [emit1 w.vop ty d a]
  | 8 => [emit2 w.vop ty d a (r.srcOf u s w.b) false, emit2 (w.vop - 1) ty d (d, 1) (r.srcOf u s w.c) false]
  | 9 => [emit2 w.vop 2 d a (.reg a.1 1) false]
  | 11 => [emit2 w.vop ty d (d, 1) (r.srcOf u s w.a) false]
  | _ => [emit2 w.vop ty d a (r.srcOf u s w.b) false]

/-- Step 1 of R373: the inputs of word i that are to be copied and of which no copy stands yet. -/
def WRec.load (r : WRec) (u i : Nat) : List Nat → TAlloc → Option TAlloc
  | [], s => some s
  | v :: vs, s =>
    if !r.copied v || s.held.contains (some v) then r.load u i vs s
    else
      match r.place u i v s with
      | none => none
      | some (s, g) => r.load u i vs { s with out := emit2 16 2 (r.reg u g) (12 + u * v, 1) (.reg (12 + u * v) 1) false :: s.out }

/-- A word of two native words would lose a source that its own destination holds: it has no form that the rules settle. -/
def WWord.clobbers (w : WWord) : Bool :=
  match w.op with
  | 3 => w.d != w.c && (w.d == w.a || w.d == w.b)
  | 8 => w.d == w.c
  | _ => false

/-- R377: the group of a word's destination: a temporary written before keeps the group it holds (step 2 of R373: each occupies one), else the
lowest free one; what is spilled of it is dead. -/
def WRec.target (r : WRec) (u i d : Nat) (s : TAlloc) : Option (TAlloc × Nat) :=
  if s.held.contains (some d) then some (s, s.held.idxOf (some d)) else r.place u i d { s with slots := s.slots.filter (·.1 != d) }

/-- R377: body word i. A value goes after the word that reads it last. -/
def WRec.bodyWord (r : WRec) (u i : Nat) (w : WWord) (s : TAlloc) : Option TAlloc :=
  match (r.reload u i w.sources s).bind (r.load u i w.sources.dedup) with
  | none => none
  | some s =>
    let free (s : TAlloc) : TAlloc := { s with held := s.held.map fun h => match h with
      | some t => if r.nextRead i t == 0 && !isParam t then none else some t
      | none => none }
    if w.op == 11 then some (free { s with out := (r.native u s w (u * (w.d - 48))).reverse ++ s.out })
    else if w.op == 10 || (w.clobbers && s.held.contains (some w.d)) then none
    else
      match r.target u i w.d s with
      | none => none
      | some (s, g) => some (free { s with out := (r.native u s w (r.reg u g)).reverse ++ s.out })

/-- The body from word i on. -/
def WRec.bodyFrom (r : WRec) (u : Nat) : Nat → List WWord → TAlloc → Option TAlloc
  | _, [], s => some s
  | i, w :: t, s => (r.bodyWord u i w s).bind (r.bodyFrom u (i + 1) t)

/-! ### Chaining (R378, step 5 of R373) -/

/-- One issue: the registers it writes and reads, and the bound of a producer without a latency field (0 for another). -/
structure TIssue where
  writes : List Nat
  reads : List Nat
  cast : Nat
deriving DecidableEq, Repr

/-- The issues of an emitted word. -/
def TWord.issues (u : Nat) (w : TWord) : List TIssue :=
  let n := if w.reps.isSome then u else 1
  (List.range n).map fun k => ⟨w.writes.map fun e => e.1 + k * e.2, w.reads.map fun e => e.1 + k * e.2, if w.bcast then w.bound else 0⟩

/-- How many VNOPs an issue needs that follows `past` (latest first) after k further issues. -/
def padOf (past : List TIssue) (k : Nat) (i : TIssue) : Nat :=
  (i.reads.map fun r => match past.findIdx? fun p => p.writes.contains r with
    | none => 0
    | some j => match past[j]? with
      | some p => p.cast - (j + 1 + k)
      | none => 0).foldl max 0

/-- R378: VNOPs before the consumers of broadcast producers. -/
def padWords (u : Nat) : List TIssue → List TWord → List TWord
  | _, [] => []
  | past, w :: t =>
    let is := w.issues u
    let pad := ((List.range is.length).map fun k => match is[k]? with
      | some i => padOf past k i
      | none => 0).foldl max 0
    List.replicate pad emitNop ++ w :: padWords u (is.reverse ++ List.replicate pad ⟨[], [], 0⟩ ++ past) t

/-- Whether a register's first reader among the issues that follow, if any before it is written again, comes at bound or later. -/
def readLate (bound r : Nat) : Nat → List TIssue → Bool
  | _, [] => true
  | k, i :: t => if i.reads.contains r then decide (bound ≤ k) else if i.writes.contains r then true else readLate bound r (k + 1) t

/-- Step 5 of R373: every consumer of a word issues at least its bound after it. -/
def TWord.chained (u : Nat) (w : TWord) (after : List TIssue) : Bool :=
  let is := w.issues u
  (List.range is.length).all fun k => match is[k]? with
    | some i => i.writes.all fun r => readLate w.bound r 1 (is.drop (k + 1) ++ after)
    | none => true

/-- The latency code of an emitted word: interlocked where it is always so, or where a consumer comes too early. -/
def TWord.latency (u : Nat) (w : TWord) (afters : List (List TIssue)) : TWord :=
  if w.bcast then w
  else if w.held || !(afters.all fun a => w.chained u a) then { w with words := w.words.map fun x => x ||| 12 }
  else w

/-- The words of a list, each with what follows it: the rest of the list and one of the continuations. -/
def chainWords (u : Nat) (conts : List (List TIssue)) : List TWord → List TWord
  | [] => []
  | w :: t => w.latency u (conts.map fun c => (t.map (·.issues u)).flatten ++ c) :: chainWords u conts t

/-- An emitted word with its REP, behind its scalar words. -/
def TWord.lay (u : Nat) (w : TWord) : List W32 :=
  w.pre ++ match w.reps with
  | none => w.words
  | some (a, b, c) => encode (.rep c b a (BitVec.ofNat 6 (u - 1))) ++ w.words

/-! ### The function (R372-R378) -/

/-- A group zeroed by an interlocked VXOR. -/
def emitZero (d : Nat) : TWord := { emit2 17 2 d (d, 1) (.reg d 1) false with held := true }

/-- The first group is one of zeros. -/
def WRec.zeroFirst (r : WRec) : Bool := (r.reduction 0).map (·.1) == some 0

/-- The reductions' initial values: zero by an interlocked VXOR, and the least value of a maximum by VOR with a literal (R371) and
the zeros of the first group. DESIGN CHOICE: where that one holds no zeros, a maximum's group is zeroed first itself (log 111). -/
def WRec.initial (r : WRec) (u : Nat) : List TWord :=
  ((List.range r.reds).map fun j => match r.reduction j with
    | some (1, ty) =>
      let least : TSrc := .cast (.literal (if ty == 0 then 0xFF800000 else 0x80000000))
      if r.zeroFirst then [emit2 16 2 (u * j) (0, 0) least false] else [emitZero (u * j), emit2 16 2 (u * j) (u * j, 1) least false]
    | _ => [emitZero (u * j)]).flatten

/-- Step 4 of R373: the parameters' copies, each group zeroed and then filled from a scalar register. DESIGN CHOICE: the groups follow the
reductions', and s16 carries the value there (log 111). -/
def WRec.copyWords (r : WRec) (u : Nat) : List TWord :=
  ((List.range r.copies.length).map fun g =>
    let d := r.reg u g
    let v := r.copies.getD g 56
    [emitZero d, { emit2 16 2 d (d, 1) (.cast (.scalar 0)) false with
      pre := encode (.ld 16 2 3 (BitVec.ofNat 11 (8 * (r.streams + (v - 56))))) }]).flatten

/-- Step 6 of R373: each group combined, reduced over the grid, and its lane 0 sent to the mailbox. -/
def WRec.combine (r : WRec) (u : Nat) : List TWord :=
  ((List.range r.reds).map fun j => match r.reduction j with
    | some (c, ty) => (List.range (u - 1)).map fun k =>
        let vop := (WWord.vop ⟨11, 0, 0, 0, c, ty⟩)
        emitOne vop (u * j) (u * j) (u * j + k + 1) (tyField ty) [u * j] [u * j, u * j + k + 1]
    | none => []).flatten ++
  (List.range r.reds).map fun j => match r.reduction j with
    | some (c, ty) => emitOne (48 + c) (u * j) (u * j) 1 (if ty == 0 then 1 else 0) [u * j] [u * j]
    | none => emitNop

/-- The results: VXTR of lane 0 and SRD of MB. -/
def WRec.extracts (r : WRec) (u : Nat) : List TWord :=
  (List.range r.reds).map fun j => emitOne 51 0 (u * j) 0 0 [] [u * j]

/-- The binding of the streams (R375): pattern and transform are set where they change. -/
def WRec.bindings (r : WRec) (u : Nat) : List Instr :=
  let strips := r.n / (16 * u)
  ((List.range r.streams).map fun j =>
    let control : Nat := if r.fmt j == 0 then 0 else 3 + 16 * (2 * r.fmt j - 1)
    let first : List Instr := [.ld 16 2 3 (BitVec.ofNat 11 (8 * j))] ++
      (if j == 0 || r.fmt j != r.fmt (j - 1) then [.litn 17 (BitVec.ofNat 32 (strips + 2 ^ 16)),
        .lith 17 (BitVec.ofNat 32 (16 * r.elem j * u / 64)), .addi 18 0 (BitVec.ofNat 14 control)] else [])
    first ++ ((List.range u).map fun k =>
      (if k == 0 then [] else [Instr.addi 16 16 (BitVec.ofNat 14 (16 * r.elem j))]) ++
        [Instr.qbind 0 0 (BitVec.ofNat 2 (u * j + k)) 0 1 2]).flatten).flatten

/-- The bases of the scratch blocks beyond the first that spills reach. -/
def WRec.bases (u spills : Nat) : List Instr :=
  (List.range ((u * spills + 15) / 16 - 1)).map fun k => .addi (BitVec.ofNat 5 (16 + scratchBase (k + 1))) 1 (BitVec.ofNat 14 (1024 * (k + 1)))

/-- The groups as the body finds them: the parameters' copies, then free ones. -/
def WRec.start (r : WRec) (u : Nat) : TAlloc :=
  ⟨r.copies.map some ++ List.replicate (12 / u - r.reds - r.copies.length) none, [], 0, []⟩

/-- How a translation by the rules ends: with words, refused for want of spill slots, or with words that the rules do not settle. -/
inductive Translation where
  | words (ws : List W32)
  | refused
  | open_
deriving DecidableEq, Repr

/-- The translation at U of a record whose words the rules settle. DESIGN CHOICE: 2^13 strips and more are counted by LITN (log 111). -/
def WRec.translate (r : WRec) (u : Nat) : Translation :=
  match (if r.reds + r.copies.length < 12 / u then r.bodyFrom u 0 r.body (r.start u) else none) with
  | none => .open_
  | some s =>
    let init := r.initial u ++ r.copyWords u
    let all := padWords u [] (init ++ s.out.reverse)
    let body := all.drop (padWords u [] init).length
    let ep := r.combine u ++ r.extracts u
    let issues (l : List TWord) : List TIssue := (l.map (·.issues u)).flatten
    let strips := r.n / (16 * u)
    let again := if strips == 1 then [issues ep] else [issues body ++ issues ep, issues ep]
    let lay (l : List TWord) : List W32 := (l.map (·.lay u)).flatten
    let loop := lay (chainWords u again body)
    let tail := chainWords u [[]] ep
    let results := ((tail.drop (r.combine u).length).zip (List.range r.reds)).map fun e =>
      e.1.words ++ encode (.srd (BitVec.ofNat 5 (1 + e.2)) 5)
    let base : List Instr := if s.spills == 0 then [] else [.addi 16 1 0]
    if 64 < s.spills then .refused
    else if 255 < loop.length then .open_
    else .words (
      (([Instr.enter 2] ++ r.bindings u ++ (if r.copies.isEmpty then base else []) ++
        (List.range r.casts.length).map fun i => Instr.ld (BitVec.ofNat 5 (18 + i)) 2 3 (BitVec.ofNat 11 (8 * (r.streams + (r.casts.getD i 56 - 56))))).map encode).flatten ++
      lay (chainWords u [issues body ++ issues ep] (all.take (padWords u [] init).length)) ++
      (((if r.copies.isEmpty then [] else base) ++ WRec.bases u s.spills ++
        [if strips < 2 ^ 13 then Instr.addi 3 0 (BitVec.ofNat 14 strips) else Instr.litn 3 (BitVec.ofNat 32 strips)]).map encode).flatten ++
      encode (.loopb 3 0 0 0 (BitVec.ofNat 8 loop.length)) ++ loop ++
      lay (tail.take (r.combine u).length) ++ results.flatten ++
      ((List.range (r.streams * u)).map fun q => encode (.qunb 0 0 (BitVec.ofNat 2 q))).flatten ++
      encode (.qfence 0 0 5 0) ++ encode .ret)

/-! ### What every translation keeps (R366, R372) -/

/-- The instructions of a list of words, where every word is one or belongs to one. -/
def wordInstrs : List W32 → Option (List (W32 × Instr))
  | [] => some []
  | [w] => if isOwner w then none else (match decode w 0 with | .ok i => some [(w, i)] | .error _ => none)
  | w :: l :: t =>
    if isOwner w then (match decode w l with | .ok i => (wordInstrs t).map ((w, i) :: ·) | .error _ => none)
    else (match decode w 0 with | .ok i => (wordInstrs (l :: t)).map ((w, i) :: ·) | .error _ => none)

/-- R366, R372: a V word that a translation may hold: no bank entry as its source, no token but from C and to C, no access but to towers, and
a destination among v0-v11 or p1. -/
def vWordKeeps (w : W32) : Bool :=
  let op := (fld w 16 6).toNat
  !(fld w 0 2 == 3 && (fld w 2 6).toNat < 32) && fld w 26 4 &&& 10 == 0 && !([59, 60, 61, 62].contains op) &&
    (if [24, 25, 39, 52, 53].contains op then fld w 12 4 == 1 else decide ((fld w 12 4).toNat < 12))

/-- A scalar word that a translation may hold: it computes, loads, reads MB, controls the loop, fences, or moves a counter between V and C, and
its register is none of the globals. -/
def sWordKeeps (w : W32) (i : Instr) : Bool :=
  match i with
  | .rep _ _ _ _ | .loopb _ _ _ _ _ | .loops _ _ | .nop | .beq _ _ _ | .bne _ _ _ | .blt _ _ _ | .bge _ _ _ | .bltn _ _ _ | .bgen _ _ _ => true
  | .addi d _ _ | .shli d _ _ | .shri d _ _ | .srai d _ _ | .slti d _ _ | .sltni d _ _ | .ld d _ _ _ | .lit d _ | .litn d _ | .lith d _ =>
    decide (d.toNat < 24)
  | .srd d i => i == 5 && decide (d.toNat < 24)
  | .tkp c _ | .tkw c _ => c == 2 || c == 5
  | .fence _ _ => true
  | _ => fld w 24 6 == 0 && decide ((fld w 19 5).toNat < 24)

/-- R366, R372: a word that a translation may hold between its first word and its QFENCE: no D word, and of the copy words those on
tl56-tl63 and the streams, with no token but from V and to V. -/
def wordKeeps (e : W32 × Instr) : Bool :=
  match (fld e.1 30 2).toNat with
  | 0 => sWordKeeps e.1 e.2
  | 1 => vWordKeeps e.1
  | 2 => false
  | _ =>
    fld e.1 26 4 &&& 5 == 0 && fld e.1 25 1 == 0 && match e.2 with
    | .tdef _ _ l _ | .trel _ _ l => decide (56 ≤ l.toNat)
    | .cpy _ f _ l _ _ _ _ => f.isNone && decide (56 ≤ l.toNat)
    | .qbind _ _ _ _ _ _ | .qunb _ _ _ | .qfence _ _ _ _ => true
    | _ => false

/-- R372: the last word that binds or unbinds a stream unbinds it. -/
def leavesUnbound (l : List (W32 × Instr)) (n : Nat) : Bool :=
  match (l.filterMap fun e => match e.2 with
    | .qbind _ _ q _ _ _ => if q.toNat == n then some true else none
    | .qunb _ _ q => if q.toNat == n then some false else none
    | _ => none).getLast? with
  | some b => !b
  | none => true

/-- R372: the counters between V and C are left as they are found, so each of them is filled by some word where some word empties it. -/
def tokensMeet (l : List (W32 × Instr)) : Bool :=
  let word (c b : Nat) := l.any fun e => (fld e.1 30 2).toNat == c && e.1.getLsbD b
  let move (p : Instr → Bool) := l.any fun e => p e.2
  (word 3 27 || move fun i => match i with | .tkp c _ => c == 5 | _ => false) ==
    (word 1 28 || move fun i => match i with | .tkw c _ => c == 5 | _ => false) &&
  (word 1 26 || move fun i => match i with | .tkp c _ => c == 2 | _ => false) ==
    (word 3 29 || move fun i => match i with | .tkw c _ => c == 2 | _ => false)

/-- R366, R372: what can be seen of any translation in its words: `enter 8` first, a QFENCE with V and C at cell scope before RET at the end,
between them only words that it may hold, no stream left bound, and tokens that meet. -/
def conforms (ws : List W32) : Bool :=
  match wordInstrs ws with
  | none => false
  | some l =>
    let middle := (l.drop 1).take (l.length - 3)
    decide (3 ≤ l.length) && (l.head?.map (·.2)) == some (.enter 2) && ((l.drop (l.length - 2)).map (·.2)) == [.qfence 0 0 5 0, .ret] &&
      middle.all wordKeeps && (List.range 4).all (leavesUnbound middle) && tokensMeet middle

/-- R372: the native words of a record: by R373 to R378 where they settle every word, else the translator's own choice, which keeps
what every translation keeps. -/
def waimelNative (r : List Byte) : Option (List W32) :=
  let own := (Config.translate r).filter conforms
  match waimelGroup r with
  | none => own
  | some u =>
    if waimelSettled r u then
      match (waimelRec r).translate u with
      | .words ws => some ws
      | .refused => none
      | .open_ => own
    else own

end Sys2Proof.Machine
end

