-- ==== Sys2Proof/Machine/Loader.lean ====
section
/-! DEFINITION. The loader (R359-R368, R374): the object file and its checks, literal maps, binding of symbols, the pages of an
object, and unloading. -/

namespace Sys2Proof.Machine

/-! ### The object file (Tables 20.1-20.4) -/

/-- A section-table entry: kind, file offset, size. -/
structure ObjSection where
  kind : Nat
  off : Nat
  size : Nat
deriving DecidableEq, Repr

/-- The sections of a file. -/
def objSections (f : List Byte) : List ObjSection :=
  (List.range (fnat f 6 2)).map fun i => ⟨fnat f (64 + 32 * i) 1, fnat f (72 + 32 * i) 8, fnat f (80 + 32 * i) 8⟩

/-- The section of a kind; an absent one is empty. -/
def objSection (f : List Byte) (kind : Nat) : ObjSection := ((objSections f).find? (·.kind == kind)).getD ⟨kind, 0, 0⟩

/-- The bytes of a section. -/
def ObjSection.bytes (f : List Byte) (c : ObjSection) : List Byte := fbytes f c.off c.size

/-- The offset under which the first check of a list fails. -/
def firstBad (l : List (Bool × Nat)) : Option Nat := (l.find? (·.1)).map (·.2)

/-- Table 20.1. -/
def headerErr (f : List Byte) : Option Nat :=
  firstBad [(decide (f.length < 64), f.length), (fnat f 0 4 != 0x31424F5A, 0), (fnat f 4 2 != 1, 4),
    (fnat f 6 2 == 0 || decide (9 < fnat f 6 2), 6), (fnat f 10 2 != 0 || fnat f 8 1 % 16 != 1, 8), (fnat f 12 4 != 0, 12),
    (fnat f 48 16 != 0, 48)]

/-- The size rules of Table 20.2. -/
def sizeBad (c : ObjSection) : Bool :=
  (c.kind == 1 && c.size % 4 != 0) || (c.kind == 4 && c.size != 1024) || (c.kind == 6 && c.size % 64 != 0) ||
    (c.kind == 8 && c.size % 16 != 0)

/-- Table 20.2 and R359 for entry i. -/
def entryErr (f : List Byte) (i : Nat) : Option Nat :=
  let a := 64 + 32 * i
  let cs := objSections f
  let c := cs.getD i ⟨0, 0, 0⟩
  firstBad [(decide (f.length < a + 32), f.length), (c.kind == 0 || decide (9 < c.kind) || (cs.take i).any (·.kind == c.kind), a),
    (fnat f (a + 1) 7 != 0, a + 1), (c.off % 64 != 0 || decide (c.off < 64 + 32 * cs.length) || decide (f.length < c.off), a + 8),
    (sizeBad c || decide (f.length < c.off + c.size), a + 16), (fnat f (a + 24) 8 != 0, a + 24)]

/-- A symbol entry (Table 20.3); `off` is its own place in the file. -/
structure ObjSymbol where
  off : Nat
  nameOff : Nat
  binding : Nat
  kind : Nat
  sec : Nat
  at' : Nat
  size : Nat
  hash : List Byte
deriving DecidableEq, Repr

/-- The symbol entries of a file. -/
def objSymbols (f : List Byte) : List ObjSymbol :=
  let c := objSection f 6
  (List.range (c.size / 64)).map fun i =>
    let a := c.off + 64 * i
    ⟨a, fnat f a 4, fnat f (a + 4) 1, fnat f (a + 5) 1, fnat f (a + 6) 2, fnat f (a + 8) 8, fnat f (a + 16) 8, fbytes f (a + 24) 32⟩

/-- The zero-terminated string at an offset of the strings section, if it ends there. -/
def objName (f : List Byte) (o : Nat) : Option (List Byte) :=
  let b := ((objSection f 7).bytes f).drop o
  if b.contains 0 then some (b.takeWhile (· != 0)) else none

/-- Whether a symbol of a kind may stand in a section of a kind. -/
def symbolFits (symKind secKind : Nat) : Bool :=
  match symKind with
  | 1 | 3 => secKind == 1
  | 2 => secKind == 2 || secKind == 3 || secKind == 4
  | _ => secKind == 9

/-- The bytes a definition covers. -/
def ObjSymbol.bytes (f : List Byte) (y : ObjSymbol) : List Byte := fbytes f (((objSections f).getD y.sec ⟨0, 0, 0⟩).off + y.at') y.size

/-- Table 20.3 and R360 for one entry. -/
def symbolErr (f : List Byte) (y : ObjSymbol) : Option Nat :=
  let c := (objSections f).getD y.sec ⟨0, 0, 0⟩
  let ref := y.kind == 0
  firstBad [((objName f y.nameOff).isNone, y.off), (decide (2 < y.binding), y.off + 4), (decide (4 < y.kind), y.off + 5),
    ((if ref then y.sec != 0 else !symbolFits y.kind c.kind), y.off + 6),
    (!ref && (decide (c.size < y.at') || (y.kind == 3 && y.at' % 4 != 0)), y.off + 8),
    (!ref && decide (c.size < y.at' + y.size), y.off + 16),
    ((if ref then y.hash.any (· != 0) else Config.shake256 (y.bytes f) != y.hash), y.off + 24), (fnat f (y.off + 56) 8 != 0, y.off + 56)]

/-- The relocation entries of a file (Table 20.4): symbol index and slot offset. -/
def objRelocs (f : List Byte) : List (Nat × Nat) :=
  let c := objSection f 8
  (List.range (c.size / 16)).map fun i => (fnat f (c.off + 16 * i) 4, fnat f (c.off + 16 * i + 8) 8)

/-- Table 20.4 for entry i. -/
def relocErr (f : List Byte) (i : Nat) : Option Nat :=
  let a := (objSection f 8).off + 16 * i
  let r := (objRelocs f).getD i (0, 0)
  firstBad [(decide ((objSymbols f).length ≤ r.1), a), (fnat f (a + 4) 4 != 0, a + 4),
    (r.2 % 8 != 0 || decide ((objSection f 3).size < r.2 + 8), a + 8)]

/-- R359: the file offset of the first rule that the file breaks. -/
def formatErr (f : List Byte) : Option Nat :=
  match headerErr f with
  | some o => some o
  | none =>
    match (List.range (fnat f 6 2)).findSome? (entryErr f) with
    | some o => some o
    | none =>
      match (objSymbols f).findSome? (symbolErr f) with
      | some o => some o
      | none => (List.range (objRelocs f).length).findSome? (relocErr f)

/-- R359: the digest over the file with its own bytes taken as zero. -/
def digestOk (f : List Byte) : Bool := Config.shake256 (f.take 16 ++ List.replicate 32 0 ++ f.drop 48) == fbytes f 16 32

/-- R362: the first class, in the order V, D, C (1, 2, 3), that the device does not implement. -/
def profileErr (f : List Byte) : Option Nat :=
  let w := fnat f 8 4
  [1, 2, 3].find? fun c => decide (Config.profileVersion < bitsOf w (4 * c) 4)

/-! ### Literal maps (R365) -/

/-- The words of a byte list. -/
def wordsOf (b : List Byte) : List W32 := (List.range (b.length / 4)).map fun i => BitVec.ofNat 32 (fnat b (4 * i) 4)

/-- R365 from word i on, over the words left: the marked words, or the offset of the word that breaks the structure. -/
def literalMap : Nat → List W32 → Except Nat (List Nat)
  | _, [] => .ok []
  | i, [w] => if isOwner w then .error (4 * i) else .ok []
  | i, w :: l :: t =>
    if isOwner w then
      if w.toNat / 2 ^ 30 == 3 && l.toNat / 2 ^ 30 != 2 then .error (4 * (i + 1))
      else
        match literalMap (i + 2) t with
        | .ok m => .ok ((i + 1) :: m)
        | .error e => .error e
    else literalMap (i + 1) (l :: t)

/-! ### Binding (R368) -/

/-- A definition that stands for a name in a partition: its handle and symbol. -/
def State.standing (s : State) (part : Nat) (name : List Byte) : Option (Nat × Symbol) :=
  (s.objects.filter (·.part == part)).findSome? fun o => (o.symbols.find? fun y => y.live && y.name == name).map fun y => (o.handle, y)

/-- Table 20.6: what a definition comes to against an earlier one: entered, not entered, or the load rejected. -/
def meets (earlier : Option (Nat × Symbol)) (weak : Bool) (hash : List Byte) : Except Nat Bool :=
  match earlier with
  | none => .ok true
  | some (h, e) =>
    if weak then .ok false
    else if e.weak then .error h
    else if e.hash == hash then .ok false
    else .error h

/-- The symbol of a definition, at no address yet. -/
def ObjSymbol.define (f : List Byte) (y : ObjSymbol) (live : Bool) : Symbol :=
  ⟨(objName f y.nameOff).getD [], y.binding == 2, 0, y.hash, y.kind, live⟩

/-- R368: the definitions in symbol order (an earlier one of the object itself counts); the rejected symbol and the earlier
definition's handle. References stand for nothing. -/
def State.bindDefs (s : State) (part handle : Nat) (f : List Byte) :
    Nat → List ObjSymbol → List (Option Symbol) → Except (Nat × Nat) (List (Option Symbol))
  | _, [], acc => .ok acc
  | i, y :: t, acc =>
    if y.kind == 0 then s.bindDefs part handle f (i + 1) t (acc ++ [none])
    else if y.binding == 0 then s.bindDefs part handle f (i + 1) t (acc ++ [some (y.define f false)])
    else
      let name := (objName f y.nameOff).getD []
      let own := (acc.filterMap id).find? fun e => e.live && e.name == name
      let earlier := match s.standing part name with
        | some e => some e
        | none => own.map fun e => (handle, e)
      match meets earlier (y.binding == 2) y.hash with
      | .error h => .error (i, h)
      | .ok live => s.bindDefs part handle f (i + 1) t (acc ++ [some (y.define f live)])

/-- What a reference names: a definition of the object by its symbol index, or a standing one of another object. -/
inductive Target where
  | own (i : Nat)
  | other (handle va : Nat)
deriving DecidableEq, Repr

/-- R368: the definition that a symbol of the object stands for. -/
def State.targetOf (s : State) (part : Nat) (f : List Byte) (defs : List (Option Symbol)) (i : Nat) : Option Target :=
  match defs.getD i none with
  | some _ => some (.own i)
  | none =>
    let name := match (objSymbols f)[i]? with
      | some y => (objName f y.nameOff).getD []
      | none => []
    let named (p : Symbol → Bool) : Option Nat := (List.range defs.length).find? fun j => match defs.getD j none with
      | some d => d.name == name && p d
      | none => false
    let isLocal (j : Nat) : Bool := match (objSymbols f)[j]? with | some y => y.binding == 0 | none => false
    match (List.range defs.length).find? fun j => isLocal j && (match defs.getD j none with | some d => d.name == name | none => false) with
    | some j => some (.own j)
    | none =>
      match s.standing part name with
      | some (h, e) => some (.other h e.va)
      | none => (named (·.live)).map .own

/-! ### Waimel functions (R374) -/

/-- R369, R374: the records of a Waimel section from an offset on, one behind the other as their headers give their lengths; what is left
of a section that ends within a record is a record too, which the translator refuses. -/
def waimelWalk (c : List Byte) : Nat → Nat → List (Nat × List Byte)
  | 0, _ => []
  | fuel + 1, o =>
    if c.length ≤ o then []
    else
      let n := 64 + 32 * fnat c o 1 + 4 * fnat c (o + 4) 2
      (o, fbytes c o n) :: waimelWalk c fuel (o + n)

/-- The Waimel functions of a file in the order of their section: offset, symbol index, record. DESIGN CHOICE: of a record that no symbol
names the index is the number of symbols (log 112). -/
def waimelFns (f : List Byte) : List (Nat × Nat × List Byte) :=
  let c := (objSection f 9).bytes f
  (waimelWalk c (c.length / 64 + 1) 0).map fun e => (e.1, (objSymbols f).findIdx fun y => y.kind == 4 && y.at' == e.1, e.2)

/-- R369: the first Waimel symbol that does not cover one whole record. -/
def waimelStray (f : List Byte) : Option Nat :=
  let fns := waimelFns f
  (List.range (objSymbols f).length).find? fun i => match (objSymbols f)[i]? with
    | some y => y.kind == 4 && !fns.any fun e => e.1 == y.at' && e.2.2.length == y.size
    | none => false

/-- R374: the text with the translations behind it, each at a 64-byte boundary, and the word number each begins at; or the
symbol and the body word refused. -/
def translateAll (text : List W32) : List (Nat × Nat × List Byte) → Except (Nat × Nat) (List W32 × List (Nat × Nat))
  | [] => .ok (text, [])
  | (o, i, r) :: t =>
    match waimelErr r with
    | some k => .error (i, k)
    | none =>
      match waimelNative r with
      | none => .error (i, 0)
      | some ws =>
        let start := (text.length + 15) / 16 * 16
        match translateAll (text ++ List.replicate (start - text.length) 0 ++ ws) t with
        | .ok (x, m) => .ok (x, (o, start) :: m)
        | .error e => .error e

/-! ### Pages (R364) -/

/-- The address of the level-3 entry of a page, where the partition's tables reach one. -/
def State.leafSlot (s : State) (part va : Nat) : Option Nat :=
  let e1 := s.homeWord ((s.part part).root + 8 * bitsOf va 42 13)
  let e2 := s.homeWord (leafFrame e1 + 8 * bitsOf va 29 13)
  if wbit e1 0 && tableOk e1 && wbit e2 0 && leafKind e2 == 3 && tableOk e2 then some (leafFrame e2 + 8 * bitsOf va 16 13) else none

/-- A leaf of the loader: kind R, home HBM, G = 0. -/
def loaderLeaf (frame : Nat) (w x : Bool) : Word := word (frame * 2 ^ 16 + 8 + b2n x * 4 + b2n w * 2 + 1)

/-- A section as placed: kind, first page, first frame, pages, bytes. -/
structure Placed where
  kind : Nat
  page : Nat
  frame : Nat
  count : Nat
  bytes : List Byte
deriving DecidableEq, Repr

/-- The pages of a placed section. -/
def Placed.pages (p : Placed) : List (Nat × Nat) := (List.range p.count).map fun i => (p.page + i, p.frame + i)

/-- The frames that loaded objects hold. -/
def State.loadedFrames (s : State) : List Nat :=
  (s.objects.map fun o => o.pages.filterMap fun g => match s.walk o.part (g * 2 ^ 16) with
    | .leaf l _ => some (leafFrame l / 2 ^ 16 % 2 ^ 32)
    | .absent _ => none).flatten

/-- The sections to place (R364): text with its translations, rodata, data, const. -/
def toPlace (f : List Byte) (text : List W32) : List (Nat × List Byte) :=
  ([1, 2, 3, 4].map fun k => (k, if k == 1 then (text.map bytesOfWord).flatten else (objSection f k).bytes f)).filter fun e => !e.2.isEmpty

/-- A page of the partition with an unused entry in its tables. -/
def State.pageUnused (s : State) (part page : Nat) : Bool :=
  decide (page < 2 ^ 39) && (match s.leafSlot part (page * 2 ^ 16) with
    | some a => s.homeWord a == 0
    | none => false)

/-- A frame of HBM that no loaded object holds. -/
def State.frameUnused (s : State) (frame : Nat) : Bool := decide (frame < Config.hbmBytes / 65536) && !s.loadedFrames.contains frame

/-- n places from one on are free and not taken. -/
def runFree (free : Nat → Bool) (taken : List Nat) (n first : Nat) : Bool :=
  (List.range n).all fun i => free (first + i) && !taken.contains (first + i)

/-- Where n places lie: where the loader's own choice is free, else at the first place that is; none when none remains. -/
def firstRun (free : Nat → Bool) (taken : List Nat) (n own bound : Nat) : Option Nat :=
  if runFree free taken n own then some own else (List.range bound).find? (runFree free taken n)

/-- R363 step 7: each section on unused pages of the tables and unused frames of HBM, no two of which coincide; none when no
space remains. -/
def State.placeAll (s : State) (part h : Nat) : List (Nat × List Byte) → List Placed → Option (List Placed)
  | [], ps => some ps
  | (k, b) :: t, ps =>
    let n := (b.length + 65535) / 65536
    let held := (ps.map Placed.pages).flatten
    match firstRun (s.pageUnused part) (held.map (·.1)) n (Config.loaderPage part h k) (2 ^ 39),
        firstRun s.frameUnused (held.map (·.2)) n (Config.loaderFrame part h k) (Config.hbmBytes / 65536) with
    | some g, some r => s.placeAll part h t (ps ++ [⟨k, g, r, n, b⟩])
    | _, _ => none

/-- The bytes of whole HBM frames, padded with zero. -/
def State.layFrames (s : State) (frame count : Nat) (bytes : List Byte) : State :=
  let s := (s.homeq.map (·.1)).foldl (fun s h => s.mergeAll h) s
  let lo := hbmPA (frame * 65536)
  let inside (a : Nat) : Bool := decide (lo ≤ a) && decide (a < lo + count * 65536)
  { s with mem := Memory.putAll (s.mem.filter fun e => !inside e.1) lo bytes, poison := s.poison.filter fun e => !inside e.1,
           rinds := s.rinds.filter fun e => !inside (256 * e.1) }

/-- R363 step 8: a placed section is written, mapped and pinned. -/
def State.mapSection (s : State) (part : Nat) (p : Placed) : State :=
  p.pages.foldl (fun s e => match s.leafSlot part (e.1 * 2 ^ 16) with
    | some a => s.homeSet a (loaderLeaf (hbmPA (e.2 * 65536) / 65536) (p.kind == 3) (p.kind == 1))
    | none => s) (s.layFrames p.frame p.count p.bytes)

/-- The virtual address of a section, if it is placed. -/
def placedVA (ps : List Placed) (kind : Nat) : Nat := match ps.find? (·.kind == kind) with
  | some p => p.page * 65536
  | none => 0

/-- The address of symbol i of the object. -/
def symbolVA (f : List Byte) (ps : List Placed) (starts : List (Nat × Nat)) (i : Nat) : Nat :=
  match (objSymbols f)[i]? with
  | none => 0
  | some y =>
    if y.kind == 4 then placedVA ps 1 + 4 * (starts.lookup y.at').getD 0
    else placedVA ps ((objSections f).getD y.sec ⟨0, 0, 0⟩).kind + y.at'

/-! ### A load (R363) -/

/-- How a load ends: status, details, state. -/
structure LoadEnd where
  status : Nat
  detail : List Nat
  next : State
deriving DecidableEq, Repr

/-- The object as loaded. DESIGN CHOICE: without a const section its CBASE is 0 and its bank zero (R26 says nothing of it; log 73). -/
def objOf (f : List Byte) (part h : Nat) (ps : List Placed) (text : List W32) (lits : List Nat) (defs : List (Option Symbol))
    (starts : List (Nat × Nat)) (binds : List Nat) : CodeObj :=
  let w := fnat f 8 4
  let frame := match ps.find? (·.kind == 1) with
    | some p => p.frame
    | none => 0
  { part := part, handle := h, va := placedVA ps 1, pa := hbmPA (frame * 65536), words := text.length, lits := lits,
    vProf := bitsOf w 4 4, dProf := bitsOf w 8 4, cProf := bitsOf w 12 4, bankVa := placedVA ps 4,
    bank := ((List.range 256).zip (wordsOf ((objSection f 4).bytes f))).foldl (fun m e => SMap.set 0 m e.1 e.2) [],
    symbols := (List.range defs.length).filterMap fun i => (defs.getD i none).map fun d => { d with va := symbolVA f ps starts i },
    binds := binds, pages := ((ps.map Placed.pages).flatten).map (·.1) }

/-- The address a target names. -/
def Target.va (f : List Byte) (ps : List Placed) (starts : List (Nat × Nat)) : Target → Nat
  | .own i => symbolVA f ps starts i
  | .other _ va => va

/-- R360: the relocation slots are written. -/
def State.writeSlots (s : State) (f : List Byte) (ps : List Placed) (starts : List (Nat × Nat)) (ts : List (Nat × Target)) : State :=
  let frame := match ps.find? (·.kind == 3) with
    | some p => p.frame
    | none => 0
  ts.foldl (fun s e => s.homeSet (hbmPA (frame * 65536) + e.1) (word (15 * 2 ^ 60 + e.2.va f ps starts))) s

/-- R363, steps 7 and 8. -/
def State.install (s : State) (part : Nat) (f : List Byte) (text : List W32) (lits : List Nat) (defs : List (Option Symbol))
    (starts : List (Nat × Nat)) (ts : List (Nat × Target)) : LoadEnd :=
  let p := s.part part
  let h := p.nextHandle
  match s.placeAll part h (toPlace f text) [] with
  | none => ⟨8, [], s⟩
  | some ps =>
    let binds := (ts.filterMap fun e => match e.2 with | .other k _ => some k | .own _ => none).dedup
    let t := ps.foldl (fun s p => s.mapSection part p) s
    let t := t.writeSlots f ps starts ts
    let t := t.setPart part { p with nextHandle := if h + 1 < 2 ^ 32 then h + 1 else 1 }
    ⟨0, [h], { t with objects := t.objects ++ [objOf f part h ps text lits defs starts binds] }⟩

/-- R363, steps 5 to 8, of a file whose format, digest, profiles and literal structure stand. -/
def State.bindAndInstall (s : State) (part : Nat) (f : List Byte) : LoadEnd :=
  match s.bindDefs part (s.part part).nextHandle f 0 (objSymbols f) [] with
  | .error (i, h) => ⟨5, [i, h], s⟩
  | .ok defs =>
    match (List.range defs.length).find? fun i => (s.targetOf part f defs i).isNone with
    | some i => ⟨6, [i], s⟩
    | none =>
      match waimelStray f, translateAll (wordsOf ((objSection f 1).bytes f)) (waimelFns f) with
      | _, .error (i, k) => ⟨7, [i, k], s⟩
      | some i, .ok _ => ⟨7, [i, 0], s⟩
      | none, .ok (text, starts) =>
        let lits := match literalMap 0 text with | .ok l => l | .error _ => []
        s.install part f text lits defs starts ((objRelocs f).filterMap fun r => (s.targetOf part f defs r.1).map fun t => (r.2, t))

/-- R363: a load of a file. -/
def State.loadFile (s : State) (part : Nat) (f : List Byte) : LoadEnd :=
  match formatErr f with
  | some o => ⟨1, [o], s⟩
  | none =>
    if !digestOk f then ⟨2, [], s⟩
    else
      match profileErr f with
      | some c => ⟨3, [c], s⟩
      | none =>
        match literalMap 0 (wordsOf ((objSection f 1).bytes f)) with
        | .error o => ⟨4, [o], s⟩
        | .ok _ => s.bindAndInstall part f

/-! ### Unloading (R367) -/

/-- The task number of a live record that runs the object of a handle. -/
def State.taskOn (s : State) (part h : Nat) : Option Nat :=
  ((s.recs.filter (·.part == part)).find? fun r => bf (s.recFixed r 1) 0 32 == h).map fun r => bf (s.recFixed r 14) 0 32

/-- R367, R291: a page is unmapped, its entries in the translators of both dies retire, and the markers go into the C queues. -/
def State.unmapPage (s : State) (part page : Nat) : State :=
  let s := match s.leafSlot part (page * 2 ^ 16) with
    | some a => s.homeSet a 0
    | none => s
  [0, 1].foldl (fun s die => (s.tlbMap die fun l => l.map fun t => if t.hit part (page * 2 ^ 16) then { t with retiring := true } else t).modAll
    (Strand.putMarker die part page)) s

/-- R291: an access through the old mapping of a page, or a marker for it, is still to be performed. -/
def State.pageHeld (s : State) (part page : Nat) : Bool :=
  [0, 1].any fun die => s.strands.any (Strand.hasMarker die part page) || s.pageOutstanding die part page

/-- R291: the retiring entries of a page go. -/
def State.dropPage (s : State) (part page : Nat) : State :=
  [0, 1].foldl (fun s die => s.tlbMap die fun l => l.filter fun t => !(t.retiring && t.hit part (page * 2 ^ 16))) s

/-- The pages of an unload that is under way. -/
def State.unloading (s : State) (part h : Nat) : Option (List Nat) := (s.unloads.find? fun e => e.1 == part && e.2.1 == h).map (·.2.2)

/-- R367: why an unload is refused: the status and its detail. -/
def State.unloadErr (s : State) (part h : Nat) : Option (Nat × Nat) :=
  if (s.unloading part h).isSome then none
  else if !(s.objects.any fun o => o.part == part && o.handle == h) then some (10, h)
  else
    match s.taskOn part h, s.objects.find? (fun q => q.part == part && q.handle != h && q.binds.contains h) with
    | some t, _ => some (9, t)
    | none, some q => some (9, q.handle)
    | none, none => none

/-- R367: an unload that nothing refuses begins: the object goes, and the INVALs of its pages. -/
def State.unloadBegin (s : State) (part h : Nat) : State :=
  if (s.unloadErr part h).isSome || (s.unloading part h).isSome then s
  else
    let pages := ((s.objects.filter fun q => q.part == part && q.handle == h).map (·.pages)).flatten
    let t := pages.foldl (fun s g => s.unmapPage part g) s
    { t with objects := t.objects.filter (fun q => !(q.part == part && q.handle == h)), unloads := t.unloads ++ [(part, h, pages)] }

/-- R367: an INVAL of an unload that is under way still waits. -/
def State.unloadWaits (s : State) (part h : Nat) : Bool := ((s.unloading part h).getD []).any fun g => s.pageHeld part g

/-- R367: an unload, whose INVALs wait for nothing any more. -/
def State.unloadObject (s : State) (part h : Nat) : LoadEnd :=
  match s.unloadErr part h with
  | some e => ⟨e.1, [e.2], s⟩
  | none =>
    let t := s.unloadBegin part h
    let t := ((t.unloading part h).getD []).foldl (fun s g => s.dropPage part g) t
    ⟨0, [h], { t with unloads := t.unloads.filter fun e => !(e.1 == part && e.2.1 == h) }⟩

end Sys2Proof.Machine
end

