-- ==== Sys2Proof/Machine/Transport.lean ====
section
/-! DEFINITION. The launch transport (R393-R397): the admission of a request, the order of a session, the six kinds and
their replies. -/

namespace Sys2Proof.Machine

/-! ### The bytes under a tag (Table 22.4) -/

/-- The header of a request, or of a reply with its status, with the tag's bytes zero. -/
def headerBytes (h : Header) (status : Nat := 0) : List Byte :=
  natBytes 4 0x4C4E5448 ++ natBytes 1 h.version ++ natBytes 1 h.kind ++ natBytes 1 (h.partition % 16 * 16 + h.die % 2) ++ natBytes 1 0 ++
    natBytes 8 h.session ++ natBytes 8 h.sequence ++ natBytes 8 status ++ List.replicate 32 0

/-! ### Addresses of a request -/

/-- The segments of a range of a partition's space, each within one 64 KiB page, or the first address whose page is not
present, cannot be reached, or fails a check; `ctl` admits pages of control space. -/
def State.hostSpan (s : State) (part va len : Nat) (ok : Word → Bool) (ctl : Bool := false) : Except Nat (List (Nat × Nat)) :=
  ((List.range ((va + len + 65535) / 65536 - va / 65536)).map fun i =>
      let lo := max va ((va / 65536 + i) * 65536)
      (lo, min (va + len) ((va / 65536 + i + 1) * 65536) - lo)).foldr (fun e r =>
    match s.walk part e.1, r with
    | .leaf l large, .ok t =>
      if decide (e.1 < 2 ^ 55) && ok l && s.reachable (leafPA l large e.1) && (ctl || !paIsControl (leafPA l large e.1)) then .ok ((leafPA l large e.1, e.2) :: t)
      else .error e.1
    | .leaf l large, .error a =>
      if decide (e.1 < 2 ^ 55) && ok l && s.reachable (leafPA l large e.1) && (ctl || !paIsControl (leafPA l large e.1)) then .error a else .error e.1
    | .absent _, _ => .error e.1) (.ok [])

/-- The pages a WRITE takes (Table 22.5): kind R or U, W = 1, G = 0. -/
def writePage (l : Word) : Bool := (leafKind l == 1 || leafKind l == 2) && wbit l 1 && !wbit l 9

/-- The pages a READ takes: X = 0 and Z = 0. -/
def readPage (l : Word) : Bool := !wbit l 2 && !wbit l 5

/-- Bytes written at their homes, line by line; what another package holds leaves the machine. -/
def State.hostStore (s : State) (pa : Nat) (bs : List Byte) : State :=
  if paPackage pa != 255 then s
  else (cut 64 (layout pa bs)).foldl (fun s l => s.directWrite l false) s

/-- A byte of the control registers as the hub reads it for a partition (R394: a page of any kind). -/
def State.controlByte (s : State) (part pa : Nat) : Byte :=
  BitVec.ofNat 8 ((State.controlRead { s with st := Strand.forPart part 0 } (paOffset (pa - pa % 8))).toNat / 2 ^ (8 * (pa % 8)))

/-- Bytes of a segment as their homes hold them; another package's are free, control registers read as they do. -/
def State.hostBytes (s : State) (part i pa n : Nat) : List Byte :=
  if paIsControl pa then (List.range n).map fun k => s.controlByte part (pa + k)
  else if paPackage pa != 255 then (List.range n).map fun k => (Config.free s.freeCtr (i * 65536 + k)).setWidth 8 else s.homeBytes pa n

/-- The bytes of segments. -/
def State.spanBytes (s : State) (part : Nat) (l : List (Nat × Nat)) : List Byte :=
  (((List.range l.length).zip l).map fun e => s.hostBytes part e.1 e.2.1 e.2.2).flatten

/-- The address, after n bytes of segments, of the first poisoned byte. -/
def State.spanPoison (s : State) (l : List (Nat × Nat)) : Bool :=
  l.any fun e => paPackage e.1 == 255 && !paIsControl e.1 && (List.range e.2).any fun i => s.homePoison (e.1 + i)

/-- R390: the poisoned lines of the expander in segments are logged for the partition. -/
def State.noteSpan (s : State) (part : Nat) (l : List (Nat × Nat)) : State :=
  (((l.map fun e => (List.range e.2).map fun i => e.1 + i).flatten.filter fun a => paPackage a == 255 && paSpace a == 2 && s.homePoison a).map
    fun a => a - a % 64).dedup.foldl (fun s a => s.notePoison part 0 a) s

/-! ### The kinds (Table 22.5) -/

/-- How a request ends: status, detail bytes, state. -/
structure HubEnd where
  status : Nat
  detail : List Byte
  next : State
deriving DecidableEq, Repr

/-- A status with an address. -/
def hubAt (status va : Nat) (s : State) : HubEnd := ⟨status, natBytes 8 va, s⟩

/-- WRITE. -/
def State.hostWrite (s : State) (part va len : Nat) (data : List Byte) : HubEnd :=
  if len == 0 || 8192 < len || data.length < len then ⟨13, [], s⟩
  else
    match s.hostSpan part va len writePage with
    | .error a => hubAt 5 a s
    | .ok l => ⟨0, [], (l.foldl (fun (r : State × List Byte) e => (r.1.hostStore e.1 (r.2.take e.2), r.2.drop e.2)) (s, data.take len)).1⟩

/-- READ. -/
def State.hostRead (s : State) (part va len : Nat) : HubEnd :=
  if len == 0 || 8192 < len then ⟨13, [], s⟩
  else
    match s.hostSpan part va len readPage true with
    | .error a => hubAt 5 a s
    | .ok l => if s.spanPoison l then ⟨12, [], s.noteSpan part l⟩ else ⟨0, s.spanBytes part l, { s with freeCtr := s.freeCtr + 1 }⟩

/-- A record's address in the hub's hands, under the page checks of R321. -/
def State.hostRecord (s : State) (part va : Nat) : RecAddr := s.recordAddr (Strand.forPart part 0) (word (15 * 2 ^ 60 + va))

/-- LAUNCH (R395). -/
def State.hostLaunch (s : State) (part die va : Nat) (image : List Byte) : HubEnd :=
    match s.hostRecord part va with
    | .found pa =>
      let r := (s.hostStore pa (image.take 128)).spawnRecord die part (word (15 * 2 ^ 60 + va)) pa
      ⟨r.1, [], r.2⟩
    | _ => hubAt 5 va s

/-- SIGNAL. A record that the checks refuse is entered in the violation log, as a retirement's is (R324). -/
def State.hostSignal (s : State) (part va : Nat) : HubEnd :=
  let addr := word (15 * 2 ^ 60 + va)
  match s.hostRecord part va with
  | .found pa =>
    if (s.recPoison pa [4]).isSome then hubAt 5 va (s.logViol part 0 0 0 addr) else ⟨0, [], s.signalRecord part 0 addr pa false false⟩
  | _ => hubAt 5 va (s.logViol part 0 0 0 addr)

/-- A loader's answer as a reply. -/
def LoadEnd.reply (e : LoadEnd) : HubEnd := ⟨e.status, (e.detail.map (natBytes 8)).flatten, e.next⟩

/-- LOAD: an image that cannot be read is no object file (status 1, at the first byte that cannot). -/
def State.hostLoad (s : State) (part va len : Nat) : HubEnd :=
  match s.hostSpan part va len readPage with
  | .error a => hubAt 1 (a - va) s
  | .ok l => if s.spanPoison l then hubAt 1 0 (s.noteSpan part l) else (s.loadFile part (s.spanBytes part l)).reply

/-- A VA in the hub's hands: the offset in space 15. -/
def hubVA (va : Nat) : Nat := va % 2 ^ 60

/-- The fields of a payload (log 110): a VA or a handle first, then a length. -/
def fieldVA (p : List Byte) : Nat := bytesNat (p.take 8)
def fieldLen (p : List Byte) : Nat := bytesNat ((p.drop 8).take 8)

/-- The bytes that the fields of a kind take (Table 22.5); of a WRITE without its data. -/
def fieldBytes (kind : Nat) : Nat := if kind == 3 then 136 else if kind == 5 || kind == 6 then 8 else 16

/-- A request acts, unless its payload is shorter than its kind's fields (R394). -/
def State.perform (s : State) (i : HubRequest) : HubEnd :=
  let p := i.payload
  let va := hubVA (fieldVA p)
  if p.length < fieldBytes i.kind then ⟨13, [], s⟩
  else
    match i.kind with
    | 1 => s.hostWrite i.part va (fieldLen p) (p.drop 16)
    | 2 => s.hostRead i.part va (fieldLen p)
    | 3 => s.hostLaunch i.part i.die va (p.drop 8)
    | 4 => s.hostLoad i.part va (fieldLen p)
    | 5 => (s.unloadObject i.part (fieldVA p)).reply
    | _ => s.hostSignal i.part va

/-! ### Sessions (R396, R397) -/

/-- The session of a number. -/
def State.session (s : State) (n : Nat) : Option Session := s.sessions.find? (·.num == n)

def State.modSession (s : State) (n : Nat) (f : Session → Session) : State :=
  { s with sessions := s.sessions.map fun q => if q.num == n then f q else q }

/-- Replies kept, and requests held ahead of a gap (R396). -/
def cacheDepth : Nat := 64

/-- R393: the reply to request n of a session: the request's header with the status, under the session's key. -/
def Session.reply (q : Session) (n : Nat) (i : HubRequest) (status : Nat) (detail : List Byte) : Reply :=
  let h : Header := ⟨1, i.kind, i.part, i.die, q.num, n, []⟩
  ⟨{ h with tag := Config.kmac256 q.key (headerBytes h status ++ detail) }, status, detail⟩

/-- A reply leaves and is kept; the next number follows. -/
def Session.answered (q : Session) (n : Nat) (r : Reply) : Session :=
  { q with next := n + 1, replies := (q.replies ++ [r]).drop (q.replies.length + 1 - cacheDepth) }

/-- The handle of an unload. -/
def HubRequest.unload (i : HubRequest) : Option Nat := if i.kind == 5 && 8 ≤ i.payload.length then some (fieldVA i.payload) else none

/-- R367: an unload begins; whether its INVALs wait. -/
def State.begun (s : State) (i : HubRequest) : State × Bool :=
  match i.unload with
  | some h => let t := s.unloadBegin i.part h; (t, t.unloadWaits i.part h)
  | none => (s, false)

/-- The request whose number has come is performed and answered; an unload whose INVALs wait is held until they are done. -/
def State.performNext (s : State) (q : Session) (n : Nat) (i : HubRequest) : State :=
  let b := s.begun i
  if b.2 then b.1.modSession q.num fun q => { q with held := (n, i) :: q.held }
  else
    let e := b.1.perform i
    let r := q.reply n i e.status e.detail
    let t := e.next.modSession q.num fun q => q.answered n r
    { t with out := t.out ++ [r] }

/-- Held requests whose gap has filled are performed in order. -/
def State.performHeld (num : Nat) : Nat → State → State
  | 0, s => s
  | k + 1, s =>
    match s.session num with
    | none => s
    | some q =>
      match takeFirst (fun e : Nat × HubRequest => e.1 == q.next) q.held with
      | none => s
      | some (e, rest) => State.performHeld num k ((s.modSession num fun q => { q with held := rest, since := s.time }).performNext q e.1 e.2)

/-- R394: a request is dropped without a reply. -/
def State.dropRequest (s : State) (part session : Nat) : State := s.logHub 19 (some (part % 16)) 0 (word session)

/-- R396: the requests of a session that are held ahead of a gap are dropped. -/
def State.dropHeld (s : State) (q : Session) : State :=
  (q.held.filter fun e => e.1 != q.next).foldl (fun s _ => s.dropRequest q.part q.num)
    (s.modSession q.num fun q => { q with held := q.held.filter fun e => e.1 == q.next })

/-- R396: a request of a session by its number: answered from the cache, performed, or held ahead of a gap. -/
def State.sequenced (s : State) (q : Session) (n : Nat) (i : HubRequest) : State :=
  if n < q.next then
    (match q.replies.find? fun r => r.header.sequence == n with
     | some r => { s with out := s.out ++ [r] }
     | none => s)
  else if q.held.any (·.1 == n) then s
  else if n == q.next then State.performHeld q.num q.held.length (s.performNext q n i)
  else if cacheDepth ≤ q.held.length then (s.dropHeld q).dropRequest q.part q.num
  else s.modSession q.num fun q => { q with held := q.held ++ [(n, i)], since := if q.held.isEmpty then s.time else q.since }

/-- R393, R394: a request of a kind arrives, with the payload under its tag. A reserved kind is dropped; a header of another
kind is no such request. -/
def State.request (s : State) (kind : Nat) (h : Header) (payload : List Byte) : State :=
  if h.kind != kind then (if h.kind == 0 || 6 < h.kind then s.dropRequest h.partition h.session else s)
  else
    match s.session h.session with
    | none => s.dropRequest h.partition h.session
    | some q =>
      if h.version != 1 || q.part != h.partition || h.tag != Config.kmac256 q.key (headerBytes h ++ payload) then
        s.dropRequest h.partition h.session
      else s.sequenced q h.sequence ⟨kind, h.partition, h.die % 2, payload⟩

/-- WRITE (R394). -/
def execWrite (h : Header) (va len data : List Byte) (s : State) : Host.Outcome State Fault Refusal :=
  .next (s.request 1 h (va ++ len ++ data))

/-- READ (R394). -/
def execRead (h : Header) (va len : List Byte) (s : State) : Host.Outcome State Fault Refusal :=
  .next (s.request 2 h (va ++ len))

/-- LAUNCH (R395). -/
def execLaunch (h : Header) (va image : List Byte) (s : State) : Host.Outcome State Fault Refusal :=
  .next (s.request 3 h (va ++ image))

/-- LOAD (R363). -/
def execLoad (h : Header) (va len : List Byte) (s : State) : Host.Outcome State Fault Refusal :=
  .next (s.request 4 h (va ++ len))

/-- UNLOAD (R367). -/
def execUnload (h : Header) (handle : List Byte) (s : State) : Host.Outcome State Fault Refusal :=
  .next (s.request 5 h handle)

/-- TRANSPORT_SIGNAL (R394). -/
def execTransportSignal (h : Header) (va : List Byte) (s : State) : Host.Outcome State Fault Refusal :=
  .next (s.request 6 h va)

/-- SEQUENCE_GAP_TIMEOUT (R396): requests held for 1 ms ahead of a gap are dropped without a reply; one that is held with no gap before it is
tried again. -/
def execSequenceGapTimeout (session : Nat) (s : State) : Host.Outcome State Fault Refusal :=
  match s.session session with
  | none => .next s
  | some q => .next (if q.held.any (·.1 == q.next) then State.performHeld session q.held.length s else if !q.held.isEmpty && decide (q.since + 1000000 ≤ s.time) then s.dropHeld q else s)

/-- The session key that is agreed at an opening (R397): free bytes, new ones each time. -/
def State.agreedKey (s : State) : List Byte := (List.range 32).map fun i => (Config.free s.freeCtr i).setWidth 8

/-- SESSION_OPEN (R397): the SMP opens a session for a partition whose certificate chain it accepts, with a key of its own; not before the
package's links are back from a warm reset (R401). -/
def execSessionOpen (session part : Nat) (chain : List Byte) (s : State) : Host.Outcome State Fault Refusal :=
  if (s.session session).isSome || 16 ≤ part || !s.hub.coming.isEmpty || !Config.chainValid part chain then .next s
  else .next { s with sessions := s.sessions ++ [⟨session, part, s.agreedKey, 0, [], [], 0⟩], freeCtr := s.freeCtr + 1 }

end Sys2Proof.Machine
end

