-- ==== Sys2Proof/Machine/Smp.lean ====
section
/-! DEFINITION. The security and management processor and the governor: partitions (R398, R399), resets (R400, R401),
measured boot and quotes (R402, R403), power and heat (R404, R405). -/

namespace Sys2Proof.Machine

/-! ### Measurement (R402, R403) -/

/-- A measurement register, 64 bytes; zero at cold reset. -/
def State.measurement (s : State) (i : Nat) : List Byte := SMap.get (List.replicate 64 0) s.hub.meas i

/-- M(i) := SHAKE256(M(i) || digest, 512 bits). -/
def State.extendM (s : State) (i : Nat) (digest : List Byte) : State :=
  { s with hub := { s.hub with meas := SMap.set (List.replicate 64 0) s.hub.meas i (Config.shake512 (s.measurement i ++ digest)) } }

/-- The partition configuration as bytes: PARTOF of each core, then ROOT, FHREC, TVEC and TPRIV of each partition. -/
def State.configBytes (s : State) : List Byte :=
  (((List.range 512).map fun c => SMap.get 0 s.partOf c) ++
    ((List.range 16).map fun p => [(s.part p).root, (s.part p).fhrec.toNat, (s.part p).tvec.toNat, (s.part p).tpriv.toNat]).flatten).map
    (natBytes 8) |>.flatten

/-- MEASUREMENT_EXTEND (R402): a partition's system software extends register 4-7 through the SMP. -/
def execMeasurementExtend (reg : Nat) (digest : List Byte) (s : State) : Host.Outcome State Fault Refusal :=
  .next (if 4 ≤ reg && reg ≤ 7 then s.extendM reg digest else s)

/-- The profile mask of the device (Table 18.6): scalar base, V1, D1, C1. -/
def deviceProfiles : Nat := 15

/-- What a quote is signed over (R403). -/
def State.quoteMessage (s : State) (nonce : List Byte) : List Byte :=
  nonce ++ ((List.range 8).map s.measurement).flatten ++ natBytes 8 Config.deviceRevision ++ natBytes 8 deviceProfiles ++
    Config.shake256 s.configBytes

/-- QUOTE (R403): on a request with a 32-byte nonce. -/
def execQuote (nonce : List Byte) (s : State) : Host.Outcome State Fault Refusal :=
  if nonce.length != 32 then .next s
  else .next { s with hub := { s.hub with quotes := s.hub.quotes ++ [s.quoteMessage nonce ++ Config.quoteSign s.hub.seed (s.quoteMessage nonce)] } }

/-! ### Partitions (R398, R399) -/

/-- R398: PARTOF changes only while the core holds no field of any task and no resident region. -/
def State.setOwner (s : State) (n : Nat) (owner : Option Nat) : Option State :=
  if 512 ≤ n || s.coreBusy n || s.coreHolds n then none
  else some { s with partOf := SMap.set 0 s.partOf n (match owner with | some p => 16 + p % 16 | none => 0) }

/-- One change of the configuration; none where it is not allowed. -/
def State.configure (s : State) (c : PartConfig) : Option State :=
  match c with
  | .core n owner => s.setOwner n owner
  | .root p pa => if 16 ≤ p then none else some (s.setPart p { s.part p with root := pa })
  | .handler p r => if 16 ≤ p then none else some (s.setPart p { s.part p with fhrec := r })
  | .vector p v w => if 16 ≤ p then none else some (s.setPart p { s.part p with tvec := v, tpriv := w })
  | .window w d p =>
    if 96 ≤ w || 2048 ≤ d || 144 ≤ p then none
    else some { s with hub := { s.hub with windows := SMap.set 0 s.hub.windows w (word (2 ^ 63 + d * 2 ^ 32 + p)) } }
  | .group g m =>
    if 15 ≤ g || m.any (fun p => decide (144 ≤ p)) then none else some { s with hub := { s.hub with groups := SMap.set [] s.hub.groups g m } }

/-- PARTITION_CONFIGURE (R398, R402): the SMP changes the configuration, and M(3) is extended by its digest. -/
def execPartitionConfigure (c : PartConfig) (s : State) : Host.Outcome State Fault Refusal :=
  match s.configure c with
  | none => .next s
  | some t => .next (t.extendM 3 (Config.shake512 t.configBytes))

/-- R399: the running task of a lead strand ends with CAUSE 9; nothing is signalled. -/
def State.evict (s : State) (st : Strand) : State :=
  let s := s.logFault st.part 0 9 st.closer st.taskNo st.placement 0 0
  let all := s.taskStrands st
  let s := s.leaveDomain st true
  let s := all.foldl (fun s t => ((s.withdraw t.sid).endDeferrals t).drop t.sid) { s with net := s.net.map (AtomReq.orphan all) }
  match s.recs.find? (fun r => r.part == st.part && r.va == st.recAddr) with
  | some r => s.setRecWord r.pa 12 st.charge
  | none => s

/-- R399: a live record is retired with RCODE 0x11. -/
def State.voidRecord (s : State) (r : RecEntry) : State :=
  State.setRecWord { s with recs := s.recs.filter fun x => x.pa != r.pa } r.pa 4 (setBf (setBf (s.recWord r.pa 4) 8 8 0x11) 21 3 6)

/-- R399, steps 2 to 4: what the partition holds outside its records is discarded. -/
def State.discardPart (s : State) (p : Nat) : State :=
  let clusters := List.range 64
  let q := s.part p
  State.setPart { s with
    fq := (s.fq.map fun e : Nat × List FqEntry => (e.1, e.2.filter fun x => x.part != p)).filter fun e => !e.2.isEmpty,
    held := (s.held.map fun e : Nat × List HeldFault => (e.1, e.2.filter fun x => x.part != p)).filter fun e => !e.2.isEmpty,
    disarmed := clusters.foldl (fun m c => SMap.set false m (fqKey c p) false) s.disarmed,
    fovf := clusters.foldl (fun m c => SMap.set false m (fqKey c p) false) s.fovf,
    regions := s.regions.filter fun r => r.part != p,
    images := s.images.filter fun i => i.part != p,
    tlb := (s.tlb.map fun e : Nat × List TlbEntry => (e.1, e.2.filter fun t => t.part != p)).filter fun e => !e.2.isEmpty,
    objects := s.objects.filter (fun o => o.part != p), unloads := s.unloads.filter (fun e => e.1 != p),
    sessions := s.sessions.filter fun x => x.part != p } p { q with hpend := false, vlog := [], vovf := false }

/-- PARTITION_RESET (R399): a member of a barrier domain that the press has saved is killed too (R278). -/
def execPartitionReset (part : Nat) (s : State) : Host.Outcome State Fault Refusal :=
  let leads := s.strands.filter fun t => t.part == part && t.gidx == 0
  let s := leads.foldl (fun s t => s.evict t) s
  let s := (s.images.filter fun i => i.part == part).foldl (fun s i => match i.strands.find? (·.gidx == 0) with
    | some t => s.leaveDomain t true
    | none => s) s
  let s := (s.recs.filter fun r => r.part == part).foldl (fun s r => s.voidRecord r) s
  .next (s.discardPart part).retireDue

/-! ### Resets (R400, R401) -/

/-- R349: a bank at a warm reset: one whose stamp is younger than 20 s is refreshed now, any other is invalid. -/
def Bank.warm (b : Bank) (now : Nat) : Bank :=
  let b : Bank := { b with deferred := false, by' := 0, creq := false, cecnt := 0, running := false, bursts := 0, began := 0 }
  if decide (now < b.stamp + 20000000000) then { b with stamp := now } else { b with inv := true, stamp := now }

/-- The banks of the package after a warm reset. -/
def State.warmBanks (s : State) : SMap Bank :=
  ((List.range (16 * Config.cells)).map fun k => (k, (SMap.get Bank.initial s.banks k).warm s.now)).filter fun e => e.2 != Bank.initial

/-- The banks that a warm reset finds too old. -/
def State.staleBanks (s : State) : List Nat :=
  (List.range (16 * Config.cells)).filter fun k => !decide (s.now < (SMap.get Bank.initial s.banks k).stamp + 20000000000)

/-- The bank key of a tower address. -/
def State.bankKey (s : State) (pa : Nat) : Nat := paCell pa * 16 + bankOf (s.spanAt (paCell pa) (pa % 2 ^ 21)) (pa % 2 ^ 21)

/-- R401, R420: a link that has failed stays so; every other is retrained. -/
def Link.warm (k : Link) : Link := if k.state == 3 then k else { k with state := 1, streak := 0, fails := 0 }

/-- R401: the links to retrain, in their order. -/
def State.toRetrain (s : State) : List Nat :=
  ((List.range 256).filter fun c => !(s.chan c).failed) ++ [256] ++
    ((List.range 36).filter fun l => (SMap.get Link.initial s.hub.links l).state != 3).map (257 + ·)

/-- Table 22.7: what a warm reset keeps of the hub. -/
def Hub.warm (h : Hub) : Hub :=
  { Hub.reset with
    iso := true, resetIso := true, up := h.up, devs := h.devs, width := h.width, tmocnt := h.tmocnt, power := h.power, clock := h.clock, tj := h.tj,
    throt := h.throt, throtWin := h.throtWin, meas := h.meas, seed := h.seed, cert := h.cert, ident := h.ident, pkg := h.pkg, domain := h.domain,
    d2dDown := true, links := (List.range 36).map fun l => (l, (SMap.get Link.initial h.links l).warm),
    unreach := h.unreach, timeState := h.timeState, timeOff := h.timeOff, timeCfg := h.timeCfg, timeLast := h.timeLast,
    timeMeas := h.timeMeas, timeCorr := h.timeCorr, lastStore := h.lastStore, nvWear := h.nvWear }

/-- Table 22.7: a partition keeps its logs (R433, R437) and its wear account. -/
def Part.warm (p : Part) : Part := { Part.initial with flog := p.flog, vlog := p.vlog, vovf := p.vovf, wear := p.wear }

/-- Table 22.7: a channel that has failed stays failed; every other is retrained. -/
def Chan.warm (c : Chan) : Chan := { Chan.initial with failed := c.failed, retraining := !c.failed, fails := if c.failed then c.fails else 0 }

/-- A core keeps its wear, its retirement and its remap entries; one whose retirement was pending holds nothing any more, and has retired
(R330). -/
def CoreState.warm (c : CoreState) : CoreState := { c with stress := CoreState.initial.stress, retired := c.retired || c.rpend, rpend := false, mpend := false }

/-- R349, R435: the marks after a warm reset. What a lost bank held is lost; where the span map reads code 6 again an offset keeps its
bytes, or their loss, under the bank that now serves it (R212). In an invalid bank a listed unit is one that holds data. -/
def State.warmPoison (s : State) (stale : List Nat) : SMap Bool :=
  let base := s.poison.filter fun e => !(paIsTower e.1 && stale.contains (s.bankKey e.1))
  (s.span.map fun e => (List.range 64).map fun i => towerPA (e.1 / 4096) (512 * (e.1 % 4096) + 8 * i)).flatten.foldl (fun m pa =>
    let k := paCell pa * 16 + bankOf 6 (pa % 2 ^ 21)
    let invalid : Bool := stale.contains k || (SMap.get Bank.initial s.banks k).inv
    let lost : Bool := stale.contains (s.bankKey pa) || s.marked pa
    SMap.set false m pa (lost != invalid)) base

/-- The entries of sparse data changed by f, without those that become d. -/
def SMap.remake {α : Type} [DecidableEq α] (d : α) (m : SMap α) (f : α → α) : SMap α :=
  (m.map fun e => (e.1, f e.2)).filter fun e => decide (e.2 ≠ d)

/-- What a warm reset leaves (Table 22.7), once every write queued at a home stands in its array; the span maps read code 6 (R212). -/
def State.warmKept (s : State) : State :=
  let stale := s.staleBanks
  { State.reset with
    agenda := s.agenda, late := s.late, freeCtr := s.freeCtr, time := s.time, nextSid := s.nextSid, mem := s.mem,
    poison := s.warmPoison stale, rinds := s.rinds,
    banks := s.warmBanks, cores := SMap.remake CoreState.initial s.cores CoreState.warm, parts := SMap.remake Part.initial s.parts Part.warm,
    chans := (List.range 256).map fun c => (c, (s.chan c).warm), hbmCnt := s.hbmCnt, errcnt := s.errcnt, logs := s.logs,
    hub := { s.hub.warm with coming := s.toRetrain } }

/-- WARM_RESET (R400, R401, R349): the banks that are lost are logged. -/
def execWarmReset (s : State) : Host.Outcome State Fault Refusal :=
  let s := (s.homeq.map (·.1)).foldl (fun s h => s.mergeAll h) s
  let t := (s.cores.filter fun e => e.2.rpend).foldl (fun t e => t.logDie (e.1 / 256) 12 (some (e.1 % 256)) 0 0 0 0 3) s.warmKept
  .next (s.staleBanks.foldl (fun s k => s.logBank 11 (k / 16) (k % 16) 0 0) t)

/-- A core at a cold reset: its lifetime record, retirement and remap entries; at its budget its retirement is pending (R6). -/
def CoreState.cold (c : CoreState) (wear : Nat) : CoreState :=
  { CoreState.initial with wear := wear, retired := c.retired, rpend := !c.retired && decide (157680000 * 2 ^ 16 ≤ wear),
                           remap0 := c.remap0, remap1 := c.remap1 }

/-- R354, Table 22.7: the lifetime records that a cold reset finds: those last stored where power was lost. -/
def State.coldCores (s : State) : SMap CoreState :=
  ((List.range 512).map fun k =>
    let c := s.coreAt k
    (k, c.cold (if s.hub.powered then c.wear else SMap.get 0 s.hub.nvWear k))).filter fun e => e.2 != CoreState.initial

/-- R352: STRONG outlives a cold reset unless a repair clears it; nothing else of a bank does. -/
def State.coldBanks (s : State) (repaired : List Nat) : SMap Bank :=
  SMap.remake Bank.initial (s.banks.filter fun e => !repaired.contains e.1) fun b => { Bank.initial with strong := b.strong }

/-- R402: the firmware stages before the failing one are measured. -/
def State.measure (s : State) (b : BootImage) : State :=
  (if b.failing == 0 then b.stages else b.stages.take (b.failing - 1)).foldl (fun s e => s.extendM (e.1 % 8) (Config.shake512 e.2)) s

/-- The hub at a cold reset (Tables 22.3, 22.6, 24.2). -/
def Hub.cold (h : Hub) (b : BootImage) : Hub :=
  { Hub.reset with
    up := !b.devices.isEmpty, devs := b.devices.take 8, width := if b.devices.isEmpty then 0 else b.width, bootfail := b.failing % 16,
    powered := b.failing == 0, seed := if h.seed.isEmpty then b.seed else h.seed,
    cert := if h.seed.isEmpty then b.cert else h.cert, ident := Config.identityKey (if h.seed.isEmpty then b.seed else h.seed), pkg := b.pkg, domain := b.domain,
    timeCfg := word (b2n b.ip6 * 2 ^ 9 + b.ptpDomain % 256), nvWear := h.nvWear }

/-- What a cold reset leaves (Table 22.7): class 20 of the hub is kept in the non-volatile store (R385). -/
def State.coldKept (s : State) (b : BootImage) : State :=
  { State.reset with
    agenda := s.agenda, late := s.late, freeCtr := s.freeCtr, nextSid := s.nextSid, cores := s.coldCores, banks := s.coldBanks b.repairedBanks,
    errcnt := SMap.set 0 [] 148 (SMap.get 0 s.errcnt 148), hub := s.hub.cold b }

/-- COLD_RESET (R400, R402): measured boot; a stage that fails keeps the package in reset; refused devices are logged (R388) and
cells that fail the self-test are replaced (R353). -/
def execColdReset (b : BootImage) (s : State) : Host.Outcome State Fault Refusal :=
  let t := (s.coldKept b).measure b
  let t := b.refusedDevices.foldl (fun s i => s.logHub 14 none 0 (word i)) t
  .next ((b.failedCells.filter fun c => decide (c < Config.cells)).foldl (fun s c => s.remapCell c) t)

/-! ### Power and heat (R404, R405) -/

/-- R404: whether a step must lower the clock. -/
def overLimit (power tj : Nat) : Bool := decide (3600 < power) || decide (100 < tj)

/-- GOVERNOR_STEP (R404): over the limit the clock falls by 25 MHz down to 850; otherwise it may rise by 25 MHz up to 1700; not within
10 µs of its last step. -/
def execGovernorStep (power tj : Nat) (s : State) : Host.Outcome State Fault Refusal :=
  let h := s.hub
  let hot := overLimit power tj
  let may := decide (h.nextStep ≤ s.time)
  let clock := if !may then h.clock else if hot then max 850 (h.clock - 25) else if s.freeBit 0 then min 1700 (h.clock + 25) else h.clock
  let win := s.time / 100000 + 1
  let counts := hot && h.throtWin != win
  .next { s with
    freeCtr := s.freeCtr + 1,
    hub := { h with power := power, tj := tj, clock := clock, nextStep := if clock == h.clock then h.nextStep else s.time + 10000,
                    throt := if counts then min (2 ^ 24 - 1) (h.throt + 1) else h.throt,
                    throtWin := if counts then win else h.throtWin } }

/-- THERMAL_TRIP (R405): every clock stops; class 20 is recorded in the lifetime store. -/
def execThermalTrip (s : State) : Host.Outcome State Fault Refusal :=
  let s := s.count 148
  .next { s with hub := { s.hub with powered := false } }

/-- POWER_FAILURE (R354): the supply is lost; what the non-volatile store holds is kept. -/
def execPowerFailure (s : State) : Host.Outcome State Fault Refusal := .next { s with hub := { s.hub with powered := false } }

end Sys2Proof.Machine
end

