-- ==== Sys2Proof/Machine/Fabric.lean ====
section
/-! DEFINITION. The fabric (R412-R431): requests of other packages, scale-up links, reachability, fabric barriers, and the
time base. -/

namespace Sys2Proof.Machine

/-! ### Requests of other packages (R418, R424) -/

/-- The place in this package that a request's address names: its package field is this package's number, or a group that
holds it. -/
def State.ownPlace (s : State) (pa : Nat) : Option Nat :=
  let p := paPackage pa
  if p == s.hub.pkg || (decide (240 ≤ p) && decide (p < 255) && (SMap.get [] s.hub.groups (p - 240)).contains s.hub.pkg) then
    some (255 * 2 ^ 48 + pa % 2 ^ 48)
  else none

/-- R424: a block that arrives with a rind is checked against the address it was sent to; then a page with rinds keeps its
own. -/
def State.landBlock (s : State) (pa own : Nat) (data : List Byte) (crc : W32) (addr : BitVec 48) (keep : Bool) : RemoteAnswer × State :=
  if data.length != 256 || pa % 256 != 0 || crc != crc32c data || addr != s.logical pa then (.error 0x0D, s)
  else (.done, s.landBytes own keep (markAll false data))

/-- A request at its home here. -/
def State.serve (s : State) (r : RemoteReq) : RemoteAnswer × State :=
  match s.ownPlace r.pa with
  | none => (.error 0x05, s)
  | some pa =>
    if 1 < paSpace pa || !s.reachable pa then (.error 0x05, s)
    else
      match r.op with
      | .read n => (if (List.range n).any (fun i => s.homePoison (pa + i)) then .error 0x0C else .data (s.homeBytes pa n), s)
      | .write d => (.done, s.directWrite (layout pa d) false)
      | .block d crc addr keep => s.landBlock r.pa pa d crc addr keep
      | .atomic op b e =>
        (match s.amoPoison op.toNat pa with
         | some a => (.error 0x0C, s.logAmoPoison none a)
         | none => let q := s.amoDo op.toNat pa b e; (.old q.1, q.2))

/-- R418: the answers of the last 2 x TMO µs. -/
def State.remembered (s : State) : List (Nat × Nat × RemoteAnswer × Nat) :=
  s.hub.served.filter fun e => decide (s.time < e.2.2.2 + 2000 * s.hub.fabTmo)

/-- REMOTE_REQUEST (R418): a request is performed at most once; a repeated one is answered from the record. The package accepts none before
its links are back from a warm reset (R401). -/
def execRemoteRequest (r : RemoteReq) (s : State) : Host.Outcome State Fault Refusal :=
  let kept := s.remembered
  let s := { s with hub := { s.hub with served := kept } }
  if !s.hub.coming.isEmpty || kept.any fun e => e.1 == r.source && e.2.1 == r.number then .next s
  else
    let a := s.serve r
    .next { a.2 with hub := { a.2.hub with served := a.2.hub.served ++ [(r.source, r.number, a.1, s.time)] } }

/-! ### Links (R420) -/

def State.link (s : State) (l : Nat) : Link := SMap.get Link.initial s.hub.links l

def State.setLink (s : State) (l : Nat) (v : Link) : State := { s with hub := { s.hub with links := SMap.set Link.initial s.hub.links l v } }

/-- SCALEUP_LINK_CRC_FAIL (R420): a flit is replayed; after sixteen failed replays in a row the link retrains. -/
def execScaleupLinkCrcFail (link : Nat) (s : State) : Host.Outcome State Fault Refusal :=
  let k := s.link link
  if 36 ≤ link || k.state != 2 then .next s
  else
    let k : Link := { k with replays := min (k.replays + 1) (2 ^ 32 - 1), streak := k.streak + 1 }
    if k.streak < 16 then .next (s.setLink link k)
    else .next ((s.setLink link { k with state := 1, streak := 0, retrains := min (k.retrains + 1) (2 ^ 16 - 1) }).logHub 21 none 0 0)

/-- R420: the link is failed until a cold reset. -/
def State.failLink (s : State) (l : Nat) : State := (s.setLink l { s.link l with state := 3, streak := 0 }).logHub 22 none 0 (word l)

/-- SCALEUP_RETRAIN_DONE (R420, R401): the link is up, or retrains again; the third failure in a row fails it. -/
def execScaleupRetrainDone (link : Nat) (ok : Bool) (s : State) : Host.Outcome State Fault Refusal :=
  let k := s.link link
  if 36 ≤ link || 2 ≤ k.state || !s.retrainsNow (257 + link) then .next s
  else if ok then .next ((s.setLink link { k with state := 2, fails := 0, streak := 0 }).cameBack (257 + link))
  else if k.fails + 1 < 3 then .next (s.setLink link { k with state := 1, fails := k.fails + 1 })
  else .next ((State.failLink (s.setLink link { k with fails := 3 }) link).cameBack (257 + link))

/-- SWITCH_FAILURE (R420): a failed switch is one failed link. -/
def execSwitchFailure (sw : Nat) (s : State) : Host.Outcome State Fault Refusal :=
  .next (if 36 ≤ sw || (s.link sw).state == 3 then s else s.failLink sw)

/-! ### Reachability (R419, R429) -/

/-- R429: a fabric domain is broken when its root is lost to a package with a waiting member, or, at the root, when a package
that has arrived is lost while a phase is open; elsewhere the root tells so (`told`). -/
def Domain.lost (d : Domain) (own pkg : Nat) (waiting told : Bool) : Domain :=
  let root := d.ident / 2 ^ 16
  if d.level == 5 && ((root == pkg && waiting) || (root == own && d.arrivedPkgs.contains pkg && 0 < d.arrived) ||
      (root != pkg && root != own && told)) then
    { d with broken := true }
  else d

/-- A live member of a domain, running or saved, has arrived and not been released. -/
def State.waitingIn (s : State) (d : Domain) : Bool :=
  (s.strands ++ (s.images.map (·.strands)).flatten).any fun t => d.isOf t && t.pendBit

/-- What the root of a domain elsewhere tells this package as a package is lost: that the domain is broken, by a free choice (R429, log 124). -/
def State.toldBroken (s : State) (d : Domain) : Bool := (Config.free s.freeCtr d.ident).getLsbD 0

/-- REACHABILITY_CHANGE (R419): a package becomes unreachable, and what is outstanding there fails; or a path returns. -/
def execReachabilityChange (pkg : Nat) (up : Bool) (s : State) : Host.Outcome State Fault Refusal :=
  if 144 ≤ pkg || pkg == s.hub.pkg || SMap.get false s.hub.unreach pkg == !up then .next s
  else
    let s := s.logHub 25 none 0 (word ((if up then 0 else 256) + pkg))
    let s := if up then s else s.failFar (fun pa => paPackage pa == pkg) (s.time + 1) none
    let s := { s with hub := { s.hub with unreach := SMap.set false s.hub.unreach pkg (!up) } }
    if up then .next s
    else
      .next { s with freeCtr := s.freeCtr + 1, domains := s.domains.map fun d => d.lost s.hub.pkg pkg (s.waitingIn d) (s.toldBroken d) }

/-! ### Fabric barriers (R428) -/

/-- Whether a domain is the fabric domain a DOM value names. -/
def Domain.isFabric (d : Domain) (dom : Word) : Bool := d.level == 5 && d.ident == domIdent dom

/-- The fabric domain of a DOM value stands at its root, with or without members here. -/
def State.rootDomain (s : State) (dom : Word) : State :=
  if s.domains.any (·.isFabric dom) then s
  else { s with domains := s.domains ++ [⟨5, domIdent dom, 0, domMembers dom, [], 0, 0, 0, false, [], 0⟩] }

/-- n arrivals of a package at its root. -/
def Domain.arrive (d : Domain) (pkg n : Nat) : Domain :=
  { d with arrived := d.arrived + n, arrivedPkgs := if d.arrivedPkgs.contains pkg then d.arrivedPkgs else d.arrivedPkgs ++ [pkg] }

/-- R278: a package has no member of a domain any more; the domain ends with its last member. -/
def State.leaveFabric (s : State) (dom : Word) (pkg : Nat) : State :=
  let ds := s.domains.map fun d => if d.isFabric dom then { d with arrivedPkgs := d.arrivedPkgs.filter (· != pkg) } else d
  { s with domains := ds.filter fun d => !(d.isFabric dom && d.live.isEmpty && d.arrivedPkgs.isEmpty) }

/-- FABRIC_ARRIVAL_MSG (R428): n members of another package have arrived at the domain whose root is this package; the last
arrival completes the phase. A message of no arrivals says that the package's last member has ended (R278, log 104). -/
def execFabricArrivalMsg (dom : Nat) (pkg n : Nat) (s : State) : Host.Outcome State Fault Refusal :=
  let w := word dom
  if domLevel w != 5 || domIdent w / 2 ^ 16 != s.hub.pkg || domMembers w == 0 then .next s
  else if n == 0 then .next (s.leaveFabric w pkg)
  else
    let t := s.rootDomain w
    .next { t with domains := t.domains.map fun d => if d.isFabric w && !d.broken then (d.arrive pkg n).settle s.hub.pkg s.now else d }

/-- The release of a domain rooted elsewhere. -/
def Domain.release (d : Domain) (dom : Word) (own now : Nat) : Domain :=
  if domLevel dom == 5 && d.isFabric dom && d.ident / 2 ^ 16 != own then { d with phase := d.phase + 1, arrived := 0, doneAt := now } else d

/-- FABRIC_RELEASE_MSG (R428): the root's release arrives, and the members here are signalled. -/
def execFabricReleaseMsg (dom : Nat) (s : State) : Host.Outcome State Fault Refusal :=
  .next { s with domains := s.domains.map fun d => d.release (word dom) s.hub.pkg s.now }

/-! ### The time base (R425, R426) -/

/-- PTP_MESSAGE (R425, R426): a valid message with the grandmaster's time and the measured offset. The first begins the
acquisition, the next is the first lock, with its step forward; later ones set what the servo takes off. -/
def execPtpMessage (grand : Nat) (offset : Int) (s : State) : Host.Outcome State Fault Refusal :=
  let h := { s.hub with timeLast := s.time, timeMeas := offset }
  let h : Hub := match h.timeState with
    | 0 => { h with timeState := 1 }
    | 1 => if s.now < grand then { h with timeState := 2, timeOff := (grand : Int) - (s.time : Int), timeCorr := 0, timeMeas := 0 }
           else { h with timeState := 2, timeCorr := -offset }
    | _ => { h with timeState := 2, timeCorr := -offset }
  .next { s with hub := h }

/-- HOLDOVER (R426): no valid message for 4 s after a lock: TIME runs free. -/
def execHoldover (s : State) : Host.Outcome State Fault Refusal := .next s.holdover

end Sys2Proof.Machine
end

