-- ==== Sys2Proof/Machine/Tokens.lean ====
section
/-! DEFINITION. The sequencer on the token counters (R102-R105): TKP and TKW, behind what the queue heads do to a counter in the
same cycle (R103, R197), and the watchdog of their waits (R105, R170, R198). -/

namespace Sys2Proof.Machine

/-- R103, R197: before the sequencer acts on a counter in a cycle, each queue head takes the tokens it waits for, then every post
that stands is made. -/
def Strand.headsFirst (st : Strand) : Strand :=
  let st := [EngineQ.V, .D, .C].foldl (fun st q => (Strand.stage st q).1) st
  Strand.settleFlights ((st.retryPosts .D).retryPosts .C)

/-- A counter set by the sequencer (R174: a WFE of the strand sees a change). -/
def Strand.setTok (st : Strand) (t : Tok) (n : Nat) : Strand := { st with tok := st.tok.put t n, wake := true }

/-- TKP (R102): it waits while the counter would pass 15. No queue wait takes its tokens before the next cycle (R197). -/
def State.tkpWord (s : State) (t : Tok) (n : Nat) : WRes :=
  if s.st.again then .ok (s.advance 4)
  else
    let st := s.st.headsFirst
    if 15 < st.tok.get t + n then .wait (.token t)
    else .ok (State.advance { s with st := st.posted t n } 4)

/-- TKW (R102): it waits while the counter is below n. -/
def State.tkwWord (s : State) (t : Tok) (n : Nat) : WRes :=
  if s.st.again then .ok (s.advance 4)
  else
    let st := s.st.headsFirst
    if st.tok.get t < n then .wait (.token t)
    else .ok (State.advance { s with st := st.setTok t (st.tok.get t - n) } 4)

/-- TKP. -/
def execTkp (c : BitVec 3) (n : BitVec 5) (s : State) : Host.Outcome State Fault Refusal := finish s (s.tkpWord (tokOf c.toNat) n.toNat)

/-- TKW. -/
def execTkw (c : BitVec 3) (n : BitVec 5) (s : State) : Host.Outcome State Fault Refusal := finish s (s.tkwWord (tokOf c.toNat) n.toNat)

/-- What a word waits for that the watchdog ends, with TREC2: a token (R105), and in a handler a result of a stopped queue, or the
emptiness of the queues (R170). -/
def Strand.watched (st : Strand) : Option Nat :=
  let stopped : Bool := st.vq.stopped || st.dq.stopped || st.cq.stopped
  match st.stall with
  | some (.token t) => some (tokNum t)
  | some .mailbox | some .drain => if st.intrap && stopped then some 0 else none
  | _ => none

/-- R29, R102: the word at the boundary need not wait any longer: its counter lets it go on, its mailbox value has come, or the queues
are empty. -/
def State.tokenThere (s : State) : Bool :=
  match s.nextFetch with
  | .ok i =>
    let st := s.st.headsFirst
    (match s.st.stepped i with
     | .tkw c n => decide (n.toNat ≤ st.tok.get (tokOf c.toNat))
     | .tkp c n => decide (st.tok.get (tokOf c.toNat) + n.toNat ≤ 15)
     | .srd _ _ => !s.st.mbPending
     | .swr _ _ => s.st.queuesEmpty
     | _ => false)
  | .error _ => false

/-- TKW_WATCHDOG (R105, R170, R198): the word at the boundary has waited for the watchdog interval and still waits; no counter
changes. -/
def execTkwWatchdog (s : State) : Host.Outcome State Fault Refusal :=
  match s.st.watched with
  | some n =>
    .next (if s.st.live && s.st.park.isNone && decide (s.st.stallAt + Config.watchdog ≤ s.st.cyc) && !s.tokenThere then
      s.seqFault ⟨0x0E, word n, 0⟩ else s)
  | none => .next s

end Sys2Proof.Machine
end

