-- ==== Sys2Proof/Machine/Dispatch.lean ====
section
/-! DEFINITION. The dispatch: one arm per constructor of `Instr`, each one direct call of its meaning. -/

namespace Sys2Proof.Machine

/-- Executes an instruction or an event. -/
def exec (i : Instr) (s : State) : Host.Outcome State Fault Refusal :=
  match i with
  | .lui d imm => Sys2Proof.Machine.execLui d imm s
  | .fli d imm => Sys2Proof.Machine.execFli d imm s
  | .addpc d imm => Sys2Proof.Machine.execAddpc d imm s
  | .j imm => Sys2Proof.Machine.execJ imm s
  | .call imm => Sys2Proof.Machine.execCall imm s
  | .rep c b a n => Sys2Proof.Machine.execRep c b a n s
  | .loopb r v d c l => Sys2Proof.Machine.execLoopb r v d c l s
  | .add d a b => Sys2Proof.Machine.execAdd d a b s
  | .sub d a b => Sys2Proof.Machine.execSub d a b s
  | .mul d a b => Sys2Proof.Machine.execMul d a b s
  | .mulh d a b => Sys2Proof.Machine.execMulh d a b s
  | .mulhn d a b => Sys2Proof.Machine.execMulhn d a b s
  | .div d a b => Sys2Proof.Machine.execDiv d a b s
  | .divn d a b => Sys2Proof.Machine.execDivn d a b s
  | .rem d a b => Sys2Proof.Machine.execRem d a b s
  | .remn d a b => Sys2Proof.Machine.execRemn d a b s
  | .and d a b => Sys2Proof.Machine.execAnd d a b s
  | .or d a b => Sys2Proof.Machine.execOr d a b s
  | .xor d a b => Sys2Proof.Machine.execXor d a b s
  | .andn d a b => Sys2Proof.Machine.execAndn d a b s
  | .shl d a b => Sys2Proof.Machine.execShl d a b s
  | .shr d a b => Sys2Proof.Machine.execShr d a b s
  | .sra d a b => Sys2Proof.Machine.execSra d a b s
  | .min d a b => Sys2Proof.Machine.execMin d a b s
  | .minn d a b => Sys2Proof.Machine.execMinn d a b s
  | .max d a b => Sys2Proof.Machine.execMax d a b s
  | .maxn d a b => Sys2Proof.Machine.execMaxn d a b s
  | .seq d a b => Sys2Proof.Machine.execSeq d a b s
  | .slt d a b => Sys2Proof.Machine.execSlt d a b s
  | .sltn d a b => Sys2Proof.Machine.execSltn d a b s
  | .clz d a => Sys2Proof.Machine.execClz d a s
  | .ctz d a => Sys2Proof.Machine.execCtz d a s
  | .popc d a => Sys2Proof.Machine.execPopc d a s
  | .addw d a b => Sys2Proof.Machine.execAddw d a b s
  | .subw d a b => Sys2Proof.Machine.execSubw d a b s
  | .mulw d a b => Sys2Proof.Machine.execMulw d a b s
  | .addi d a imm => Sys2Proof.Machine.execAddi d a imm s
  | .andi d a imm => Sys2Proof.Machine.execAndi d a imm s
  | .ori d a imm => Sys2Proof.Machine.execOri d a imm s
  | .xori d a imm => Sys2Proof.Machine.execXori d a imm s
  | .shli d a n => Sys2Proof.Machine.execShli d a n s
  | .shri d a n => Sys2Proof.Machine.execShri d a n s
  | .srai d a n => Sys2Proof.Machine.execSrai d a n s
  | .slti d a imm => Sys2Proof.Machine.execSlti d a imm s
  | .sltni d a imm => Sys2Proof.Machine.execSltni d a imm s
  | .ld d a z o => Sys2Proof.Machine.execLd d a z o s
  | .st src a z o => Sys2Proof.Machine.execSt src a z o s
  | .amoAdd d a b c r => Sys2Proof.Machine.execAmoAdd d a b c r s
  | .amoAnd d a b c r => Sys2Proof.Machine.execAmoAnd d a b c r s
  | .amoOr d a b c r => Sys2Proof.Machine.execAmoOr d a b c r s
  | .amoXor d a b c r => Sys2Proof.Machine.execAmoXor d a b c r s
  | .amoMin d a b c r => Sys2Proof.Machine.execAmoMin d a b c r s
  | .amoMax d a b c r => Sys2Proof.Machine.execAmoMax d a b c r s
  | .amoMinn d a b c r => Sys2Proof.Machine.execAmoMinn d a b c r s
  | .amoMaxn d a b c r => Sys2Proof.Machine.execAmoMaxn d a b c r s
  | .amoSwap d a b c r => Sys2Proof.Machine.execAmoSwap d a b c r s
  | .amoCas d a b c r => Sys2Proof.Machine.execAmoCas d a b c r s
  | .amoFadd32 d a b c r => Sys2Proof.Machine.execAmoFadd32 d a b c r s
  | .amoAddw d a b c r => Sys2Proof.Machine.execAmoAddw d a b c r s
  | .amoCasw d a b c r => Sys2Proof.Machine.execAmoCasw d a b c r s
  | .amoSwapw d a b c r => Sys2Proof.Machine.execAmoSwapw d a b c r s
  | .beq a b imm => Sys2Proof.Machine.execBeq a b imm s
  | .bne a b imm => Sys2Proof.Machine.execBne a b imm s
  | .blt a b imm => Sys2Proof.Machine.execBlt a b imm s
  | .bge a b imm => Sys2Proof.Machine.execBge a b imm s
  | .bltn a b imm => Sys2Proof.Machine.execBltn a b imm s
  | .bgen a b imm => Sys2Proof.Machine.execBgen a b imm s
  | .jr t => Sys2Proof.Machine.execJr t s
  | .callr t => Sys2Proof.Machine.execCallr t s
  | .ret => Sys2Proof.Machine.execRet s
  | .lit d lit => Sys2Proof.Machine.execLit d lit s
  | .litn d lit => Sys2Proof.Machine.execLitn d lit s
  | .lith d lit => Sys2Proof.Machine.execLith d lit s
  | .gset src a b c => Sys2Proof.Machine.execGset src a b c s
  | .gsetUnres src => Sys2Proof.Machine.execGsetUnres src s
  | .tkp c n => Sys2Proof.Machine.execTkp c n s
  | .tkw c n => Sys2Proof.Machine.execTkw c n s
  | .trap n => Sys2Proof.Machine.execTrap n s
  | .eretResume => Sys2Proof.Machine.execEretResume s
  | .eretDiscard => Sys2Proof.Machine.execEretDiscard s
  | .eretEnd => Sys2Proof.Machine.execEretEnd s
  | .srd d imm => Sys2Proof.Machine.execSrd d imm s
  | .swr src imm => Sys2Proof.Machine.execSwr src imm s
  | .fence k c => Sys2Proof.Machine.execFence k c s
  | .nop => Sys2Proof.Machine.execNop s
  | .refdDefer src => Sys2Proof.Machine.execRefdDefer src s
  | .refdRelease src => Sys2Proof.Machine.execRefdRelease src s
  | .refdRefreshNow src => Sys2Proof.Machine.execRefdRefreshNow src s
  | .inval src => Sys2Proof.Machine.execInval src s
  | .wfe => Sys2Proof.Machine.execWfe s
  | .fork a => Sys2Proof.Machine.execFork a s
  | .join => Sys2Proof.Machine.execJoin s
  | .syncs n => Sys2Proof.Machine.execSyncs n s
  | .syncw n => Sys2Proof.Machine.execSyncw n s
  | .syncc n => Sys2Proof.Machine.execSyncc n s
  | .fid d => Sys2Proof.Machine.execFid d s
  | .spawn d src => Sys2Proof.Machine.execSpawn d src s
  | .signal src => Sys2Proof.Machine.execSignal src s
  | .tend => Sys2Proof.Machine.execTend s
  | .bar => Sys2Proof.Machine.execBar s
  | .barw d src => Sys2Proof.Machine.execBarw d src s
  | .bara => Sys2Proof.Machine.execBara s
  | .yield => Sys2Proof.Machine.execYield s
  | .wear d => Sys2Proof.Machine.execWear d s
  | .enter v => Sys2Proof.Machine.execEnter v s
  | .cb d n => Sys2Proof.Machine.execCb d n s
  | .loops r l => Sys2Proof.Machine.execLoops r l s
  | .vadd t c d a b l y => Sys2Proof.Machine.execVadd t c d a b l y s
  | .vaddBcast t c d a src => Sys2Proof.Machine.execVaddBcast t c d a src s
  | .vsub t c d a b l y => Sys2Proof.Machine.execVsub t c d a b l y s
  | .vsubBcast t c d a src => Sys2Proof.Machine.execVsubBcast t c d a src s
  | .vmul t c d a b l y => Sys2Proof.Machine.execVmul t c d a b l y s
  | .vmulBcast t c d a src => Sys2Proof.Machine.execVmulBcast t c d a src s
  | .vmulh t c d a b l y => Sys2Proof.Machine.execVmulh t c d a b l y s
  | .vmulhBcast t c d a src => Sys2Proof.Machine.execVmulhBcast t c d a src s
  | .vmulhn t c d a b l y => Sys2Proof.Machine.execVmulhn t c d a b l y s
  | .vmulhnBcast t c d a src => Sys2Proof.Machine.execVmulhnBcast t c d a src s
  | .vmad t c d a b l y => Sys2Proof.Machine.execVmad t c d a b l y s
  | .vmadBcast t c d a src => Sys2Proof.Machine.execVmadBcast t c d a src s
  | .vadds t c d a b l y => Sys2Proof.Machine.execVadds t c d a b l y s
  | .vaddsBcast t c d a src => Sys2Proof.Machine.execVaddsBcast t c d a src s
  | .vsubs t c d a b l y => Sys2Proof.Machine.execVsubs t c d a b l y s
  | .vsubsBcast t c d a src => Sys2Proof.Machine.execVsubsBcast t c d a src s
  | .vaddsn t c d a b l y => Sys2Proof.Machine.execVaddsn t c d a b l y s
  | .vaddsnBcast t c d a src => Sys2Proof.Machine.execVaddsnBcast t c d a src s
  | .vsubsn t c d a b l y => Sys2Proof.Machine.execVsubsn t c d a b l y s
  | .vsubsnBcast t c d a src => Sys2Proof.Machine.execVsubsnBcast t c d a src s
  | .vmin t c d a b l y => Sys2Proof.Machine.execVmin t c d a b l y s
  | .vminBcast t c d a src => Sys2Proof.Machine.execVminBcast t c d a src s
  | .vmax t c d a b l y => Sys2Proof.Machine.execVmax t c d a b l y s
  | .vmaxBcast t c d a src => Sys2Proof.Machine.execVmaxBcast t c d a src s
  | .vminn t c d a b l y => Sys2Proof.Machine.execVminn t c d a b l y s
  | .vminnBcast t c d a src => Sys2Proof.Machine.execVminnBcast t c d a src s
  | .vmaxn t c d a b l y => Sys2Proof.Machine.execVmaxn t c d a b l y s
  | .vmaxnBcast t c d a src => Sys2Proof.Machine.execVmaxnBcast t c d a src s
  | .vabs t c d a l y => Sys2Proof.Machine.execVabs t c d a l y s
  | .vand t c d a b l y => Sys2Proof.Machine.execVand t c d a b l y s
  | .vandBcast t c d a src => Sys2Proof.Machine.execVandBcast t c d a src s
  | .vor t c d a b l y => Sys2Proof.Machine.execVor t c d a b l y s
  | .vorBcast t c d a src => Sys2Proof.Machine.execVorBcast t c d a src s
  | .vxor t c d a b l y => Sys2Proof.Machine.execVxor t c d a b l y s
  | .vxorBcast t c d a src => Sys2Proof.Machine.execVxorBcast t c d a src s
  | .vandn t c d a b l y => Sys2Proof.Machine.execVandn t c d a b l y s
  | .vandnBcast t c d a src => Sys2Proof.Machine.execVandnBcast t c d a src s
  | .vshl t c d a b l y => Sys2Proof.Machine.execVshl t c d a b l y s
  | .vshlBcast t c d a src => Sys2Proof.Machine.execVshlBcast t c d a src s
  | .vshr t c d a b l y => Sys2Proof.Machine.execVshr t c d a b l y s
  | .vshrBcast t c d a src => Sys2Proof.Machine.execVshrBcast t c d a src s
  | .vsra t c d a b l y => Sys2Proof.Machine.execVsra t c d a b l y s
  | .vsraBcast t c d a src => Sys2Proof.Machine.execVsraBcast t c d a src s
  | .vclz t c d a l y => Sys2Proof.Machine.execVclz t c d a l y s
  | .vpopc t c d a l y => Sys2Proof.Machine.execVpopc t c d a l y s
  | .vcmp t c d a b l y => Sys2Proof.Machine.execVcmp t c d a b l y s
  | .vcmpn t c d a b l y => Sys2Proof.Machine.execVcmpn t c d a b l y s
  | .fadd t c d a b l y => Sys2Proof.Machine.execFadd t c d a b l y s
  | .faddBcast t c d a src => Sys2Proof.Machine.execFaddBcast t c d a src s
  | .fsub t c d a b l y => Sys2Proof.Machine.execFsub t c d a b l y s
  | .fsubBcast t c d a src => Sys2Proof.Machine.execFsubBcast t c d a src s
  | .fmul t c d a b l y => Sys2Proof.Machine.execFmul t c d a b l y s
  | .fmulBcast t c d a src => Sys2Proof.Machine.execFmulBcast t c d a src s
  | .ffma t c d a b l y => Sys2Proof.Machine.execFfma t c d a b l y s
  | .ffmaBcast t c d a src => Sys2Proof.Machine.execFfmaBcast t c d a src s
  | .ffms t c d a b l y => Sys2Proof.Machine.execFfms t c d a b l y s
  | .ffmsBcast t c d a src => Sys2Proof.Machine.execFfmsBcast t c d a src s
  | .fmin t c d a b l y => Sys2Proof.Machine.execFmin t c d a b l y s
  | .fminBcast t c d a src => Sys2Proof.Machine.execFminBcast t c d a src s
  | .fmax t c d a b l y => Sys2Proof.Machine.execFmax t c d a b l y s
  | .fmaxBcast t c d a src => Sys2Proof.Machine.execFmaxBcast t c d a src s
  | .fabs t c d a l y => Sys2Proof.Machine.execFabs t c d a l y s
  | .fneg t c d a l y => Sys2Proof.Machine.execFneg t c d a l y s
  | .frcp t c d a l y => Sys2Proof.Machine.execFrcp t c d a l y s
  | .frsq t c d a l y => Sys2Proof.Machine.execFrsq t c d a l y s
  | .fexp2 t c d a l y => Sys2Proof.Machine.execFexp2 t c d a l y s
  | .flog2 t c d a l y => Sys2Proof.Machine.execFlog2 t c d a l y s
  | .fcmp t c d a b l y => Sys2Proof.Machine.execFcmp t c d a b l y s
  | .fclass t c d a l y => Sys2Proof.Machine.execFclass t c d a l y s
  | .vcvt t c d a b l => Sys2Proof.Machine.execVcvt t c d a b l s
  | .vscale t c d a b l y => Sys2Proof.Machine.execVscale t c d a b l y s
  | .vqpack t c d a b l => Sys2Proof.Machine.execVqpack t c d a b l s
  | .vqunpk t c d a b l => Sys2Proof.Machine.execVqunpk t c d a b l s
  | .vsel t c d a b l => Sys2Proof.Machine.execVsel t c d a b l s
  | .vperm t c d a b l y => Sys2Proof.Machine.execVperm t c d a b l y s
  | .vbcasts t c d a b l => Sys2Proof.Machine.execVbcasts t c d a b l s
  | .vredadd t c d a b l y => Sys2Proof.Machine.execVredadd t c d a b l y s
  | .vredmax t c d a b l y => Sys2Proof.Machine.execVredmax t c d a b l y s
  | .vshf t c d a b l => Sys2Proof.Machine.execVshf t c d a b l s
  | .vxtr t c a b l => Sys2Proof.Machine.execVxtr t c a b l s
  | .plog t c d a b l => Sys2Proof.Machine.execPlog t c d a b l s
  | .pset t c d a b l => Sys2Proof.Machine.execPset t c d a b l s
  | .ptst t c a => Sys2Proof.Machine.execPtst t c a s
  | .tld t c d a b l => Sys2Proof.Machine.execTld t c d a b l s
  | .tst t c d a b l => Sys2Proof.Machine.execTst t c d a b l s
  | .tldx t c d a b l y => Sys2Proof.Machine.execTldx t c d a b l y s
  | .tstx t c d a b l y => Sys2Proof.Machine.execTstx t c d a b l y s
  | .gld t c d a b y => Sys2Proof.Machine.execGld t c d a b y s
  | .gst t c d a b y => Sys2Proof.Machine.execGst t c d a b y s
  | .gldp t c d a b y => Sys2Proof.Machine.execGldp t c d a b y s
  | .gamoAdd t c d a b y => Sys2Proof.Machine.execGamoAdd t c d a b y s
  | .gamoMin t c d a b => Sys2Proof.Machine.execGamoMin t c d a b s
  | .gamoMax t c d a b => Sys2Proof.Machine.execGamoMax t c d a b s
  | .gamoSwap t c d a b => Sys2Proof.Machine.execGamoSwap t c d a b s
  | .vnop t c => Sys2Proof.Machine.execVnop t c s
  | .vfence t c => Sys2Proof.Machine.execVfence t c s
  | .tcfg t x g h k => Sys2Proof.Machine.execTcfg t x g h k s
  | .tzero t x g a => Sys2Proof.Machine.execTzero t x g a s
  | .dot t x g c a b src => Sys2Proof.Machine.execDot t x g c a b src s
  | .dotc t x g c a z b src => Sys2Proof.Machine.execDotc t x g c a z b src s
  | .sbppt t x g p w r => Sys2Proof.Machine.execSbppt t x g p w r s
  | .sbpsc t x g p a src => Sys2Proof.Machine.execSbpsc t x g p a src s
  | .sbpma t x g c p r => Sys2Proof.Machine.execSbpma t x g c p r s
  | .sbpd t x g c w a src => Sys2Proof.Machine.execSbpd t x g c w a src s
  | .tout t x g c a f e => Sys2Proof.Machine.execTout t x g c a f e s
  | .tin t x g c a f => Sys2Proof.Machine.execTin t x g c a f s
  | .fmtw t x g n a b o c => Sys2Proof.Machine.execFmtw t x g n a b o c s
  | .tdef t g l a => Sys2Proof.Machine.execTdef t g l a s
  | .cpy t f g l a b d p => Sys2Proof.Machine.execCpy t f g l a b d p s
  | .cpyb t f g l a b p => Sys2Proof.Machine.execCpyb t f g l a b p s
  | .cpyx t f g l a b => Sys2Proof.Machine.execCpyx t f g l a b s
  | .cpyr t f g l a b d p => Sys2Proof.Machine.execCpyr t f g l a b d p s
  | .cpye t f g a b c h p d => Sys2Proof.Machine.execCpye t f g a b c h p d s
  | .trel t g l => Sys2Proof.Machine.execTrel t g l s
  | .qbind t g q a b c => Sys2Proof.Machine.execQbind t g q a b c s
  | .qunb t g q => Sys2Proof.Machine.execQunb t g q s
  | .qfence t g m src => Sys2Proof.Machine.execQfence t g m src s
  | .vlogClaim d => Sys2Proof.Machine.execVlogClaim d s
  | .mbRead d => Sys2Proof.Machine.execMbRead d s
  | .engineStateWrite imm src => Sys2Proof.Machine.execEngineStateWrite imm src s
  | .cbaseWrite src => Sys2Proof.Machine.execCbaseWrite src s
  | .fqheadClaim d => Sys2Proof.Machine.execFqheadClaim d s
  | .fqCompleteResume src => Sys2Proof.Machine.execFqCompleteResume src s
  | .fqCompleteFault src => Sys2Proof.Machine.execFqCompleteFault src s
  | .fqCompleteKill src => Sys2Proof.Machine.execFqCompleteKill src s
  | .fqstatWrite src => Sys2Proof.Machine.execFqstatWrite src s
  | .registerWrite imm src => Sys2Proof.Machine.execRegisterWrite imm src s
  | .creqAck cell bank => Sys2Proof.Machine.execCreqAck cell bank s
  | .uniso same => Sys2Proof.Machine.execUniso same s
  | .controlBlockWrite off v => Sys2Proof.Machine.execControlBlockWrite off v s
  | .spillTransfer => Sys2Proof.Machine.execSpillTransfer s
  | .vIssue gap => Sys2Proof.Machine.execVIssue gap s
  | .vPerformed => Sys2Proof.Machine.execVPerformed s
  | .dPerformed => Sys2Proof.Machine.execDPerformed s
  | .copyBegin => Sys2Proof.Machine.execCopyBegin s
  | .copyPerformed => Sys2Proof.Machine.execCopyPerformed s
  | .copyDataFault k landed => Sys2Proof.Machine.execCopyDataFault k landed s
  | .commandDiscard q => Sys2Proof.Machine.execCommandDiscard q s
  | .guardResolutionVisible => Sys2Proof.Machine.execGuardResolutionVisible s
  | .loopbIteration q => Sys2Proof.Machine.execLoopbIteration q s
  | .streamGroupDecode q => Sys2Proof.Machine.execStreamGroupDecode q s
  | .gather => Sys2Proof.Machine.execGather s
  | .gatherPartnerTimeout => Sys2Proof.Machine.execGatherPartnerTimeout s
  | .tokenWatchdog q => Sys2Proof.Machine.execTokenWatchdog q s
  | .tkwWatchdog => Sys2Proof.Machine.execTkwWatchdog s
  | .tileWaitWatchdog => Sys2Proof.Machine.execTileWaitWatchdog s
  | .wfeTimeout => Sys2Proof.Machine.execWfeTimeout s
  | .trapEntry => Sys2Proof.Machine.execTrapEntry s
  | .checkerMismatch => Sys2Proof.Machine.execCheckerMismatch s
  | .checkerTimeout => Sys2Proof.Machine.execCheckerTimeout s
  | .dPoisonConsumed => Sys2Proof.Machine.execDPoisonConsumed s
  | .windowRollback => Sys2Proof.Machine.execWindowRollback s
  | .tileRefetch => Sys2Proof.Machine.execTileRefetch s
  | .pageWalk cluster part va => Sys2Proof.Machine.execPageWalk cluster part va s
  | .heldFaultPost cluster => Sys2Proof.Machine.execHeldFaultPost cluster s
  | .handlerSignal part => Sys2Proof.Machine.execHandlerSignal part s
  | .outboundDrain die core n => Sys2Proof.Machine.execOutboundDrain die core n s
  | .homeWriteMerge home => Sys2Proof.Machine.execHomeWriteMerge home s
  | .homeAtomic n => Sys2Proof.Machine.execHomeAtomic n s
  | .routerMerge m n => Sys2Proof.Machine.execRouterMerge m n s
  | .mergedReplySplit => Sys2Proof.Machine.execMergedReplySplit s
  | .barrierArrival => Sys2Proof.Machine.execBarrierArrival s
  | .barwLimitExpiry => Sys2Proof.Machine.execBarwLimitExpiry s
  | .invalMarker => Sys2Proof.Machine.execInvalMarker s
  | .schedulerDecision die part => Sys2Proof.Machine.execSchedulerDecision die part s
  | .dispatchComplete => Sys2Proof.Machine.execDispatchComplete s
  | .startReached n => Sys2Proof.Machine.execStartReached n s
  | .deadlineMiss n => Sys2Proof.Machine.execDeadlineMiss n s
  | .pressSave => Sys2Proof.Machine.execPressSave s
  | .pressSaveDone => Sys2Proof.Machine.execPressSaveDone s
  | .stressUpdate die core bti em => Sys2Proof.Machine.execStressUpdate die core bti em s
  | .lifetimeRecordWrite => Sys2Proof.Machine.execLifetimeRecordWrite s
  | .calendarSlot channel slot => Sys2Proof.Machine.execCalendarSlot channel slot s
  | .burstLand corrected bad => Sys2Proof.Machine.execBurstLand corrected bad s
  | .hbmLinkCrcFail n => Sys2Proof.Machine.execHbmLinkCrcFail n s
  | .channelRetrainDone channel ok => Sys2Proof.Machine.execChannelRetrainDone channel ok s
  | .refreshDue cell bank => Sys2Proof.Machine.execRefreshDue cell bank s
  | .refreshBurst cell bank corrected bad => Sys2Proof.Machine.execRefreshBurst cell bank corrected bad s
  | .refreshGuard cell bank => Sys2Proof.Machine.execRefreshGuard cell bank s
  | .cellRemap die core cell => Sys2Proof.Machine.execCellRemap die core cell s
  | .d2dFlitCrcFail => Sys2Proof.Machine.execD2dFlitCrcFail s
  | .d2dRetrainDone ok => Sys2Proof.Machine.execD2dRetrainDone ok s
  | .expanderPoisonResponse n => Sys2Proof.Machine.execExpanderPoisonResponse n s
  | .expanderTimeout n => Sys2Proof.Machine.execExpanderTimeout n s
  | .write h va len data => Sys2Proof.Machine.execWrite h va len data s
  | .read h va len => Sys2Proof.Machine.execRead h va len s
  | .launch h va image => Sys2Proof.Machine.execLaunch h va image s
  | .load h va len => Sys2Proof.Machine.execLoad h va len s
  | .unload h handle => Sys2Proof.Machine.execUnload h handle s
  | .transportSignal h va => Sys2Proof.Machine.execTransportSignal h va s
  | .sequenceGapTimeout session => Sys2Proof.Machine.execSequenceGapTimeout session s
  | .sessionOpen session part chain => Sys2Proof.Machine.execSessionOpen session part chain s
  | .partitionConfigure c => Sys2Proof.Machine.execPartitionConfigure c s
  | .partitionReset part => Sys2Proof.Machine.execPartitionReset part s
  | .warmReset => Sys2Proof.Machine.execWarmReset s
  | .coldReset b => Sys2Proof.Machine.execColdReset b s
  | .quote nonce => Sys2Proof.Machine.execQuote nonce s
  | .governorStep power tj => Sys2Proof.Machine.execGovernorStep power tj s
  | .thermalTrip => Sys2Proof.Machine.execThermalTrip s
  | .remoteRequest r => Sys2Proof.Machine.execRemoteRequest r s
  | .scaleupLinkCrcFail link => Sys2Proof.Machine.execScaleupLinkCrcFail link s
  | .scaleupRetrainDone link ok => Sys2Proof.Machine.execScaleupRetrainDone link ok s
  | .reachabilityChange pkg up => Sys2Proof.Machine.execReachabilityChange pkg up s
  | .fabricArrivalMsg dom pkg n => Sys2Proof.Machine.execFabricArrivalMsg dom pkg n s
  | .fabricReleaseMsg dom => Sys2Proof.Machine.execFabricReleaseMsg dom s
  | .ptpMessage grand offset => Sys2Proof.Machine.execPtpMessage grand offset s
  | .holdover => Sys2Proof.Machine.execHoldover s
  | .loadValueReturn n => Sys2Proof.Machine.execLoadValueReturn n s
  | .powerFailure => Sys2Proof.Machine.execPowerFailure s
  | .switchFailure sw => Sys2Proof.Machine.execSwitchFailure sw s
  | .preemptRequest => Sys2Proof.Machine.execPreemptRequest s
  | .measurementExtend reg digest => Sys2Proof.Machine.execMeasurementExtend reg digest s

end Sys2Proof.Machine
end

