-- ==== Sys2Proof/Machine/Place.lean ====
section
/-! DEFINITION. How an instruction comes to stand where the next step fetches it: the load of a code object and a dispatch
on field 0 of core 0 put together (log 10). -/

namespace Sys2Proof.Machine

/-- The physical address the placed text is loaded at. -/
def placeText : Nat := hbmPA 0x10000

/-- The text's address in the partition's space. -/
def placeVA : Nat := 0x10000

/-- The object that holds the placed words: all three profiles, the literal map of its first word. -/
def placeObject (w : W32) : CodeObj :=
  { part := 0, handle := 1, va := placeVA, pa := placeText, words := 16, lits := if isOwner w then [1] else [],
    vProf := 1, dProf := 1, cProf := 1, bankVa := 0, bank := [], symbols := [], binds := [], pages := [] }

/-- Two words stored at the placed text, the state otherwise as a one-field task at its first word. -/
def State.place (s : State) (_nbits w : Nat) : State :=
  let w0 : W32 := BitVec.ofNat 32 w
  let w1 : W32 := BitVec.ofNat 32 (w / 2 ^ 32)
  { s with
    mem := s.mem.putAll placeText (bytesOfWord w0 ++ bytesOfWord w1),
    objects := placeObject w0 :: s.objects,
    agenda := [⟨1, .sequencer⟩],
    st := { s.st with live := true, sid := s.nextSid, pc := word (15 * 2 ^ 60 + placeVA), stall := none, park := none, rollback := none,
                      jobs := [], pend := [], rep := RepState.none, loads := [], spawning := [], afterCall := none, atJoin := false,
                      saveReq := false, saving := false },
    nextSid := s.nextSid + 1,
    hub := { s.hub with powered := true } }

end Sys2Proof.Machine
end

