-- ==== Sys2Proof/Machine/Pump.lean ====
section
/-! DEFINITION. What moves by default while the sequencer waits (log 4): one move of each agent that no physical event drives:
the queues and units of the executing strand, the memory system, the scheduler. -/

namespace Sys2Proof.Machine

/-- The state an event leaves. -/
def State.after (s : State) (f : State → Host.Outcome State Fault Refusal) : State :=
  match f s with
  | .next t => t
  | _ => s

/-- One move of each unit of the executing strand. -/
def State.pumpStrand (s : State) : State :=
  if !s.st.live then s
  else
    let s := if s.st.jobs.isEmpty then s else s.after execSpillTransfer
    let s := s.after execVPerformed
    let s := if s.st.vq.isEmpty then s else s.after (execVIssue 0)
    let s := s.after execDPerformed
    let s := s.after execDPoisonConsumed
    let s := [0, 1, 2, 3].foldl (fun s q => s.after (execStreamGroupDecode q)) s
    let s := s.after execCopyPerformed
    let s := s.after execCopyBegin
    let s := s.after execGather
    let s := s.after execWindowRollback
    let s := s.after execTileRefetch
    let s := s.after execBarrierArrival
    let s := s.after execPressSave
    s.after execPressSaveDone

/-- The waits of the executing strand that have lasted the watchdog interval (R105, R142, R198, R221). -/
def State.pumpWatchdogs (s : State) : State :=
  if !s.st.live then s
  else
    let s := s.after execTkwWatchdog
    let s := [EngineQ.V, .D, .C].foldl (fun s q => s.after (execTokenWatchdog q)) s
    let s := s.after execTileWaitWatchdog
    s.after execGatherPartnerTimeout

/-- The slot that carries the first waiting burst of each channel is served, and a burst whose moment this is lands. -/
def State.pumpBursts (s : State) : State :=
  let s := ((s.bursts.filter fun b => b.slot.isNone).map fun b => (paChannel b.pa, slotOf (paChannel b.pa) b.core)).dedup.foldl
    (fun s e => s.after (execCalendarSlot e.1 e.2)) s
  s.after (execBurstLand 0 [])

/-- Buffered writes leave, queued writes merge, loads and atomics return. -/
def State.pumpMemory (s : State) : State :=
  let s := (s.outbound.map (·.1)).foldl (fun s c => s.after (execOutboundDrain (c / 256) (c % 256) 0)) s
  let s := (s.homeq.map (·.1)).foldl (fun s h => s.after (execHomeWriteMerge h)) s
  let s := if s.st.awaiting then s.after (execLoadValueReturn 0) else s
  let s := s.after (execHomeAtomic 0)
  s.after execMergedReplySplit

/-- A burst of every pass that runs (R346). -/
def State.pumpLehr (s : State) : State :=
  (s.banks.filter fun e => e.2.running).foldl (fun s e => s.after (execRefreshBurst (e.1 / 16) (e.1 % 16) 0 [])) s

/-- The scheduler of each die and partition with records. -/
def State.pumpScheduler (s : State) : State :=
  let s := (List.range s.recs.length).foldl (fun s n => (s.after (execStartReached n)).after (execDeadlineMiss n)) s
  let s := ((s.recs.filter fun r => r.state == 2 || r.state == 5).map fun r => (r.die, r.part)).dedup.foldl
    (fun s e => s.after (execSchedulerDecision e.1 e.2)) s
  s.after execDispatchComplete

/-- Held faults that may take an entry. -/
def State.pumpFaults (s : State) : State := (s.held.map (·.1)).foldl (fun s c => s.after (execHeldFaultPost c)) s

/-- The next live strand becomes the executing one. -/
def State.rotate (s : State) : State :=
  match s.others with
  | [] => s
  | t :: _ => s.select t.sid

/-- Sessions with a gap in their sequence numbers (R396). -/
def State.pumpSessions (s : State) : State := (s.sessions.map (·.num)).foldl (fun s n => s.after (execSequenceGapTimeout n)) s

/-- One move of each agent behind a waiting sequencer. -/
def State.pump (s : State) : State :=
  s.pumpStrand.pumpWatchdogs.pumpBursts.pumpMemory.pumpLehr.pumpFaults.pumpScheduler.pumpSessions.rotate

end Sys2Proof.Machine
end

