-- ==== Sys2Proof/Machine/Turn.lean ====
section
/-! DEFINITION. The turn of a step (log 4): the time that passes, whose turn it is, and, for the sequencer, the waits that
come before a word (R164-R166). -/

namespace Sys2Proof.Machine

/-- R426: over (t, t + dt] the servo takes off at most 100 ppm of what is left to correct. -/
def Hub.servo (h : Hub) (t dt : Nat) : Hub :=
  let k : Int := ((t + dt) / 10000 - t / 10000 : Nat)
  let c := max (-k) (min k h.timeCorr)
  { h with timeOff := h.timeOff + c, timeCorr := h.timeCorr - c }

/-- R348: the guard of every deferred bank that has come to it. -/
def State.guards (s : State) : State :=
  s.banks.foldl (fun s e => if e.2.deferred && s.bankAtGuard (e.1 / 16) e.2 then s.forcePass (e.1 / 16) (e.1 % 16) else s) s

/-- dt nanoseconds pass: clocks and charges go on, the bursts whose moment goes by land (R341), a deferral ends at its guard, due banks are
refreshed (R346), a time base that hears nothing runs free (R426), and the lifetime records are stored every 60 s (R354). -/
def State.tick (s : State) (dt : Nat) : State :=
  if dt == 0 then s
  else
    let t := s.time
    let s := (s.strands).foldl (fun s st => s.chargeTask st t dt) s
    let core (st : Strand) : CoreState := s.coreAt (coreIndex st.die st.core)
    let clock (st : Strand) : Nat := if 1 ≤ (core st).stage then min 1525 s.hub.clock else s.hub.clock
    let was := s.now
    let s := State.modAll { s with time := t + dt, hub := s.hub.servo t dt } fun st => st.tick (clock st) (core st).stress t dt
    let s := (s.landBursts.guards.lehrTick was).holdover
    if s.hub.lastStore + 60000000000 ≤ s.time then s.storeRecords else s

/-- What a turn of the executing strand's sequencer comes to: nothing more, a word to run, a word that only its own fault lets
act, a stopped package. -/
inductive Plan where
  | done (s : State)
  | run (i : Instr) (s : State)
  | probe (i : Instr) (s : State)
  | off
deriving DecidableEq, Repr

/-- The sequencer waits for an outstanding register, or for the spill engine. -/
def State.stalls (s : State) (w : Stall) : Plan := .done { s with st := { s.st with stall := some w } }

/-- The word at PC: its fetch, its registers, and, where a pre-emption is requested at the boundary before it, only its own
fault (R166); else it executes, with the steps of an active REP. -/
def State.wordTurn (s : State) : Plan :=
  match s.nextFetch with
  | .error (c, a) => .done (s.seqFault ⟨c, a, 0⟩)
  | .ok i =>
    if s.st.interlocked i then s.stalls .interlock
    else if !s.st.saveReq || s.st.afterCall.isSome || s.st.inWfe then .run (s.st.stepped i) s
    else if s.trapHeld then s.stalls .spill
    else .probe (s.st.stepped i) s

/-- A turn of the sequencer (R164-R166): nothing without a running strand, nor ahead of another access whose page came first (R312); an
answer the word waits for holds it; then the boundary: a pending fault, the transfers of the spill engine, the press, the word. -/
def State.seqTurn (s : State) : Plan :=
  let st := s.st
  if !st.live || st.park.isSome || st.atJoin || st.saving || st.rollback.isSome || s.resumeWaits 0 then .done s
  else if st.loads.any (·.held) then s.stalls .interlock
  else
    match st.boundaryPend with
    | some p => if s.trapHeld then s.stalls .spill else .done ((s.resumed 0).takePend p)
    | none =>
      if !st.jobs.isEmpty then s.stalls .spill
      else if st.saveReq && st.boundary then .done s
      else (s.resumed 0).wordTurn

/-- R166: a word at which the press waits has acted only if it took a fault of its own: a trap, or in a handler the end of the
task (R167); TRAP faults behind itself. Else the strand stands at the boundary before it. -/
def State.probed (s t : State) (i : Instr) : State :=
  let died : Bool := !t.st.live && (t.part s.st.part).flog.next != (s.part s.st.part).flog.next &&
    bf (SMap.get ⟨0, 0, 0, 0⟩ (t.part s.st.part).flog.slots (s.part s.st.part).flog.next).w0 20 4 == 1
  let behind : Bool := match i with | .trap _ => true | _ => false
  if !behind && ((t.st.live && t.st.intrap && !s.st.intrap) || died) then t else { s with st := { s.st with boundary := true } }

/-- Whether the default turn leaves the other agents still (log 4): the sequencer waits for nothing, and it is not the
sixteenth nanosecond, in which they always move. -/
def State.keepsTurn (s : State) : Bool :=
  s.st.live && s.st.stall.isNone && s.st.park.isNone && s.st.jobs.isEmpty && !s.st.saveReq && s.st.rollback.isNone && !s.st.atJoin && s.time % 16 != 0

/-- Whose turn it is: the head of the agenda, or by default the sequencer, behind a move of the other agents while it
waits and in every sixteenth nanosecond. An instruction word in the agenda is no turn: the sequencer alone executes
words. -/
def State.plan (s : State) : Plan :=
  match s.agenda with
  | t :: rest =>
    let s1 := State.tick { s with agenda := rest } t.dt
    match t.act with
    | .event i =>
      if !s.hub.powered then (match i with | .coldReset _ => .run i s1 | _ => .off)
      else if i.isEvent then .run i s1 else .done s1
    | .select n => if s.hub.powered then .done (s1.select n) else .off
    | .sequencer => if s.hub.powered then s1.seqTurn else .off
  | [] =>
    if !s.hub.powered then .off
    else
      let s1 := s.tick 1
      if s1.keepsTurn then s1.seqTurn else State.seqTurn s1.pump

end Sys2Proof.Machine
end

