-- ==== Sys2Proof/Machine/Step.lean ====
section
/-! DEFINITION. One step of the machine, and the placing of an instruction where the next step fetches it. -/

namespace Sys2Proof.Machine

/-- One turn: an agent's move, or one word executed. -/
def step (s : State) : Host.Outcome State Fault Refusal :=
  match s.plan with
  | .done t => .next t
  | .run i t => exec i t
  | .probe i t => match exec i t with | .next u => .next (t.probed u i) | r => r
  | .off => .fault .packageStopped

/-- `s` with an instruction's words, given as the opcode table numbers them, at the executing strand's PC (log 10). -/
def State.withFetchWord (s : State) (nbits w : Nat) : State := s.place nbits w

end Sys2Proof.Machine
end

