-- ==== Sys2Proof/Safety.lean ====
section
/-! DEFINITION. What the statements call a safe state, and the vocabulary they share: a word that completes, one that
writes a register, and what it leaves alone. -/

namespace Sys2Proof.Machine

/-- The invariants of a strand: windows at whole frames and blocks (R12, R16), counters in range (R23), eight guard slots
with g0 true (R22), at most four loop levels (R52). -/
def Strand.inv (st : Strand) : Prop :=
  st.wp < 240 ∧ st.vwp < 124 ∧ 15 ∣ st.wp ∧ 4 ∣ st.vwp ∧ st.guards.length = 8 ∧ (st.guardSlot 0).st = .yes ∧
    (∀ t, st.tok.get t ≤ 15) ∧ st.loops.length ≤ 4

/-- The machine took its step: it neither stopped nor refused. -/
def Stepped (s t : State) : Prop := step s = .next t

/-- `b` is `a` but for the sequencer's place in the text: PC, the loop stack, the REP state, the units an open window and
a re-execution count, why a word waited, and the transfers and the boundary it waited at. -/
def Strand.movedOn (a b : Strand) : Prop :=
  b = { a with pc := b.pc, loops := b.loops, rep := b.rep, win := b.win, reexec := b.reexec, stall := b.stall,
               afterCall := b.afterCall, jobs := [], moved := 0, boundary := false }

/-- Sequential flow past a word of n bytes, outside REP and away from a loop's end: PC moves by n, the loops stay. -/
def Strand.passed (a b : Strand) (n : Nat) : Prop :=
  a.rep.left ≤ 1 → (∀ l ∈ a.loops, a.pc + word n ≠ l.start + word (4 * l.len)) → b.pc = a.pc + word n ∧ b.loops = a.loops

/-- The word i of n bytes completes at s: exec answers a next state in which the executing strand is `st` moved on past
the word, and nothing else of the state has changed. -/
def Completes (s : State) (i : Instr) (st : Strand) (n : Nat) : Prop :=
  ∃ t, exec i s = .next t ∧ t = { s with st := t.st } ∧ st.movedOn t.st ∧ s.st.passed t.st n

/-- The word i of n bytes completes and writes v to rd: the register of that name reads v, every other register of every
window is as it was, and so is all else; s0 stays zero and discards the write (R77). -/
def WritesRd (s : State) (i : Instr) (d : BitVec 5) (v : Word) (n : Nat) : Prop :=
  ∃ m : SMap Word, Completes s i { s.st with sregs := m } n ∧
    ∀ p, SMap.get 0 m p = if d ≠ 0 ∧ p = s.st.phys d.toNat then v else SMap.get 0 s.st.sregs p

/-- The word i of n bytes completes at s, with effects outside its strand that a statement names beside it: the executing
strand is `st` moved on past the word, and no other strand changes. -/
def CompletesIn (s : State) (i : Instr) (st : Strand) (n : Nat) (t : State) : Prop :=
  exec i s = .next t ∧ st.movedOn t.st ∧ s.st.passed t.st n ∧ t.others = s.others

/-- The scalar registers of `st` with the register named d holding v; s0 discards. -/
def SetsRd (st : Strand) (d : BitVec 5) (v : Word) (m : SMap Word) : Prop :=
  ∀ p, SMap.get 0 m p = if d ≠ 0 ∧ p = st.phys d.toNat then v else SMap.get 0 st.sregs p

/-- The word i faults at s: the sequencer takes a precise fault, with the code, and an address for TREC2 (R77, R165). -/
def FaultsAt (s : State) (i : Instr) (code : Nat) (addr : Word) : Prop :=
  exec i s = .next (s.seqFault ⟨code, addr, 0⟩)

/-- The word i waits at s: nothing but the reason of the wait and the cycle it began in changes, and the word is met again (R164). -/
def WaitsAt (s : State) (i : Instr) (w : Stall) : Prop :=
  ∃ c, exec i s = .next { s with st := { s.st with stall := some w, stallAt := c } }

/-- The word i waits at s for the transfers `jobs` of the spill engine (R14, R18): they stand, and nothing else changes. -/
def SpillsAt (s : State) (i : Instr) (jobs : List SpillJob) : Prop :=
  exec i s = .next { s with st := { s.st with jobs := if s.st.jobs.isEmpty then jobs else s.st.jobs, stall := some .spill } }

/-! ### Transfers -/

/-- The word at a task address is text and no literal (R35, R37). -/
def TextWord (s : State) (a : Word) : Prop := ∃ o k, s.textAt s.st.part a = some (o, k) ∧ o.lits.contains k = false

/-- The word at a task address is a literal or a carried word (R37). -/
def MarkedWord (s : State) (a : Word) : Prop := ∃ o k, s.textAt s.st.part a = some (o, k) ∧ o.lits.contains k = true

/-- R52: the loop levels after a taken branch or jump: one whose target lies outside the innermost body [S, S + 4 length) ends that
level, and every enclosing level whose body does not hold the target. -/
def loopsAfter (target : Word) : List LoopLevel → List LoopLevel
  | [] => []
  | l :: ls =>
    let inBody (l : LoopLevel) : Bool := decide (l.start.toNat ≤ target.toNat) && decide (target.toNat < l.start.toNat + 4 * l.len)
    if inBody l then l :: ls else ls.filter inBody

/-- A taken branch or jump: PC is the target, the levels whose bodies it leaves end (R52), and nothing else changes. -/
def JumpsTo (s : State) (i : Instr) (target : Word) : Prop :=
  ∃ t, exec i s = .next t ∧ t = { s with st := t.st } ∧ s.st.movedOn t.st ∧ t.st.pc = target ∧ t.st.rep = s.st.rep ∧
    t.st.loops = loopsAfter target s.st.loops

/-- Table 4.6, steps 1 to 3, and the jump where none of them fails. -/
def TransferRules (s : State) (i : Instr) (target : Word) : Prop :=
  (target.toNat % 4 ≠ 0 → FaultsAt s i 0x04 target) ∧
  (target.toNat % 4 = 0 → s.textAt s.st.part target = none → FaultsAt s i 0x05 target) ∧
  (target.toNat % 4 = 0 → MarkedWord s target → FaultsAt s i 0x07 target) ∧
  (target.toNat % 4 = 0 → TextWord s target → JumpsTo s i target)

/-- R90: a branch falls through where its condition does not hold, and transfers where it does. -/
def BranchRules (s : State) (i : Instr) (holds : Prop) (target : Word) : Prop :=
  (¬ holds → Completes s i s.st 4) ∧ (holds → TransferRules s i target)

/-- R93: the call proper: the window moves to a fresh frame, its s9 holds the return address, and an open window of commands closes
(Table 11.1, code 7). -/
def CallsTo (s : State) (i : Instr) (target : Word) : Prop :=
  ∃ t, exec i s = .next t ∧ t = { s with st := t.st } ∧ t.st.rs 9 = s.st.pc + 4 ∧
    (∀ p, p ≠ t.st.phys 9 → SMap.get 0 t.st.sregs p = SMap.get 0 s.st.sregs p) ∧
    t.st = { s.st.closeWindow 7 with
      pc := target, afterCall := some s.st.pc, wp := (s.st.wp + 15) % 240, sregs := t.st.sregs,
      resident := if s.st.resident = 15 then 15 else s.st.resident + 1,
      sf := if s.st.resident = 15 then s.st.sf + 1 else s.st.sf,
      jobs := [], moved := 0, boundary := false, win := t.st.win, reexec := t.st.reexec, stall := none }

/-- R19: a call that spills its oldest frame of fifteen, and nothing else, fits the region. -/
def FrameFits (st : Strand) : Prop := st.resident ≠ 15 ∨ 120 * (st.sf + 1) + 256 * st.vb ≤ 64 * (st.spLen + 1)

/-- R19: a call with an ENTER of n blocks spills nothing, or what is then spilled fits the region. -/
def SpillFits (st : Strand) (n : Nat) : Prop :=
  (st.resident ≠ 15 ∧ st.vres + n ≤ 31) ∨
    120 * (st.sf + if st.resident = 15 then 1 else 0) + 256 * (st.vb + (st.vres + n - 31)) ≤ 64 * (st.spLen + 1)

/-- R14: the oldest of fifteen frames, which a call spills. -/
def callFrame (st : Strand) : List SpillJob := if st.resident = 15 then [.frameOut ((st.wp + 240 - 15 * 14) % 240) st.sf] else []

/-- R18, R93: a call and its ENTER of v blocks, once the target is an ENTER: what does not fit faults, the frame is spilled before the
blocks, and with every transfer made the call goes on. -/
def CallSpills (s : State) (i : Instr) (target : Word) (v : Nat) : Prop :=
  (¬ FrameFits s.st → FaultsAt s i 0x16 0) ∧
  (FrameFits s.st → s.spillFault (callFrame s.st) = none →
    (s.st.moved < (callFrame s.st).length → SpillsAt s i ((callFrame s.st).drop s.st.moved)) ∧
    ((callFrame s.st).length ≤ s.st.moved →
      (¬ SpillFits s.st v → FaultsAt s i 0x16 0) ∧
      (SpillFits s.st v → s.spillFault (s.st.enterJobs v) = none →
        (s.st.moved < (callFrame s.st).length + (s.st.enterJobs v).length →
          SpillsAt s i ((s.st.enterJobs v).drop (s.st.moved - (callFrame s.st).length))) ∧
        ((callFrame s.st).length + (s.st.enterJobs v).length ≤ s.st.moved → s.st.linkBusy = false → CallsTo s i target))))

/-- Table 4.6 and R93: the checks of a call and of the ENTER at its target, and the call. -/
def CallRules (s : State) (i : Instr) (target : Word) : Prop :=
  (target.toNat % 4 ≠ 0 → FaultsAt s i 0x04 target) ∧
  (target.toNat % 4 = 0 → s.textAt s.st.part target = none → FaultsAt s i 0x05 target) ∧
  (target.toNat % 4 = 0 → MarkedWord s target → FaultsAt s i 0x07 target) ∧
  (∀ o k, target.toNat % 4 = 0 → s.textAt s.st.part target = some (o, k) → o.lits.contains k = false →
    ((s.textWord o k).extractLsb' 24 8 ≠ 24 → FaultsAt s i 0x17 target) ∧
    (∀ v : BitVec 2, (s.textWord o k).extractLsb' 24 8 = 24 → decode (s.textWord o k) 0 = .ok (.enter v) → CallSpills s i target v.toNat))

/-! ### Memory -/

/-- A queued write as R264 and R282 make it: each byte once, and every byte at the home of its line. -/
def LineWrite.ok (e : LineWrite) : Prop := (e.bytes.map Prod.fst).Nodup ∧ ∀ b ∈ e.bytes, homeOf b.1 = homeOf e.line

/-- The write queue of a home of this package holds only writes to that home. -/
def HomeQueueOk (s : State) (h : Nat) : Prop := ∀ e ∈ s.homeQ h, homeOf e.line = h ∧ paPackage e.line = 255 ∧ e.ok

/-- The little-endian value of w bytes from pa, as their homes hold them. -/
def homeValue (s : State) (pa w : Nat) : Nat := ((List.range w).map fun j => (s.homeByte (pa + j)).toNat * 256 ^ j).sum

/-- The little-endian value of w bytes from pa, as the issuers of a core read them. -/
def coreValue (s : State) (core pa w : Nat) : Nat :=
  ((List.range w).map fun j => (s.coreByte core (pa + j)).toNat * 256 ^ j).sum

/-- No byte of any home reads otherwise than before, but the w bytes from pa, which hold v, little-endian. -/
def HomeStores (s t : State) (pa w v : Nat) : Prop :=
  ∀ p, t.homeByte p = if pa ≤ p ∧ p < pa + w then BitVec.ofNat 8 (v / 256 ^ (p - pa)) else s.homeByte p

/-- R85: the bytes of a size code 0-6, b, h, w, d, bn, hn, wn. -/
def codeSize (z : BitVec 3) : Nat :=
  match z.toNat with
  | 0 | 4 => 1
  | 1 | 5 => 2
  | 2 | 6 => 4
  | _ => 8

/-- R87: what a load of w bytes writes: codes b, h and w sign-extend. -/
def loadedValue (z : BitVec 3) (w x : Nat) : Word :=
  if z.toNat < 3 then BitVec.ofInt 64 (BitVec.ofNat (8 * w) x).toInt else BitVec.ofNat 64 x

/-- What an access of w bytes at va meets before it is performed (Table 4.5): a fault of its checks, a page that is not
resident, a wait for older accesses, poison. `kindNo` is the access kind of Table 16.3. -/
def AccessStops (s : State) (i : Instr) (va : Word) (w : Nat) (need : Need) (kindNo : Nat) : Prop :=
  (va.toNat % 2 ^ 60 % w ≠ 0 → FaultsAt s i 0x04 va) ∧
  (∀ code step, s.check s.st s.st.anchor va w need = .fault code step → FaultsAt s i code va) ∧
  (∀ cause, s.check s.st s.st.anchor va w need = .absent cause → exec i s = .next (s.parkNow ⟨va, kindNo, cause, 0⟩))

/-- The home of [pa, pa + w) is memory of this package that answers at once: no control space, no expander, no remote
package. -/
def NearHome (pa : Nat) : Prop := paIsControl pa = false ∧ paPackage pa = 255 ∧ paSpace pa ≠ 2

/-! ### Requests of the launch transport -/

/-- R393, R394, R396: a request of its kind that passes every check of its header under the key of its session, with the number that
the session expects next and none held behind it. -/
def Admitted (s : State) (h : Header) (kind : Nat) (payload : List Byte) (q : Session) : Prop :=
  h.kind = kind ∧ h.version = 1 ∧ s.session h.session = some q ∧ q.num = h.session ∧ q.part = h.partition ∧
    h.tag = Config.kmac256 q.key (headerBytes h ++ payload) ∧ h.sequence = q.next ∧ q.held = []

/-- R393, R396: the request i is performed: its reply leaves as a datagram with the request's header fields and a tag under the session's
key, and no strand changes. -/
def Replies (s : State) (i : Instr) (h : Header) (q : Session) (status : Nat) (detail : List Byte) (t : State) : Prop :=
  exec i s = .next t ∧ t.st = s.st ∧ t.others = s.others ∧
    ∃ r : Reply, t.out = s.out ++ [r] ∧ r.status = status ∧ r.detail = detail ∧ r.header.version = 1 ∧ r.header.kind = h.kind ∧
      r.header.partition = h.partition ∧ r.header.die = h.die % 2 ∧ r.header.session = h.session ∧ r.header.sequence = h.sequence ∧
      r.header.tag = Config.kmac256 q.key (headerBytes r.header status ++ detail)

/-! ### Engine words -/

/-- A command as a word at PC leaves it in its queue (R195): nothing of it is done, and its guard generation is the current
one of its slot. -/
def freshCmd (st : Strand) (pay : Payload) (tok : BitVec 4) (g : Nat) (ts : Bool) : Cmd :=
  { pay := pay, addr := st.pc, tok := tok, guard := if g = 0 then none else some ⟨g, (st.guardSlot g).gid⟩,
    repk := if st.rep.left = 0 then 0 else st.rep.made, ts := ts, seq := st.seq, lp := ⟨0, 0, 0, 0⟩, idx := 0, since := 0, on := 64,
    waited := false, begun := false, done := false, dropped := false, kindS := false }

/-- The queue q of a strand with a command more at its tail. -/
def behind (st : Strand) (q : EngineQ) (c : Cmd) : Strand :=
  let v : Queue := { st.queue q with items := (st.queue q).items ++ [.cmd c] }
  { st.setQueue q v with seq := st.seq + 1 }

/-- R194, R195: an engine word of n bytes, outside a re-execution, completes with its command behind its queue where the queue
has room; a full V queue makes it wait. -/
def Enqueues (s : State) (i : Instr) (q : EngineQ) (pay : Payload) (tok : BitVec 4) (g n : Nat) : Prop :=
  (s.st.room q 1 = true → Completes s i (behind s.st q (freshCmd s.st pay tok g false)) n) ∧
  (q = .V → s.st.room q 1 = false → WaitsAt s i .queueFull)

/-- `Enqueues` for a V word. -/
def EnqueuesV (s : State) (i : Instr) (t c : BitVec 4) (n : Nat) (v : VCmd) : Prop :=
  Enqueues s i .V (.v v) t (condGuard c) n

/-- `Enqueues` for a D word with TS = 0. -/
def EnqueuesD (s : State) (i : Instr) (t : BitVec 4) (g : BitVec 3) (op : DOp) : Prop :=
  Enqueues s i .D (.d op) t g.toNat 4

/-- `Enqueues` for a C word that carries no D word. -/
def EnqueuesC (s : State) (i : Instr) (t : BitVec 4) (g : BitVec 3) (op : COp) : Prop :=
  Enqueues s i .C (.c op none) t g.toNat 4

/-- R196: a command stands at the head of a queue that performs commands, past its guard and its token waits, and no QFENCE
holds it: it is to be performed, or with `drop` discarded (R112, R141). -/
def HeadAt (st : Strand) (q : EngineQ) (c : Cmd) (drop : Bool) : Prop :=
  (st.queue q).cur = some c ∧ st.queueOff q = false ∧ c.guard = none ∧ c.waited = true ∧ c.begun = false ∧ c.done = false ∧
    c.dropped = drop ∧ st.fencedOff q c = false

/-- The strand with the head of a queue gone; a C head takes the note of its landed bursts with it. -/
def headGone (st : Strand) (q : EngineQ) : Strand :=
  Strand.setQueue { st with arrived := if q = .C then [] else st.arrived } q { st.queue q with cur := none }

/-- The strand reaches every part of a range of a cell's tower. -/
def TowerOpen (s : State) (cell off n : Nat) : Prop := ∀ j m, 0 < m → j + m ≤ n → s.firstBarred cell (off + j) m = none

/-- A copy may read the n bytes at an offset of a task space; they stand in this package's HBM from pa on. -/
def HbmOpen (s : State) (sp off n pa : Nat) : Prop :=
  ∀ cell j m, 0 < m → j + m ≤ n → paIsHbm (pa + j) = true ∧ ∃ k g z, s.copyPlace cell false false ⟨sp, off + j, m⟩ = .ok (pa + j) k g z 0

/-- The begun head of the C queue is this copy, of no window, with no post and no carried word; no byte of it has landed. -/
def CopyAt (s : State) (c : Cmd) (op : COp) : Prop :=
  s.st.begunCopy = some (c, op) ∧ c.pay = .c op none ∧ c.tok = 0 ∧ s.st.live = true ∧ s.st.win = none ∧ s.st.replay = [] ∧
    s.st.shadow = [] ∧ s.st.arrived = [] ∧ s.outbound = [] ∧ s.homeq = []

/-- Element e, of width w, of lane j of vector register p in a cell. -/
def State.elem (s : State) (cell p j w e : Nat) : BitVec w :=
  (SMap.get 0 s.vregs (vKey cell p)).extractLsb' (32 * j + w * e) w

/-- The same element of an operand: of a register, of a broadcast value in every lane, zero where the word has none. -/
def State.operandElem (s : State) (cell : Nat) (v : VSrc) (j w e : Nat) : BitVec w :=
  match v with
  | .reg p => s.elem cell p j w e
  | .bcast k => k.extractLsb' (w * e) w
  | _ => 0

/-- Table 5.5: the integer functions of an element of width w, from va, vb and the old vd. -/
def laneInt (w : Nat) (op : VOp) (x y z : BitVec w) : Option (BitVec w) :=
  let sat (n : Int) : BitVec w := BitVec.ofInt w (max (-2 ^ (w - 1)) (min (2 ^ (w - 1) - 1) n))
  let satU (n : Int) : BitVec w := BitVec.ofInt w (max 0 (min (2 ^ w - 1) n))
  match op with
  | .add => some (x + y)
  | .sub => some (x - y)
  | .mul => some (x * y)
  | .mulh => some (BitVec.ofInt w (x.toInt * y.toInt / 2 ^ w))
  | .mulhn => some (BitVec.ofNat w (x.toNat * y.toNat / 2 ^ w))
  | .mad => some (z + x * y)
  | .adds => some (sat (x.toInt + y.toInt))
  | .subs => some (sat (x.toInt - y.toInt))
  | .addsn => some (satU (x.toNat + y.toNat))
  | .subsn => some (satU (x.toNat - y.toNat))
  | .min => some (if x.toInt ≤ y.toInt then x else y)
  | .max => some (if x.toInt ≤ y.toInt then y else x)
  | .minn => some (if x.toNat ≤ y.toNat then x else y)
  | .maxn => some (if x.toNat ≤ y.toNat then y else x)
  | .abs => some (if x.toInt < 0 then -x else x)
  | .and => some (x &&& y)
  | .or => some (x ||| y)
  | .xor => some (x ^^^ y)
  | .andn => some (x &&& ~~~y)
  | .shl => some (x <<< (y.toNat % w))
  | .shr => some (x >>> (y.toNat % w))
  | .sra => some (x.sshiftRight (y.toNat % w))
  | _ => none

/-! ### Table 4.2 in integers -/

/-- The number of leading zero bits. -/
def isClz (a : Word) (k : Nat) : Prop :=
  k ≤ 64 ∧ (∀ j, 64 - k ≤ j → a.getLsbD j = false) ∧ (k < 64 → a.getLsbD (63 - k) = true)

/-- The number of trailing zero bits. -/
def isCtz (a : Word) (k : Nat) : Prop :=
  k ≤ 64 ∧ (∀ j, j < k → a.getLsbD j = false) ∧ (k < 64 → a.getLsbD k = true)

/-- The number of one bits. -/
def popOf (a : Word) : Nat := ((List.range 64).map fun j => (a.getLsbD j).toNat).sum

/-- The low 32 bits of a sum, difference or product of two registers, sign-extended. -/
def lowSext (x : Int) : Word := BitVec.ofInt 64 (BitVec.ofInt 32 x).toInt

/-- R79: the quotient of two integers truncated toward zero. -/
def truncDiv (a b : Int) : Int := if 0 ≤ a * b then (a.natAbs / b.natAbs : Nat) else -(a.natAbs / b.natAbs : Nat)

end Sys2Proof.Machine
end

