-- ==== Sys2Proof/Certificates/Slice0/Obligations.lean ====
section
/-! DEFINITION. The statements. -/

open Sys2Proof Sys2Proof.Machine

/-! ### Encoding and the step -/

/-- Words the manual writes out (Tables 4.7, R82) and words built from Tables 2.1-2.7 decode to what they stand for. -/
def Obligations.DecodeWords : Prop :=
  decode 0x01803FF9 0 = .ok (.addi 16 0 (-7)) ∧ decode 0x28000002 0 = .ok (.call 2) ∧ decode 0x17000800 0 = .ok .tend ∧
  decode 0x18000000 0 = .ok (.enter 0) ∧ decode 0x00504405 0 = .ok (.div 10 1 2) ∧ decode 0x00104407 0 = .ok (.rem 2 1 2) ∧
  decode 0x11000002 0 = .ok .ret ∧ decode 0x12900001 0x89ABCDEF = .ok (.litn 18 0x89ABCDEF) ∧
  decode 0x12900002 0x01234567 = .ok (.lith 18 0x01234567) ∧ decode 0x00000000 0 = .error .illegal

/-- R33-R51: the decoder undoes the encoder on every instruction that has words, whatever bytes follow. -/
def Obligations.DecodeOfEncode : Prop :=
  ∀ i : Instr, i.encodable = true → ∀ rest : List Byte, decodeBytes (encodeBytes i ++ rest) = .ok (i, rest)

/-- R33, R34, R37, R164: a turn of the sequencer of a running strand that waits for nothing executes the instruction that
the bytes at PC decode to, with the register fields of an active REP stepped (R51); issue 0 of a REP names the encoded registers;
the meaning is met by the state in which the turn's time has passed. -/
def Obligations.StepRunsDecoded : Prop :=
  (∀ (i : Instr) (s1 s2 s3 : BitVec 2), i.wf = true → stepInstr 0 s1 s2 s3 i = i) ∧
  ∀ (s u : State) (dt : Nat) (rest : List Turn) (o : CodeObj) (k : Nat) (i : Instr),
    s.agenda = ⟨dt, .sequencer⟩ :: rest → s.hub.powered = true → u = State.tick { s with agenda := rest } dt →
    u.st.live = true → u.st.park = none → u.st.atJoin = false → u.st.saveReq = false → u.st.saving = false →
    u.st.rollback = none → u.st.awaiting = false → u.st.jobs = [] → u.st.pend = [] → u.resume = [] →
    u.textAt u.st.part u.st.pc = some (o, k) → o.lits.contains k = false →
    o.vProf ≠ 0 → o.dProf ≠ 0 → o.cProf ≠ 0 → decode (u.textWord o k) (u.textWord o (k + 1)) = .ok i →
    step s = exec (if u.st.rep.left = 0 then i else stepInstr u.st.rep.made u.st.rep.s1 u.st.rep.s2 u.st.rep.s3 i) u

/-! ### Register and immediate arithmetic, constants (chapter 4) -/

/-- R78, Table 4.2: what each ALU-R function but division writes; each completes and leaves everything else alone. -/
def Obligations.AluRWrites : Prop :=
  ∀ (s : State) (d a b : BitVec 5) (x y : Word), x = s.st.rs a → y = s.st.rs b →
    WritesRd s (.add d a b) d (BitVec.ofInt 64 (x.toInt + y.toInt)) 4 ∧
    WritesRd s (.sub d a b) d (BitVec.ofInt 64 (x.toInt - y.toInt)) 4 ∧
    WritesRd s (.mul d a b) d (BitVec.ofInt 64 (x.toInt * y.toInt)) 4 ∧
    WritesRd s (.mulh d a b) d ((BitVec.ofInt 128 (x.toInt * y.toInt)).extractLsb' 64 64) 4 ∧
    WritesRd s (.mulhn d a b) d ((BitVec.ofNat 128 (x.toNat * y.toNat)).extractLsb' 64 64) 4 ∧
    WritesRd s (.and d a b) d (x &&& y) 4 ∧
    WritesRd s (.or d a b) d (x ||| y) 4 ∧
    WritesRd s (.xor d a b) d (x ^^^ y) 4 ∧
    WritesRd s (.andn d a b) d (x &&& ~~~y) 4 ∧
    WritesRd s (.shl d a b) d (BitVec.ofNat 64 (x.toNat * 2 ^ (y.toNat % 64))) 4 ∧
    WritesRd s (.shr d a b) d (BitVec.ofNat 64 (x.toNat / 2 ^ (y.toNat % 64))) 4 ∧
    WritesRd s (.sra d a b) d (BitVec.ofInt 64 (x.toInt / 2 ^ (y.toNat % 64))) 4 ∧
    WritesRd s (.min d a b) d (if x.toInt ≤ y.toInt then x else y) 4 ∧
    WritesRd s (.minn d a b) d (if x.toNat ≤ y.toNat then x else y) 4 ∧
    WritesRd s (.max d a b) d (if x.toInt ≤ y.toInt then y else x) 4 ∧
    WritesRd s (.maxn d a b) d (if x.toNat ≤ y.toNat then y else x) 4 ∧
    WritesRd s (.seq d a b) d (if x = y then 1 else 0) 4 ∧
    WritesRd s (.slt d a b) d (if x.toInt < y.toInt then 1 else 0) 4 ∧
    WritesRd s (.sltn d a b) d (if x.toNat < y.toNat then 1 else 0) 4 ∧
    (∃ k, isClz x k ∧ WritesRd s (.clz d a) d (word k) 4) ∧
    (∃ k, isCtz x k ∧ WritesRd s (.ctz d a) d (word k) 4) ∧
    WritesRd s (.popc d a) d (word (popOf x)) 4 ∧
    WritesRd s (.addw d a b) d (lowSext (x.toInt + y.toInt)) 4 ∧
    WritesRd s (.subw d a b) d (lowSext (x.toInt - y.toInt)) 4 ∧
    WritesRd s (.mulw d a b) d (lowSext (x.toInt * y.toInt)) 4

/-- R79: division truncates toward zero, the remainder takes the sign of the dividend; a zero divisor gives -1 and the
dividend, and -2^63 / -1 gives -2^63 and 0. -/
def Obligations.DivisionWrites : Prop :=
  ∀ (s : State) (d a b : BitVec 5) (x y : Word), x = s.st.rs a → y = s.st.rs b →
    WritesRd s (.div d a b) d (if y = 0 then 0xFFFFFFFFFFFFFFFF else if x.toInt = -2 ^ 63 ∧ y.toInt = -1 then x
      else BitVec.ofInt 64 (truncDiv x.toInt y.toInt)) 4 ∧
    WritesRd s (.rem d a b) d (if y = 0 then x else if x.toInt = -2 ^ 63 ∧ y.toInt = -1 then 0
      else BitVec.ofInt 64 (x.toInt - y.toInt * truncDiv x.toInt y.toInt)) 4 ∧
    WritesRd s (.divn d a b) d (if y = 0 then 0xFFFFFFFFFFFFFFFF else BitVec.ofNat 64 (x.toNat / y.toNat)) 4 ∧
    WritesRd s (.remn d a b) d (if y = 0 then x else BitVec.ofNat 64 (x.toNat - y.toNat * (x.toNat / y.toNat))) 4

/-- R80, Table 4.4: the immediate forms; R81, R82, R83: the constants: LITH keeps the low half of rd, CB sign-extends a word of
the bank. -/
def Obligations.ImmediatesAndConstantsWrite : Prop :=
  ∀ (s : State) (d a : BitVec 5) (i : BitVec 14) (n : BitVec 6) (j : BitVec 20) (l : W32) (c : BitVec 8) (x : Word), x = s.st.rs a →
    WritesRd s (.addi d a i) d (BitVec.ofInt 64 (x.toInt + i.toInt)) 4 ∧
    WritesRd s (.andi d a i) d (x &&& BitVec.ofInt 64 i.toInt) 4 ∧
    WritesRd s (.ori d a i) d (x ||| BitVec.ofInt 64 i.toInt) 4 ∧
    WritesRd s (.xori d a i) d (x ^^^ BitVec.ofInt 64 i.toInt) 4 ∧
    WritesRd s (.shli d a n) d (BitVec.ofNat 64 (x.toNat * 2 ^ n.toNat)) 4 ∧
    WritesRd s (.shri d a n) d (BitVec.ofNat 64 (x.toNat / 2 ^ n.toNat)) 4 ∧
    WritesRd s (.srai d a n) d (BitVec.ofInt 64 (x.toInt / 2 ^ n.toNat)) 4 ∧
    WritesRd s (.slti d a i) d (if x.toInt < i.toInt then 1 else 0) 4 ∧
    WritesRd s (.sltni d a i) d (if x.toNat < (BitVec.ofInt 64 i.toInt).toNat then 1 else 0) 4 ∧
    WritesRd s (.lui d j) d (BitVec.ofInt 64 (j.toInt * 2 ^ 12)) 4 ∧
    WritesRd s (.fli d j) d (BitVec.ofNat 64 (j.toNat * 2 ^ 12)) 4 ∧
    WritesRd s (.addpc d j) d (s.st.pc + BitVec.ofInt 64 (j.toInt * 4)) 4 ∧
    WritesRd s (.lit d l) d (BitVec.ofInt 64 l.toInt) 8 ∧
    WritesRd s (.litn d l) d (BitVec.ofNat 64 l.toNat) 8 ∧
    WritesRd s (.lith d l) d (BitVec.ofNat 64 (l.toNat * 2 ^ 32 + (s.st.rs d).toNat % 2 ^ 32)) 8 ∧
    WritesRd s (.cb d c) d (BitVec.ofInt 64 (s.st.const c.toNat).toInt) 4

/-! ### Control flow (R90-R97) -/

/-- R96, R97: where a word flows on: under REP the next issue of the same word; else the next word, or, at the end of the
innermost body, its start with one iteration less, or, the last being done, what the enclosing levels make of it at once. -/
def Obligations.SequentialFlow : Prop :=
  ∀ (s : State) (d a : BitVec 5) (i : BitVec 14), ∃ t, exec (.addi d a i) s = .next t ∧
    (1 < s.st.rep.left → t.st.pc = s.st.pc ∧ t.st.loops = s.st.loops ∧
      t.st.rep = { s.st.rep with left := s.st.rep.left - 1, made := s.st.rep.made + 1 }) ∧
    (s.st.rep.left ≤ 1 → t.st.rep = RepState.none ∧
      (s.st.loops = [] → t.st.pc = s.st.pc + 4 ∧ t.st.loops = []) ∧
      ∀ l ls, s.st.loops = l :: ls →
        (s.st.pc + 4 ≠ l.start + word (4 * l.len) → t.st.pc = s.st.pc + 4 ∧ t.st.loops = l :: ls) ∧
        (s.st.pc + 4 = l.start + word (4 * l.len) → 0 < l.left →
          t.st.pc = l.start ∧ t.st.loops = { l with left := l.left - 1 } :: ls) ∧
        (s.st.pc + 4 = l.start + word (4 * l.len) → l.left = 0 →
          ∃ u, exec (.addi d a i) { s with st := { s.st with loops := ls } } = .next u ∧
            t.st.pc = u.st.pc ∧ t.st.loops = u.st.loops))

/-- R90, R52, R91, R92: the six conditional branches, with the conditions of Table 2.4 over the integers; J reaches
pc + 4 imm20, JR the value of rt; none writes a register. -/
def Obligations.BranchesTransfer : Prop :=
  ∀ (s : State) (a b : BitVec 5) (i : BitVec 14) (x y target : Word),
    x = s.st.rs a → y = s.st.rs b → target = s.st.pc + BitVec.ofInt 64 (i.toInt * 4) →
    BranchRules s (.beq a b i) (x = y) target ∧
    BranchRules s (.bne a b i) (x ≠ y) target ∧
    BranchRules s (.blt a b i) (x.toInt < y.toInt) target ∧
    BranchRules s (.bge a b i) (y.toInt ≤ x.toInt) target ∧
    BranchRules s (.bltn a b i) (x.toNat < y.toNat) target ∧
    BranchRules s (.bgen a b i) (y.toNat ≤ x.toNat) target ∧
    (∀ j : BitVec 20, TransferRules s (.j j) (s.st.pc + BitVec.ofInt 64 (j.toInt * 4))) ∧ TransferRules s (.jr a) x

/-- R92, R93: CALL and CALLR, with the ENTER at the target checked as one unit with the call. -/
def Obligations.CallsMoveWindow : Prop :=
  ∀ (s : State) (i : BitVec 20) (r : BitVec 5),
    CallRules s (.call i) (s.st.pc + BitVec.ofInt 64 (i.toInt * 4)) ∧ CallRules s (.callr r) (s.st.rs r)

/-- R17, R94: ENTER moves the vector window by its code and writes the code into s9[1:0]; reached otherwise than behind a
call it raises 0x17 and changes neither. -/
def Obligations.EnterMovesVectorWindow : Prop :=
  ∀ (s : State) (v : BitVec 2),
    (s.st.afterCall = none → FaultsAt s (.enter v) 0x17 s.st.pc) ∧
    (∀ p, s.st.afterCall = some p → s.st.vres + v.toNat ≤ 31 →
      ∃ m : SMap Word,
        Completes s (.enter v) { s.st with vwp := (s.st.vwp + 4 * v.toNat) % 124, vres := s.st.vres + v.toNat, sregs := m } 4 ∧
        ∀ q, SMap.get 0 m q = if q = s.st.phys 9 then (s.st.rs 9 &&& ~~~3) ||| v.setWidth 64 else SMap.get 0 s.st.sregs q)

/-- R95, R13, R14, R17, R18: RET returns to s9 without its low bits, moves both windows back, and leaves the loops; the frame and the
blocks that the caller's windows lack are filled first, the word waiting for the transfers. -/
def Obligations.RetRestoresWindows : Prop :=
  ∀ (s : State) (target : Word) (n : Nat) (jobs : List SpillJob), target = s.st.rs 9 &&& ~~~3 → n = (s.st.rs 9).toNat % 4 →
    jobs = (if s.st.resident = 1 ∧ s.st.sf ≠ 0 then [.frameIn ((s.st.wp + 225) % 240) (s.st.sf - 1)] else []) ++ s.st.leaveJobs n →
    (s.textAt s.st.part target = none → FaultsAt s .ret 0x05 target) ∧
    (MarkedWord s target → FaultsAt s .ret 0x07 target) ∧
    (TextWord s target → (∀ a, s.spillFault jobs = some a → FaultsAt s .ret 0x05 a) ∧
      (s.spillFault jobs = none → s.st.moved < jobs.length → SpillsAt s .ret (jobs.drop s.st.moved)) ∧
      (s.spillFault jobs = none → jobs.length ≤ s.st.moved →
        ∃ t, exec .ret s = .next t ∧ t = { s with st := t.st } ∧
          t.st = { s.st.closeWindow 7 with
            pc := target, afterCall := none, wp := (s.st.wp + 225) % 240,
            resident := if s.st.resident = 1 then 1 else s.st.resident - 1,
            sf := if s.st.resident = 1 then s.st.sf - 1 else s.st.sf,
            vwp := (s.st.vwp + 124 - 4 * n % 124) % 124, vres := max 3 (s.st.vres - n),
            vb := s.st.vb - min (3 - (s.st.vres - n)) s.st.vb,
            win := t.st.win, reexec := t.st.reexec, stall := none, jobs := [], moved := 0, boundary := false }))

/-- R52, R96: LOOPS pushes a level of rc[31:0] iterations over the words behind it, or with a count of zero goes to the end of
the body; a fifth level, a body that ends at a literal, and one whose last word is REP raise 0x01. -/
def Obligations.LoopsPushesLevel : Prop :=
  ∀ (s : State) (r : BitVec 5) (l : BitVec 14) (S E : Word), S = s.st.pc + 4 → E = S + word (4 * l.toNat) →
    (4 ≤ s.st.loops.length → FaultsAt s (.loops r l) 0x01 0) ∧
    (MarkedWord s E → FaultsAt s (.loops r l) 0x01 0) ∧
    ((∃ o k, s.textAt s.st.part (E - 4) = some (o, k) ∧ o.lits.contains k = false ∧ isRepWord (s.textWord o k) = true) →
      FaultsAt s (.loops r l) 0x01 0) ∧
    (s.st.loops.length < 4 → ¬ MarkedWord s E →
      (∀ o k, s.textAt s.st.part (E - 4) = some (o, k) → o.lits.contains k = false → isRepWord (s.textWord o k) = false) →
      ∃ t, exec (.loops r l) s = .next t ∧ t = { s with st := t.st } ∧ s.st.movedOn t.st ∧ t.st.rep = s.st.rep ∧
        ((s.st.rs r).toNat % 2 ^ 32 ≠ 0 → t.st.pc = S ∧
          t.st.loops = ⟨S, l.toNat, (s.st.rs r).toNat % 2 ^ 32 - 1⟩ :: s.st.loops) ∧
        ((s.st.rs r).toNat % 2 ^ 32 = 0 → (∀ x ∈ s.st.loops, E ≠ x.start + word (4 * x.len)) →
          t.st.pc = E ∧ t.st.loops = s.st.loops))

/-- R51, R97: REP sets its state and goes to the word behind it, where that word is of a form it may repeat; no word there, a
literal, or another form raises 0x01, and a step on a field that is not stepped 0x02. -/
def Obligations.RepSetsState : Prop :=
  ∀ (s : State) (c b a : BitVec 2) (n : BitVec 6) (u : Word), u = s.st.pc + 4 →
    (s.textAt s.st.part u = none → FaultsAt s (.rep c b a n) 0x01 0) ∧
    (MarkedWord s u → FaultsAt s (.rep c b a n) 0x01 0) ∧
    (∀ o k, s.textAt s.st.part u = some (o, k) → o.lits.contains k = false →
      (repForm (s.textWord o k) = none → FaultsAt s (.rep c b a n) 0x01 0) ∧
      (∀ m1 m2 m3, repForm (s.textWord o k) = some (m1, m2, m3) →
        (((m1 = false ∧ a ≠ 0) ∨ (m2 = false ∧ b ≠ 0) ∨ (m3 = false ∧ c ≠ 0)) → FaultsAt s (.rep c b a n) 0x02 0) ∧
        ((m1 = true ∨ a = 0) → (m2 = true ∨ b = 0) → (m3 = true ∨ c = 0) →
          (∀ x ∈ s.st.loops, u ≠ x.start + word (4 * x.len)) →
          ∃ t, exec (.rep c b a n) s = .next t ∧ t = { s with st := t.st } ∧ s.st.movedOn t.st ∧
            t.st.pc = u ∧ t.st.loops = s.st.loops ∧ t.st.rep = ⟨n.toNat + 1, 0, a, b, c⟩)))

/-! ### Guards and tokens (R99-R105) -/

/-- R99, R100: a GSET comparison decides the current generation, or opens and decides a fresh one; UNRESOLVE opens one,
closing an unresolved one false; with eight generations held the word waits. Only that slot changes, and the other fields
of the strand are as they were. R101: GUARD_RESOLUTION_VISIBLE completes whatever the strand, and from then on a queue head judges
a captured generation by its resolution, and waits for one that has none. -/
def Obligations.GuardsResolve : Prop :=
  (∀ (s : State) (k : BitVec 3) (a b : BitVec 5) (c : BitVec 3) (holds full : Bool),
    holds = (match c.toNat with
      | 0 => decide (s.st.rs a = s.st.rs b)
      | 1 => decide (s.st.rs a ≠ s.st.rs b)
      | 2 => decide ((s.st.rs a).toInt < (s.st.rs b).toInt)
      | 3 => decide ((s.st.rs b).toInt ≤ (s.st.rs a).toInt)
      | 4 => decide ((s.st.rs a).toNat < (s.st.rs b).toNat)
      | 5 => decide ((s.st.rs b).toNat ≤ (s.st.rs a).toNat)
      | _ => decide (s.st.rs a ≠ 0)) →
    full = (s.st.heldOlder k.toNat == 7 && s.st.heldCurrent k.toNat) →
    c ≠ 7 → k ≠ 0 → s.st.guards.length = 8 →
    ((s.st.guardSlot k.toNat).st = .unresolved → ∃ g : List Guard,
      Completes s (.gset k a b c) { s.st with guards := g } 4 ∧ g.length = 8 ∧ (∀ j, j ≠ k.toNat → g[j]? = s.st.guards[j]?) ∧
      g[k.toNat]? = some { s.st.guardSlot k.toNat with st := if holds then .yes else .no, seen := false }) ∧
    ((s.st.guardSlot k.toNat).st ≠ .unresolved → full = false →
      ∃ (g : List Guard) (x : Guard), Completes s (.gset k a b c) { s.st with guards := g } 4 ∧ g.length = 8 ∧
        (∀ j, j ≠ k.toNat → g[j]? = s.st.guards[j]?) ∧ g[k.toNat]? = some x ∧ x.gid = (s.st.guardSlot k.toNat).gid + 1 ∧
        x.st = if holds then .yes else .no) ∧
    ((s.st.guardSlot k.toNat).st ≠ .unresolved → full = true → WaitsAt s (.gset k a b c) .guardOpen) ∧
    (full = false →
      ∃ (g : List Guard) (x : Guard), Completes s (.gsetUnres k) { s.st with guards := g } 4 ∧ g.length = 8 ∧
        (∀ j, j ≠ k.toNat → g[j]? = s.st.guards[j]?) ∧ g[k.toNat]? = some x ∧ x.gid = (s.st.guardSlot k.toNat).gid + 1 ∧
        x.st = .unresolved ∧
        (s.st.heldCurrent k.toNat = true → ((s.st.guardSlot k.toNat).gid, (s.st.guardSlot k.toNat).st == .yes) ∈ x.older)) ∧
    (full = true → ((s.st.guardSlot k.toNat).st ≠ .unresolved → WaitsAt s (.gsetUnres k) .guardOpen) ∧
      ((s.st.guardSlot k.toNat).st = .unresolved → ∃ c, exec (.gsetUnres k) s = .next { s with st := { s.st with
        guards := s.st.guards.set k.toNat { s.st.guardSlot k.toNat with st := .no, seen := false },
        stall := some .guardOpen, stallAt := c } }))) ∧
  ∀ s : State, ∃ t, exec .guardResolutionVisible s = .next t ∧
    t = { s with st := { s.st with guards := t.st.guards, wake := t.st.wake } } ∧
    ∀ r : GuardRef, r.slot ≠ 0 → (s.st.guardSlot r.slot).gid = r.gid →
      t.st.judge (some r) = (match (s.st.guardSlot r.slot).st with
        | .yes => some true
        | .no => some false
        | .unresolved => none)

/-- R102, R103, R105, R197: TKP adds n to its counter and TKW takes n from it as one update, behind what the queue heads do to the
counters in the cycle, where the counter stays within 0 to 15; else the word waits with nothing changed, and at the watchdog
interval takes fault 0x0E with the counter's number, unless the counter lets the word go on by then (`tokenThere`). A post notes the cycle it was made in, before whose end
no queue takes it. With empty queues the heads do nothing. -/
def Obligations.TokensMove : Prop :=
  (∀ st : Strand, st.vq = Queue.empty → st.dq = Queue.empty → st.cq = Queue.empty → st.flights = [] → st.headsFirst = st) ∧
  ∀ (s : State) (c : BitVec 3) (n : BitVec 5) (u : Strand) (x : Nat), s.st.reexec = none → c < 6 → u = s.st.headsFirst →
    x = u.tok.get (tokOf c.toNat) →
    (x + n.toNat ≤ 15 → ∃ f, Completes s (.tkp c n)
      { u with tok := u.tok.put (tokOf c.toNat) (x + n.toNat), fresh := f, freshAt := u.cyc, wake := true } 4) ∧
    (15 < x + n.toNat → WaitsAt s (.tkp c n) (.token (tokOf c.toNat))) ∧
    (n.toNat ≤ x → Completes s (.tkw c n) { u with tok := u.tok.put (tokOf c.toNat) (x - n.toNat), wake := true } 4) ∧
    (x < n.toNat → WaitsAt s (.tkw c n) (.token (tokOf c.toNat))) ∧
    (s.st.live = true → s.st.park = none → s.st.stall = some (.token (tokOf c.toNat)) →
      (s.st.stallAt + Config.watchdog ≤ s.st.cyc → s.tokenThere = false → FaultsAt s .tkwWatchdog 0x0E (word c.toNat)) ∧
      (s.st.cyc < s.st.stallAt + Config.watchdog ∨ s.tokenThere = true → exec .tkwWatchdog s = .next s))

/-! ### Traps and system words (R164-R174) -/

/-- R167, Table 7.1: a sequencer fault outside a handler, with no frame to spill: the record, the privileged INTRAP status,
the set-aside loops and REP, the fresh frame with s9 = 0, PC at TVEC, and no engine command to return to; nothing else of the strand changes, memory stays, and
only fault codes 0x05 and 0x0D enter the violation log (the model's reading of R433, log 12). A load outstanding into the frame
the entry takes is waited for (R77). -/
def Obligations.TrapEntry : Prop :=
  ∀ (s : State) (f : Flt), s.st.intrap = false →
    (s.st.trapBusy = true → s.seqFault f = { s with st := { s.st with stall := some .spill } }) ∧
    (s.st.resident < 15 → s.st.awaiting = false →
    ∃ t, s.seqFault f = t ∧ t.mem = s.mem ∧ t.others = s.others ∧ (f.code ≠ 0x05 → f.code ≠ 0x0D → t = { s with st := t.st }) ∧
      t.st = { s.st.closeWindow 8 with
        pc := s.st.sysv 0x048, sys := t.st.sys, sregs := t.st.sregs, wp := (s.st.wp + 15) % 240, resident := s.st.resident + 1,
        heldLoops := s.st.loops, loops := [], rep := RepState.none, afterCall := none, stall := none, jobs := [], moved := 0,
        boundary := false, trapped := none, pend := s.st.pend.filter fun p => !p.own } ∧
      t.st.sysv 0x040 = word (f.operand * 2 ^ 20 + f.code) ∧ t.st.sysv 0x041 = s.st.pc ∧ t.st.sysv 0x042 = f.addr ∧
      t.st.sysv 0x043 = s.st.pc ∧ t.st.sysv 0x044 = s.st.rep.word ∧ t.st.sysv 0x045 = lpsWord s.st.loops ∧
      t.st.sysv 0x046 = s.st.status ∧ t.st.sysv 0x047 = word s.now ∧ t.st.status = 3 ∧
      (∀ j, j ≠ 1 → ¬ (0x040 ≤ j ∧ j ≤ 0x047) → t.st.sysv j = s.st.sysv j) ∧
      t.st.rs 9 = 0 ∧ ∀ p, p ≠ t.st.phys 9 → SMap.get 0 t.st.sregs p = SMap.get 0 s.st.sregs p)

/-- R167: a fault inside a handler, or one whose frame cannot be spilled, runs no handler: the task is killed with the code, as a
nested fault. R172: TRAP n takes fault 0x14 at the boundary behind it: TREC0 holds the operand, TREC1 the TRAP word, TREC3 the next word,
and PC is TVEC. -/
def Obligations.TrapWordAndNestedFaults : Prop :=
  (∀ (s : State) (f : Flt), f.code ≠ 0x05 → f.code ≠ 0x0D →
    ∀ u : State, u = { s with st := { s.st with trapped := none } } →
    (s.st.intrap = true → s.seqFault f = u.nestedFault u.st f.code s.st.pc) ∧
    (s.st.intrap = false → s.st.awaiting = false → s.sOpen s.st = false → s.st.resident = 15 →
      64 * (s.st.spLen + 1) < 120 * (s.st.sf + 1) + 256 * s.st.vb → s.seqFault f = u.nestedFault u.st 0x16 s.st.pc)) ∧
  ∀ (s : State) (n : BitVec 10), s.st.intrap = false →
    (s.st.trapBusy = true → WaitsAt s (.trap n) .spill) ∧
    (s.st.resident < 15 → s.st.awaiting = false → s.st.rep.left ≤ 1 → s.st.loops = [] →
    ∃ t, exec (.trap n) s = .next t ∧ t = { s with st := t.st } ∧ t.st.pc = s.st.sysv 0x048 ∧ t.st.status = 3 ∧
      t.st.sysv 0x040 = word (n.toNat * 2 ^ 20 + 0x14) ∧ t.st.sysv 0x041 = s.st.pc ∧ t.st.sysv 0x042 = 0 ∧
      t.st.sysv 0x043 = s.st.pc + 4 ∧ t.st.sysv 0x046 = s.st.status ∧ t.st.sysv 0x047 = word s.now)

/-- R171: ERET, the one word of three rows: outside a handler it raises 0x03; under ACTION 0 and 1 it restores window, loops,
REP, STATUS and PC from the record, behind the fill of a frame the caller lacks, the stopped queue starts again unless a further fault of it
is pending, and under ACTION 1 its faulting command is marked discarded, which stands at its head where it has not gone behind another;
under ACTION 2 the task ends as killed with the record's code, which the partition fault log holds. -/
def Obligations.EretReturns : Prop :=
  ∀ (s : State) (i : Instr), i = .eretResume ∨ i = .eretDiscard ∨ i = .eretEnd →
    (s.st.intrap = false → FaultsAt s i 0x03 0) ∧
    (s.st.intrap = true → (s.st.sysv 0x040).toNat / 2 ^ 34 % 4 ≠ 2 → s.st.resident = 1 → s.st.sf ≠ 0 → s.st.moved = 0 →
      SpillsAt s i [.frameIn ((s.st.wp + 225) % 240) (s.st.sf - 1)]) ∧
    (s.st.intrap = true → (s.st.sysv 0x040).toNat / 2 ^ 34 % 4 ≠ 2 → (s.st.resident ≠ 1 ∨ s.st.sf = 0 ∨ s.st.moved ≠ 0) →
      ∃ t, exec i s = .next t ∧ t = { s with st := t.st } ∧ t.st.pc = s.st.sysv 0x043 ∧ t.st.wp = (s.st.wp + 225) % 240 ∧
        t.st.resident = (if s.st.resident = 1 then 1 else s.st.resident - 1) ∧
        t.st.sregs = s.st.sregs ∧ t.st.rep = RepState.ofWord (s.st.sysv 0x044) ∧
        t.st.loops = lpsWrite s.st.heldLoops (s.st.sysv 0x045) ∧ t.st.status = s.st.sysv 0x046 &&& 0x1F07 ∧
        (∀ j, j ≠ 1 → t.st.sysv j = s.st.sysv j) ∧ t.st.vwp = s.st.vwp ∧ t.st.tok = s.st.tok ∧ t.st.guards = s.st.guards ∧
        ∀ q, srcQueue ((s.st.sysv 0x040).toNat / 2 ^ 32 % 4) = some q →
          ((t.st.queue q).stopped = true ↔ ∃ p ∈ s.st.pend, p.src = (s.st.sysv 0x040).toNat / 2 ^ 32 % 4) ∧
          ∀ c, (s.st.queue q).cur = some c → (∀ k d, s.st.trapped = some k → .cmd d ∈ (s.st.queue q).items → k.is d = false) →
            ∃ c', (t.st.queue q).cur = some c' ∧ c'.pay = c.pay ∧
            c'.dropped = (c.dropped || decide ((s.st.sysv 0x040).toNat / 2 ^ 34 % 4 = 1))) ∧
    (s.st.intrap = true → (s.st.sysv 0x040).toNat / 2 ^ 34 % 4 = 2 →
      exec i s = .next ((s.logFault s.st.part 2 0 0 s.st.taskNo s.st.placement (s.st.sysv 0x041)
        (word ((s.st.sysv 0x040).toNat % 2 ^ 8))).endTask s.st ((s.st.sysv 0x040).toNat % 2 ^ 8) true))

/-- R27, R173, Table 1.4: SRD of an index no row names raises 0x01, of a privileged one in user mode 0x03; every other read
but that of MB, FQHEAD and VLOG completes with the register's value: PC, TOKC, TIME, GANG and SPILL in the layout of Table
1.5, a plain register as last written. SRD of MB waits while a V command that writes MB is on its way, and then reads it (R29);
MB_READ is that word. -/
def Obligations.SrdReads : Prop :=
  ∀ (s : State) (d : BitVec 5) (i : BitVec 10),
    (sysAccess i.toNat = none → FaultsAt s (.srd d i) 0x01 0) ∧
    (sysAccess i.toNat = some .p → s.st.priv = false → FaultsAt s (.srd d i) 0x03 0) ∧
    (∀ a, sysAccess i.toNat = some a → (a = .p → s.st.priv = true) → i ≠ 0x005 → i ≠ 0x051 → i ≠ 0x052 →
      WritesRd s (.srd d i) d (s.sysRead i.toNat) 4) ∧
    s.sysRead 0x000 = s.st.pc ∧ s.sysRead 0x00A = word s.now ∧
    s.sysRead 0x003 = word (s.st.die * 2 ^ 14 + s.st.core * 2 ^ 6 + s.st.field * 2 ^ 4 + s.st.gidx * 2 ^ 2 + s.st.gang) ∧
    s.sysRead 0x008 = word (s.st.tok.cv * 2 ^ 20 + s.st.tok.vd * 2 ^ 16 + s.st.tok.dc * 2 ^ 12 + s.st.tok.vc * 2 ^ 8 +
      s.st.tok.dv * 2 ^ 4 + s.st.tok.cd) ∧
    s.sysRead 0x00C = word (s.st.vb * 2 ^ 46 + s.st.sf * 2 ^ 30 + s.st.spLen * 2 ^ 15 + s.st.spBase) ∧
    (∀ j ∈ [0x001, 0x002, 0x004, 0x00B, 0x00D, 0x043, 0x046, 0x048, 0x049], s.sysRead j = s.st.sysv j) ∧
    (s.st.live = true → exec (.mbRead d) s = exec (.srd d 0x005) s) ∧
    (s.st.mbPending = true → WaitsAt s (.srd d 0x005) .mailbox) ∧
    (s.st.mbPending = false → WritesRd s (.srd d 0x005) d (s.st.sysv 0x005) 4 ∧
      (s.st.live = true → WritesRd s (.mbRead d) d (s.st.sysv 0x005) 4))

/-- R27, R29, R173: SWR. An index of no row, and a read-only one, raises 0x01; a privileged write in user mode 0x03. STATUS takes
NSAT and the flags and keeps PRIV and INTRAP; a set bit of its zero fields raises 0x02. TOKC, GUARDS, REPS and LPS wait for
empty queues; TOKC then takes all six counters. A plain register takes the value. REGISTER_WRITE and ENGINE_STATE_WRITE are
the same word. A completed write closes an open window (Table 11.1, code 9). -/
def Obligations.SwrWrites : Prop :=
  ∀ (s : State) (r : BitVec 5) (i : BitVec 10) (v : Word), v = s.st.rs r → s.st.live = true →
    exec (.registerWrite i r) s = exec (.swr r i) s ∧
    ((0x006 ≤ i.toNat ∧ i.toNat ≤ 0x009) ∨ (0x020 ≤ i.toNat ∧ i.toNat ≤ 0x02F) →
      exec (.engineStateWrite i r) s = exec (.swr r i) s) ∧
    (sysAccess i.toNat = none → FaultsAt s (.swr r i) 0x01 0) ∧
    (sysAccess i.toNat = some .ro → FaultsAt s (.swr r i) 0x01 0) ∧
    (sysAccess i.toNat = some .p ∨ sysAccess i.toNat = some .rop → s.st.priv = false → FaultsAt s (.swr r i) 0x03 0) ∧
    (v &&& ~~~0x1F07 ≠ 0 → FaultsAt s (.swr r 0x001) 0x02 0) ∧
    (v &&& ~~~0x1F07 = 0 → Completes s (.swr r 0x001)
      ((s.st.setSys 0x001 ((s.st.status &&& 3) ||| (v &&& 0x1F04))).closeWindow 9) 4) ∧
    (s.st.priv = true → s.st.queuesEmpty = false → WaitsAt s (.swr r 0x008) .drain ∧ WaitsAt s (.swr r 0x009) .drain ∧
      WaitsAt s (.swr r 0x006) .drain ∧ WaitsAt s (.swr r 0x007) .drain) ∧
    (s.st.priv = true → s.st.queuesEmpty = true → v.toNat < 2 ^ 24 →
      ∀ j ∈ [Instr.swr r 0x008, .engineStateWrite 0x008 r], Completes s j (Strand.closeWindow { s.st with tok :=
        ⟨v.toNat % 16, v.toNat / 2 ^ 4 % 16, v.toNat / 2 ^ 8 % 16, v.toNat / 2 ^ 12 % 16, v.toNat / 2 ^ 16 % 16,
          v.toNat / 2 ^ 20 % 16⟩ } 9) 4) ∧
    (s.st.priv = true → ∀ j ∈ [Instr.swr r 0x049, .registerWrite 0x049 r], Completes s j ((s.st.setSys 0x049 v).closeWindow 9) 4)

/-- R174, R190, R325: NOP has no effect beyond its issue; FID and WEAR write their values, WEAR closing an open window (Table 11.1, code
9). R289: FENCE full completes where nothing it waits for is outstanding, and waits with nothing changed where something is;
acq holds the later accesses of kinds S and R behind the loads of those kinds; rel makes the next store the release. -/
def Obligations.PlainWordsAndFences : Prop :=
  ∀ (s : State) (d : BitVec 5) (c : BitVec 3), c ≠ 7 →
    Completes s .nop s.st 4 ∧ WritesRd s (.fid d) d (word (s.st.field * 4 + s.st.gidx)) 4 ∧
    (∃ m, SetsRd s.st d (s.st.sysv 0x00B) m ∧ Completes s (.wear d) { s.st.closeWindow 9 with sregs := m } 4) ∧
    (s.st.loads = [] → (3 ≤ c.toNat → s.releaseBlocked s.st [0, 1, 2] = false) → Completes s (.fence 0 c) s.st 4) ∧
    ((s.st.loads ≠ [] ∨ 3 ≤ c.toNat ∧ s.releaseBlocked s.st [0, 1, 2] = true) → WaitsAt s (.fence 0 c) .fence) ∧
    Completes s (.fence 1 c)
      { s.st with loads := s.st.loads.map fun l => if l.kind = 2 then l else { l with acq := true } } 4 ∧
    Completes s (.fence 2 c) { s.st with relPend := some (max c.toNat (s.st.relPend.getD 0)) } 4

/-- R174: WFE begins to wait, stays while nothing ends the wait, and ends on a change of a token counter, of a sync bit of the core or
of a guard (which mark the strand), on a pending trap or a pre-emption, or after 4,096 cy (WFE_TIMEOUT). A sync bit that changes
marks every strand of its core. -/
def Obligations.WfeWaitsAndEnds : Prop :=
  ∀ (s : State) (since : Nat),
    (s.st.stall = none → exec .wfe s = .next { s with st := { s.st with
      stall := some (.wfe s.st.cyc), stallAt := s.st.cyc, wake := false } }) ∧
    (s.st.stall = some (.wfe since) →
      (s.st.wake = true ∨ s.st.pend ≠ [] ∨ s.st.saveReq = true ∨ since + 4096 ≤ s.st.cyc → Completes s .wfe s.st 4) ∧
      (s.st.wake = false → s.st.pend = [] → s.st.saveReq = false → s.st.cyc < since + 4096 → exec .wfe s = .next s) ∧
      (s.st.live = true → since + 4096 ≤ s.st.cyc → Completes s .wfeTimeout s.st 4) ∧
      (s.st.cyc < since + 4096 → exec .wfeTimeout s = .next s)) ∧
    (∀ (n : Nat) (v : Bool), s.st.syncShare.1 + n < 8 → s.syncedNow n = none → (s.syncBits s.st).getLsbD (s.st.syncShare.1 + n) ≠ v →
      (s.putSync n v).st.wake = true)

/-- R347: REFD, the one word of three rows: in user mode 0x03; ACTION 3 raises 0x01, a set zero field 0x02; else, for every bank
of the mask in every cell of the grid, ACTION 0 defers (unless its guard is due, R348), ACTION 1 releases, ACTION 2 releases and starts a pass;
every other bank is as it was. -/
def Obligations.RefdActs : Prop :=
  ∀ (s : State) (r : BitVec 5) (i : Instr) (v : Word), i = .refdDefer r ∨ i = .refdRelease r ∨ i = .refdRefreshNow r →
    v = s.st.rs r →
    (s.st.priv = false → FaultsAt s i 0x03 0) ∧
    (s.st.priv = true → v.toNat / 2 ^ 32 % 4 = 3 → FaultsAt s i 0x01 0) ∧
    (s.st.priv = true → v.toNat / 2 ^ 32 % 4 ≠ 3 → (v.toNat / 2 ^ 34 ≠ 0 ∨ v.toNat / 2 ^ 16 % 2 ^ 16 ≠ 0) → FaultsAt s i 0x02 0) ∧
    (s.st.priv = true → v.toNat / 2 ^ 32 < 3 → v.toNat / 2 ^ 16 % 2 ^ 16 = 0 →
      ∃ t, exec i s = .next t ∧ (s.st.closeWindow 9).movedOn t.st ∧ t.mem = s.mem ∧ t.others = s.others ∧
        (∀ cell bank, bank < 16 → (cell ∉ s.st.grid ∨ v.toNat / 2 ^ bank % 2 = 0) → t.bankAt cell bank = s.bankAt cell bank) ∧
        (∀ cell bank, bank < 16 → cell ∈ s.st.grid → v.toNat / 2 ^ bank % 2 = 1 →
          (v.toNat / 2 ^ 32 = 0 → s.bankAtGuard cell (s.bankAt cell bank) = false →
            (t.bankAt cell bank).deferred = true ∧ (t.bankAt cell bank).running = false) ∧
          (v.toNat / 2 ^ 32 = 1 → (t.bankAt cell bank).deferred = false) ∧
          (v.toNat / 2 ^ 32 = 2 → (t.bankAt cell bank).deferred = false ∧ (t.bankAt cell bank).running = true)))

/-- R291: INVAL is privileged; on an address outside space 15 it raises 0x05; with no far access outstanding and no queued copy
of the partition on the die, it completes, and no translator of the die holds the page for the partition. -/
def Obligations.InvalForgetsPage : Prop :=
  ∀ (s : State) (r : BitVec 5) (v : Word), v = s.st.rs r →
    (s.st.priv = false → FaultsAt s (.inval r) 0x03 0) ∧
    (s.st.priv = true → v.toNat / 2 ^ 60 ≠ 15 → FaultsAt s (.inval r) 0x05 v) ∧
    (s.st.priv = true → v.toNat / 2 ^ 60 = 15 → v.toNat / 2 ^ 55 % 2 ^ 5 = 0 → s.st.stall = none → s.st.live = true → s.others = [] →
      s.st.loads = [] → s.st.flights = [] → s.net = [] → s.replies = [] → s.outbound = [] → s.farWrites = [] → s.releaseBlocked s.st [0, 1, 2] = false → s.st.cq = Queue.empty →
      ∃ t, exec (.inval r) s = .next t ∧ (s.st.closeWindow 9).movedOn t.st ∧ t.mem = s.mem ∧
        ∀ cl, cl / 32 = s.st.die → ∀ e ∈ SMap.get [] t.tlb cl, e.hit s.st.part (v.toNat / 2 ^ 16 % 2 ^ 39 * 2 ^ 16) = false)

/-! ### Memory and atomics (R85-R89, R264-R272, R282) -/

/-- R85, R86, R87: LD. An address outside the space raises 0x05, a failing check its fault, an absent page parks; an older
access holds it, and so does the core's buffer where it holds some of the bytes (R264); poison raises 0x0C. A load answered at once
writes its little-endian value, extended by its code, and changes no byte that any core reads; one that leaves the package's
arrays holds its word until the answer; one of the control space reads its register whole. -/
def Obligations.LoadsRead : Prop :=
  ∀ (s : State) (d a : BitVec 5) (z : BitVec 3) (o : BitVec 11) (off : Int) (w pa kind : Nat) (g y : Bool) (va : Word),
    z ≠ 7 → s.st.reexec = none → off = ((s.st.rs a).toNat % 2 ^ 60 : Nat) + o.toInt → w = codeSize z →
    va = word ((s.st.rs a).toNat / 2 ^ 60 * 2 ^ 60 + off.toNat) →
    ((off < 0 ∨ 2 ^ 60 ≤ off) → ∃ v, FaultsAt s (.ld d a z o) 0x05 v) ∧
    (0 ≤ off → off < 2 ^ 60 → AccessStops s (.ld d a z o) va w .load 0 ∧
      (s.check s.st s.st.anchor va w .load = .ok pa kind g y →
        (s.outMixed s.st.coreIdx pa w = true → WaitsAt s (.ld d a z o) .fence) ∧
        (s.outMixed s.st.coreIdx pa w = false → ∀ x, s.accessWait s.st pa w kind = some x → WaitsAt s (.ld d a z o) x) ∧
        (s.outMixed s.st.coreIdx pa w = false → s.accessWait s.st pa w kind = none → paIsControl pa = true →
          (s.st.priv = false → FaultsAt s (.ld d a z o) 0x03 0) ∧ (s.st.priv = true → w ≠ 8 → FaultsAt s (.ld d a z o) 0x05 va) ∧
          (s.st.priv = true → w = 8 → s.st.win = none → ∃ t m, CompletesIn s (.ld d a z o) { s.st with sregs := m } 4 t ∧
            SetsRd s.st d (s.controlRead (paOffset pa)) m ∧ t.mem = s.mem)) ∧
        (s.outMixed s.st.coreIdx pa w = false → s.accessWait s.st pa w kind = none → paIsControl pa = false →
          (∀ p, NearHome pa → s.firstPoison s.st.coreIdx pa w = some p → FaultsAt s (.ld d a z o) 0x0C (word (va.toNat + (p - pa)))) ∧
          ((∀ x, s.st.win = some x → x.loads.length < 64) →
            (NearHome pa → s.firstPoison s.st.coreIdx pa w = none → s.late = [] → s.stalled s.st.die pa = false → ∃ t m, CompletesIn s (.ld d a z o) { s.st with sregs := m } 4 t ∧
              SetsRd s.st d (loadedValue z w (coreValue s s.st.coreIdx pa w)) m ∧ t.mem = s.mem ∧ t.homeq = s.homeq ∧
              ∀ core p, t.coreByte core p = s.coreByte core p) ∧
            (paPackage pa ≠ 255 ∨ paSpace pa = 2 → ∃ t l, exec (.ld d a z o) s = .next t ∧ t.st.pc = s.st.pc ∧
              t.st.sregs = s.st.sregs ∧ t.st.loads = s.st.loads ++ [l] ∧ l.pa = pa ∧ l.size = w ∧ l.held = true ∧
              t.st.stall = some .interlock ∧ t.mem = s.mem)))))

/-- R85, R86, R87, R282, R289: ST writes its bytes and no other, behind what a release laid on it waits for. Kinds R and U with a home outside the core go into the outbound
buffer, where the core's own issuers read them and no home changes; every other store stands at its home at once. -/
def Obligations.StoresWrite : Prop :=
  ∀ (s : State) (r a : BitVec 5) (z : BitVec 3) (o : BitVec 11) (off : Int) (w pa kind : Nat) (g y : Bool) (va : Word),
    z.toNat < 4 → off = ((s.st.rs a).toNat % 2 ^ 60 : Nat) + o.toInt → w = codeSize z →
    va = word ((s.st.rs a).toNat / 2 ^ 60 * 2 ^ 60 + off.toNat) →
    ((off < 0 ∨ 2 ^ 60 ≤ off) → ∃ v, FaultsAt s (.st r a z o) 0x05 v) ∧
    (0 ≤ off → off < 2 ^ 60 → AccessStops s (.st r a z o) va w .store 1 ∧
      (s.check s.st s.st.anchor va w .store = .ok pa kind g y →
        (s.relWait s.st = true → WaitsAt s (.st r a z o) .fence) ∧
        (s.relWait s.st = false → ∀ x, s.accessWait s.st pa w kind = some x → WaitsAt s (.st r a z o) x) ∧
        (s.relWait s.st = false → s.accessWait s.st pa w kind = none → paIsControl pa = true →
          (s.st.priv = false → FaultsAt s (.st r a z o) 0x03 0) ∧ (s.st.priv = true → w ≠ 8 → FaultsAt s (.st r a z o) 0x05 va)) ∧
        (s.relWait s.st = false → s.accessWait s.st pa w kind = none → paIsControl pa = false → pa % w = 0 →
          (s.outQ s.st.coreIdx).length < 64 → (s.homeQ (homeOf pa)).length < 64 →
          ∃ t, CompletesIn s (.st r a z o) { (if kind = 0 then s.st.closeWindow 3 else s.st) with relPend := none } 4 t ∧ t.mem = s.mem ∧
            (kind ≠ 0 → homeInCore s.st.coreIdx (pa - pa % 64) = false →
              (∀ p, t.homeByte p = s.homeByte p) ∧ (∀ core, core ≠ s.st.coreIdx → ∀ p, t.coreByte core p = s.coreByte core p) ∧
              ∀ p, t.coreByte s.st.coreIdx p = if pa ≤ p ∧ p < pa + w then BitVec.ofNat 8 ((s.st.rs r).toNat / 256 ^ (p - pa))
                else s.coreByte s.st.coreIdx p) ∧
            (kind = 0 ∨ homeInCore s.st.coreIdx (pa - pa % 64) = true →
              HomeStores s t pa w (s.st.rs r).toNat ∧ t.outbound = s.outbound))))

/-- R266, Table 14.2: an AMO answered at once: rd receives the old value, of 32-bit operations sign-extended but for FADD32,
and the home holds the new value; a compare that fails writes nothing. No other byte of any home changes. -/
def Obligations.AtomicsAct : Prop :=
  ∀ (s : State) (d a b : BitVec 5) (c : BitVec 3) (r : BitVec 2) (w pa kind : Nat) (g y : Bool) (x old e : Word)
    (i : Instr) (res : Word) (new : Option Nat),
    x = s.st.rs b → e = s.st.rs d → old = word (homeValue s pa w) →
    (i, w, res, new) ∈ [
      (Instr.amoAdd d a b c r, 8, old, some (old + x).toNat), (.amoAnd d a b c r, 8, old, some (old &&& x).toNat),
      (.amoOr d a b c r, 8, old, some (old ||| x).toNat), (.amoXor d a b c r, 8, old, some (old ^^^ x).toNat),
      (.amoMin d a b c r, 8, old, some (if x.toInt < old.toInt then x else old).toNat),
      (.amoMax d a b c r, 8, old, some (if old.toInt < x.toInt then x else old).toNat),
      (.amoMinn d a b c r, 8, old, some (min x.toNat old.toNat)), (.amoMaxn d a b c r, 8, old, some (max x.toNat old.toNat)),
      (.amoSwap d a b c r, 8, old, some x.toNat), (.amoCas d a b c r, 8, old, if old = e then some x.toNat else none),
      (.amoFadd32 d a b c r, 4, old, some (Fmt.fp32.add old.toNat (x.toNat % 2 ^ 32)).1),
      (.amoAddw d a b c r, 4, lowSext old.toInt, some ((old.toNat + x.toNat) % 2 ^ 32)),
      (.amoCasw d a b c r, 4, lowSext old.toInt, if old.toNat = e.toNat % 2 ^ 32 then some (x.toNat % 2 ^ 32) else none),
      (.amoSwapw d a b c r, 4, lowSext old.toInt, some (x.toNat % 2 ^ 32))] →
    AccessStops s i (s.st.rs a) w .atomic 2 ∧
    (s.check s.st s.st.anchor (s.st.rs a) w .atomic = .ok pa kind g y →
      (∀ v, s.amoWait s.st pa w kind c.toNat r.toNat = some v → WaitsAt s i v) ∧
      (s.amoWait s.st pa w kind c.toNat r.toNat = none → paIsControl pa = true → FaultsAt s i 0x05 (s.st.rs a)) ∧
      (s.amoWait s.st pa w kind c.toNat r.toNat = none → NearHome pa → pa % w = 0 → s.late = [] →
        s.netBusy s.st.coreIdx pa = false → s.stalled s.st.die pa = false → (∀ p, pa ≤ p → p < pa + w → s.homePoison p = false) → HomeQueueOk s (homeOf pa) →
        ∃ t m, CompletesIn s i { s.st.closeWindow 2 with sregs := m, relPend := none } 4 t ∧ SetsRd s.st d res m ∧ t.outbound = s.outbound ∧
          (∀ v, new = some v → HomeStores s t pa w v) ∧ (new = none → ∀ p, t.homeByte p = s.homeByte p)))

/-- R261, R269, R270, R272: a request on its way. It passes none of its source to its address, and waits while its channel or the
die link retrains; at its home it is performed and answered with the old value, or with 0x05 where no home can be reached; two that may merge become one, with the parts of both;
an answer with one part gives the part's register its result, and a word that waited completes. -/
def Obligations.AtomicRequests : Prop :=
  ∀ (s : State),
    (∀ n q, s.net[n]? = some q → (∃ x ∈ s.net.take n, s.sameSource q x = true) → exec (.homeAtomic n) s = .next s) ∧
    (∀ n q die, s.net[n]? = some q → die = ((q.parts.head?.bind s.partCore).getD 0) / 256 →
      (s.stalled die q.pa = true → exec (.homeAtomic n) s = .next s) ∧
      ((∀ x ∈ s.net.take n, s.sameSource q x = false) → s.stalled die q.pa = false →
        (s.reachable q.pa = false → ∃ t, exec (.homeAtomic n) s = .next t ∧ t.st = s.st ∧ t.net = s.net.eraseIdx n ∧
          t.replies = s.replies ++ [⟨q, 0, some 0x05⟩] ∧ t.outbound = s.outbound ∧ t.homeq = s.homeq ∧
          (paPackage q.pa = 255 → t.mem = s.mem)) ∧
        (∀ v, s.reachable q.pa = true → NearHome q.pa → q.pa % amoSize q.op = 0 →
          s.amoPoison q.op q.pa = none → HomeQueueOk s (homeOf q.pa) →
          amoNew q.op (word (homeValue s q.pa (amoSize q.op))) q.operand (q.parts.head?.elim 0 AtomPart.e) = some v →
          ∃ t, exec (.homeAtomic n) s = .next t ∧ t.st = s.st ∧ t.net = s.net.eraseIdx n ∧
            t.replies = s.replies ++ [⟨q, word (homeValue s q.pa (amoSize q.op)), none⟩] ∧ t.outbound = s.outbound ∧
            HomeStores s t q.pa (amoSize q.op) v.toNat))) ∧
    (∀ m n x y z, m ≠ n → s.net[m]? = some x → s.net[n]? = some y → x.pa = y.pa → x.op = y.op → amoMerges x.op = true →
      x.order % 2 = 0 → y.order % 2 = 0 → 3 ≤ x.scope → 3 ≤ y.scope → x.parts.length + y.parts.length ≤ 16 →
      (∀ v ∈ (s.net.drop (min m n + 1)).take (max m n - min m n - 1), s.sameSource y v = false) → (n < m → s.sameSource x y = false) →
      amoNew x.op x.operand y.operand 0 = some z →
      exec (.routerMerge m n) s = .next { s with
        net := (s.net.set m { x with operand := z, parts := x.parts ++ y.parts }).eraseIdx n }) ∧
    (∀ r rest p l, s.replies = r :: rest → r.fault = none → r.req.parts = [p] → p.lane = none → s.st.live = true → s.st.sid = p.sid →
      s.st.loads = [l] → l.amo = true → l.pa = r.req.pa → l.dest = p.dest → p.dest < 256 →
      ∃ t, exec .mergedReplySplit s = .next t ∧ t = { s with st := t.st, replies := rest } ∧ t.st.loads = [] ∧ (l.held = true → s.st.passed t.st 4) ∧
        (l.held = false → t.st.pc = s.st.pc) ∧
        ∀ k, SMap.get 0 t.st.sregs k = if k = p.dest then amoResult r.req.op r.old else SMap.get 0 s.st.sregs k)

/-- R87, R264, R282, R283: the returns and the writes on their way. A load that returns behind later words gives its register
the bytes as they then stand; one its word waits for lets the word complete. An outbound entry goes to its home, where
every byte of it reads as written; a home's merge changes no byte that any agent reads. -/
def Obligations.WritesReachHome : Prop :=
  ∀ (s : State),
    (∀ l, s.st.loads = [l] → l.amo = false → NearHome l.pa → s.outMixed s.st.coreIdx l.pa l.size = false → s.firstPoison s.st.coreIdx l.pa l.size = none → s.reachable l.pa = true → s.stalled s.st.die l.pa = false →
      l.dest < 256 → s.st.win = none → ∃ t, exec (.loadValueReturn 0) s = .next t ∧ t.st.loads = [] ∧ t.mem = s.mem ∧
        (∀ k, SMap.get 0 t.st.sregs k =
          if k = l.dest then extend l.size l.signed (coreValue s s.st.coreIdx l.pa l.size % 2 ^ (8 * l.size)) else SMap.get 0 s.st.sregs k) ∧
        (l.held = false → t.st.pc = s.st.pc) ∧ (l.held = true → s.st.passed t.st 4)) ∧
    (∀ die core n e, (s.outQ (coreIndex die core))[n]? = some e → (∀ x ∈ (s.outQ (coreIndex die core)).take n, x.line ≠ e.line) →
      e.ok → s.stalled die e.line = false → (s.homeQ (homeOf e.line)).length < 64 → ∃ t, exec (.outboundDrain die core n) s = .next t ∧ t.st = s.st ∧ t.mem = s.mem ∧
        t.outQ (coreIndex die core) = (s.outQ (coreIndex die core)).eraseIdx n ∧
        ∀ p, t.homeByte p = (e.bytes.lookup p).getD (s.homeByte p)) ∧
    (∀ h e q, s.homeQ h = e :: q → HomeQueueOk s h → (32768 ≤ h → (s.chan (h - 32768)).retraining = false) → ∃ t, exec (.homeWriteMerge h) s = .next t ∧ t.st = s.st ∧ t.homeQ h = q ∧
      (∀ p, t.mem.byte p = (e.bytes.lookup p).getD (s.mem.byte p)) ∧ (∀ p, t.homeByte p = s.homeByte p) ∧
      ∀ core p, t.coreByte core p = s.coreByte core p)

/-! ### Fields, tasks and barriers (R187-R193, R273-R278, R320-R325) -/

/-- R187, R189: FORK of one field is a jump to pc + 4 sext(ra[15:0]) of its own number; of a gang it waits for the engines, and then
every field runs from its own target, the lead's scalar registers copied; a value outstanding for a register is waited for. JOIN has no effect on an unforked task, waits for
the engines, and waits for the other fields. -/
def Obligations.FieldsForkAndJoin : Prop :=
  ∀ (s : State) (a : BitVec 5) (x : Word) (tgt : Nat → Word), x = s.st.rs a →
    (∀ j, tgt j = s.st.pc + BitVec.ofInt 64 ((x.extractLsb' (16 * j) 16).toInt * 4)) →
    (s.st.gang = 0 ∨ s.st.forked = true →
      (s.textAt s.st.part (tgt s.st.gidx) = none → FaultsAt s (.fork a) 0x05 (tgt s.st.gidx)) ∧
      (MarkedWord s (tgt s.st.gidx) → FaultsAt s (.fork a) 0x07 (tgt s.st.gidx)) ∧
      (TextWord s (tgt s.st.gidx) → ∃ t, exec (.fork a) s = .next t ∧ t = { s with st := t.st } ∧
        (s.st.closeWindow 9).movedOn t.st ∧ t.st.pc = tgt s.st.gidx)) ∧
    (s.st.gang ≠ 0 → s.st.forked = false →
      (s.st.drained = false → WaitsAt s (.fork a) .drain) ∧
      (s.st.drained = true → s.st.awaiting = true → WaitsAt s (.fork a) .interlock) ∧
      (s.st.drained = true → s.st.awaiting = false → (∀ j, j < gangFields s.st.gang → TextWord s (tgt j)) →
        ∃ t, exec (.fork a) s = .next t ∧ t.mem = s.mem ∧ t.st.pc = tgt 0 ∧ t.st.forked = true ∧ t.st.sregs = s.st.sregs ∧
          t.others.length = s.others.length + (gangFields s.st.gang - 1) ∧ t.others.take s.others.length = s.others ∧
          ∀ j, 0 < j → j < gangFields s.st.gang → ∃ u, t.others[s.others.length + j - 1]? = some u ∧ u.pc = tgt j ∧
            u.forked = true ∧ u.gidx = j ∧ u.field = s.st.leadField + j ∧ u.sregs = s.st.sregs ∧ u.live = s.st.live ∧
            u.sid = s.nextSid + j ∧ u.vq = s.st.vq ∧ u.tok = s.st.tok)) ∧
    (s.st.forked = false → Completes s .join (s.st.closeWindow 9) 4) ∧
    (s.st.forked = true → s.st.drained = false → WaitsAt s .join .join) ∧
    (s.st.forked = true → s.st.drained = true →
      (∃ u ∈ s.others, u.part = s.st.part ∧ u.recAddr = s.st.recAddr ∧ u.atJoin = false) →
      exec .join s = .next { s with st := { s.st.closeWindow 9 with atJoin := true, stall := some .join } }) ∧
    (∀ u, s.st.forked = true → s.st.drained = true → s.st.live = true → s.st.gang = 1 → s.st.gidx = 0 → s.others = [u] →
      u.part = s.st.part → u.recAddr = s.st.recAddr → u.atJoin = true → u.sid ≠ s.st.sid →
      ∃ t, exec .join s = .next t ∧ t.others = [] ∧ t.mem = s.mem ∧ s.st.passed t.st 4 ∧
        ({ (s.st.closeWindow 9).restream with forked := false, atJoin := false,
                                              loads := s.st.loads ++ u.loads.map PendLoad.adopted,
                                              spawning := s.st.spawning ++ u.spawning.map Spawning.adopted } : Strand).movedOn t.st)

/-- R191, R192: SYNCS sets and SYNCC clears bit n of the task's share and no other bit; SYNCW completes where the bit stands and waits
where it does not, or where the cycle has updated it (R193: SYNCW tests the bit behind the updates of its cycle, of which that of the
highest core field stands); a number outside the share raises 0x15. A bit that changes ends a WFE (R174), which each strand's `wake` notes; no
other strand changes otherwise. -/
def Obligations.SyncBitsAct : Prop :=
  ∀ (s : State) (n : BitVec 3) (k : Nat), k = 2 * s.st.leadField + n.toNat →
    (2 * gangFields s.st.gang ≤ n.toNat → FaultsAt s (.syncs n) 0x15 0 ∧ FaultsAt s (.syncc n) 0x15 0 ∧ FaultsAt s (.syncw n) 0x15 0) ∧
    (n.toNat < 2 * gangFields s.st.gang → k < 8 →
      (∀ x, s.syncedNow n.toNat = some x → WaitsAt s (.syncw n) .syncw) ∧
      ((∀ x, s.syncedNow n.toNat = some x → x ≤ s.st.field) → (∀ l ∈ s.st.loads, l.amo = false) → ∃ t, exec (.syncs n) s = .next t ∧ t = { s with st := t.st, sync := t.sync, syncUpd := t.syncUpd, others := t.others } ∧
        ({ s.st.closeWindow 9 with wake := t.st.wake } : Strand).movedOn t.st ∧ s.st.passed t.st 4 ∧
        (t.others.map fun u => { u with wake := false }) = (s.others.map fun u => { u with wake := false }) ∧
        (∀ j, j < 8 → (SMap.get 0 t.sync s.st.coreIdx).getLsbD j = (decide (j = k) || (SMap.get 0 s.sync s.st.coreIdx).getLsbD j)) ∧
        ∀ c, c ≠ s.st.coreIdx → SMap.get 0 t.sync c = SMap.get 0 s.sync c) ∧
      ((∀ x, s.syncedNow n.toNat = some x → x ≤ s.st.field) →
        ∃ t, exec (.syncc n) s = .next t ∧ t = { s with st := t.st, sync := t.sync, syncUpd := t.syncUpd, others := t.others } ∧
        ({ s.st.closeWindow 9 with wake := t.st.wake } : Strand).movedOn t.st ∧ s.st.passed t.st 4 ∧
        (t.others.map fun u => { u with wake := false }) = (s.others.map fun u => { u with wake := false }) ∧
        (∀ j, j < 8 → (SMap.get 0 t.sync s.st.coreIdx).getLsbD j = (decide (j ≠ k) && (SMap.get 0 s.sync s.st.coreIdx).getLsbD j)) ∧
        ∀ c, c ≠ s.st.coreIdx → SMap.get 0 t.sync c = SMap.get 0 s.sync c) ∧
      ((∀ x, s.syncedNow n.toNat = some x → s.st.field < x) → (∀ l ∈ s.st.loads, l.amo = false) → s.syncedNow n.toNat ≠ none →
        CompletesIn s (.syncs n) (s.st.closeWindow 9) 4 (State.advance { s with st := s.st.closeWindow 9 } 4)) ∧
      ((SMap.get 0 s.sync s.st.coreIdx).getLsbD k = true → s.syncedNow n.toNat = none → Completes s (.syncw n) s.st 4) ∧
      ((SMap.get 0 s.sync s.st.coreIdx).getLsbD k = false → WaitsAt s (.syncw n) .syncw))

/-- R321: SPAWN and SIGNAL of a record. The address checks fault or park; poison in the words read raises 0x0C; earlier accesses are
waited for. SPAWN answers 2 with sixty-four in flight from the core, or with 4,096 live records of the partition that PART names, and 3 for a
malformed one, with no byte changed; where the schedule lets it, later words go on with its status outstanding; else 0 where DEP is zero
and 1 where not, and the scheduler owns the record. SIGNAL of a record with DEP above 1 takes one from it. -/
def Obligations.RecordsSpawnAndSignal : Prop :=
  ∀ (s : State) (d r : BitVec 5) (va : Word), va = s.st.rs r →
    (∀ c, s.recordAddr s.st va = .fault c → FaultsAt s (.spawn d r) c va ∧ FaultsAt s (.signal r) c va) ∧
    (∀ c, s.recordAddr s.st va = .absent c →
      exec (.spawn d r) s = .next (s.parkNow ⟨va, 2, c, 0⟩) ∧ exec (.signal r) s = .next (s.parkNow ⟨va, 2, c, 0⟩)) ∧
    (∀ pa part, s.recordAddr s.st va = .found pa → part = (s.recWord pa 4).toNat / 2 ^ 28 % 16 →
      (∀ a, s.recPoison pa spawnWords = some a → FaultsAt s (.spawn d r) 0x0C (poisonAt va pa a)) ∧
      (∀ a, s.recPoison pa [4] = some a → FaultsAt s (.signal r) 0x0C (poisonAt va pa a)) ∧
      (s.recPoison pa spawnWords = none → s.issuedOpen s.st s.time = true → WaitsAt s (.spawn d r) .fence) ∧
      (s.recPoison pa spawnWords = none → s.issuedOpen s.st s.time = false →
        (64 ≤ s.spawnsOf s.st.coreIdx → ∃ m, SetsRd s.st d 2 m ∧ Completes s (.spawn d r) { s.st.closeWindow 9 with sregs := m } 4) ∧
        (s.spawnsOf s.st.coreIdx < 64 → s.late.head? = some true → ∃ q : Spawning, q.pa = pa ∧ q.die = s.st.die ∧ q.part = s.st.part ∧
          q.dest = (if d = 0 then 256 else s.st.phys d.toNat) ∧
          ∃ t, CompletesIn s (.spawn d r) { s.st.closeWindow 9 with spawning := s.st.spawning ++ [q] } 4 t ∧ t.mem = s.mem ∧ t.recs = s.recs) ∧
        (4096 ≤ s.liveRecords s.st.die part → s.spawnsOf s.st.coreIdx < 64 → s.late = [] → ∃ m, SetsRd s.st d 2 m ∧
          Completes s (.spawn d r) { s.st.closeWindow 9 with sregs := m } 4) ∧
        (s.liveRecords s.st.die part < 4096 → s.spawnsOf s.st.coreIdx < 64 → s.late = [] → s.badRecord s.st.die s.st.part pa = true →
          ∃ m, SetsRd s.st d 3 m ∧ Completes s (.spawn d r) { s.st.closeWindow 9 with sregs := m } 4) ∧
        (s.liveRecords s.st.die part < 4096 → s.spawnsOf s.st.coreIdx < 64 → s.late = [] → s.badRecord s.st.die s.st.part pa = false →
          HomeQueueOk s (homeOf pa) → pa % 128 = 0 →
          ∃ t m, CompletesIn s (.spawn d r) { s.st.closeWindow 9 with sregs := m } 4 t ∧
            SetsRd s.st d (if (s.recWord pa 4).toNat / 2 ^ 32 = 0 then 0 else 1) m ∧
            ∃ e, t.recAt pa = some e ∧ e.part = s.st.part ∧ e.die = s.st.die ∧
              (e.state = if (s.recWord pa 4).toNat / 2 ^ 32 ≠ 0 then 1
                else if s.now < (s.recWord pa 3).toNat then 3 else 2))) ∧
      (s.recPoison pa [4] = none → s.issuedOpen s.st s.time = true → WaitsAt s (.signal r) .fence) ∧
      (s.recPoison pa [4] = none → s.issuedOpen s.st s.time = false → HomeQueueOk s (homeOf pa) → pa % 128 = 0 →
        2 ≤ (s.recWord pa 4).toNat / 2 ^ 32 →
        ∃ t, CompletesIn s (.signal r) (s.st.closeWindow 9) 4 t ∧ HomeStores s t (pa + 32) 8 ((s.recWord pa 4).toNat - 2 ^ 32)))

/-- R323, R325: TEND and YIELD raise 0x01 on a forked field. TEND waits for the engines and for every access, and then no strand of the
task is left; YIELD completes, and sends the press only where a context area and a task to give way to exist. -/
def Obligations.TasksEndAndYield : Prop :=
  ∀ (s : State),
    (s.st.forked = true → FaultsAt s .tend 0x01 0 ∧ FaultsAt s .yield 0x01 0) ∧
    (s.st.forked = false →
      (s.st.drained = false → WaitsAt s .tend .drain) ∧
      (s.st.drained = true → s.issuedOpen s.st s.time = true ∨ s.st.spawning ≠ [] → WaitsAt s .tend .fence) ∧
      (s.st.drained = true → s.issuedOpen s.st s.time = false → s.st.spawning = [] → s.st.live = true →
        ∃ t, exec .tend s = .next t ∧ t.st = Strand.idle ∧
          ∀ u ∈ t.others, ¬ (u.part = s.st.part ∧ u.recAddr = s.st.recAddr)) ∧
      (s.st.ctxa = 0 ∨ s.yieldsTo = false → Completes s .yield (s.st.closeWindow 9) 4) ∧
      (s.st.ctxa ≠ 0 → s.yieldsTo = true → s.st.live = true → s.st.saving = false → ∃ t, exec .yield s = .next t ∧
        ({ s.st.closeWindow 9 with saveReq := true } : Strand).movedOn t.st ∧ s.st.passed t.st 4 ∧
        t = { s with st := t.st, others := s.others.map fun x =>
          if x.part = s.st.part ∧ x.recAddr = s.st.recAddr ∧ x.saving = false then { x with saveReq := true } else x }))

/-- R274, R275, R277, R278: the barrier words. A strand of no live domain, a broken domain or a forked field raises 0x15, and so does
BARA behind an arrival that stands. An arrival with nothing outstanding is registered: the phase counts it, and the last one
completes the phase. BAR waits until the phase it arrived at is complete; BARW answers 0 where it was complete by the limit, and 1
once the limit is reached without. -/
def Obligations.BarriersArriveAndWait : Prop :=
  ∀ (s : State) (d r : BitVec 5) (D : Domain),
    (s.barrierFault = true → FaultsAt s .bar 0x15 0 ∧ FaultsAt s (.barw d r) 0x15 0 ∧ FaultsAt s .bara 0x15 0) ∧
    (domMembers s.st.dom = 0 ∨ s.st.forked = true ∨ s.domainOf s.st = none → s.barrierFault = true) ∧
    (s.domainOf s.st = some D → D.broken = true → s.barrierFault = true) ∧
    (s.barrierFault = false → s.st.pendBit = true → FaultsAt s .bara 0x15 0) ∧
    (s.barrierFault = false → s.domainOf s.st = some D → s.st.live = true → s.st.pendBit = false →
      s.issuedOpen s.st s.time = false → s.st.enqueuedOpen s.st.seq = false → s.hub.d2dDown = false → D.level ≠ 5 → D.live ≠ [] →
      ∃ t, CompletesIn s .bara { s.st.closeWindow 9 with pendBit := true, phase := D.phase, arriving := none } 4 t ∧ t.mem = s.mem ∧
        t.domainOf t.st = some (if D.members ≤ D.arrived + 1 + D.gone then { D with phase := D.phase + 1, arrived := 0, doneAt := s.now }
          else { D with arrived := D.arrived + 1 })) ∧
    (∀ limit, s.barrierFault = false → s.domainOf s.st = some D → s.st.pendBit = true → s.st.arriving = none →
      limit = (match s.st.stall with | some (.barrier (some l)) => l | _ => s.now + (s.st.rs r).toNat % 2 ^ 32) →
      (s.st.phase < D.phase → Completes s .bar { s.st.closeWindow 9 with pendBit := false } 4) ∧
      (D.phase ≤ s.st.phase →
        exec .bar s = .next { s with st := { s.st.closeWindow 9 with stall := some (.barrier none) } }) ∧
      (s.st.phase < D.phase → D.doneAt ≤ limit →
        ∃ m, SetsRd s.st d 0 m ∧ Completes s (.barw d r) { s.st.closeWindow 9 with pendBit := false, sregs := m } 4) ∧
      (D.phase ≤ s.st.phase ∨ limit < D.doneAt →
        (limit ≤ s.now → ∃ m, SetsRd s.st d 1 m ∧ Completes s (.barw d r) { s.st.closeWindow 9 with sregs := m } 4) ∧
        (s.now < limit → exec (.barw d r) s =
          .next { s with st := { s.st.closeWindow 9 with stall := some (.barrier (some limit)) } }))) ∧
    (∀ limit, s.st.stall = some (.barrier (some limit)) → s.st.live = true →
      (limit ≤ s.now → s.fetch s.st.part s.st.pc = .ok (.barw d r) → exec .barwLimitExpiry s = exec (.barw d r) s ∧
        (s.barrierFault = false → s.domainOf s.st = some D → s.st.pendBit = true → s.st.arriving = none →
          (s.st.phase < D.phase → D.doneAt ≤ limit → ∃ m, SetsRd s.st d 0 m ∧
            Completes s .barwLimitExpiry { s.st.closeWindow 9 with pendBit := false, sregs := m } 4) ∧
          (D.phase ≤ s.st.phase ∨ limit < D.doneAt → ∃ m, SetsRd s.st d 1 m ∧
            Completes s .barwLimitExpiry { s.st.closeWindow 9 with sregs := m } 4))) ∧
      (s.now < limit → exec .barwLimitExpiry s = .next s)) ∧
    (∀ u n, s.st.live = true → s.domainOf s.st = some D → s.st.arriving = some (u, n) → D.level ≠ 5 → D.live ≠ [] →
      (s.issuedOpen s.st u = true ∨ s.st.enqueuedOpen n = true → exec .barrierArrival s = .next s) ∧
      (s.issuedOpen s.st u = false → s.st.enqueuedOpen n = false → s.hub.d2dDown = false → ∃ t, exec .barrierArrival s = .next t ∧
        t = { s with st := { s.st with arriving := none }, domains := t.domains } ∧
        t.domainOf s.st = some (if D.members ≤ D.arrived + 1 + D.gone then { D with phase := D.phase + 1, arrived := 0, doneAt := s.now }
          else { D with arrived := D.arrived + 1 })))

/-! ### Engine words (R194-R203, chapters 5, 6, 10) -/

/-- R16, R20, R43, R45, R195, Table 2.5: what each lane-wise V word puts into the V queue. -/
def Obligations.VectorWordsEnqueue : Prop :=
  ∀ (s : State) (t c d a b : BitVec 4) (l y b' : BitVec 2) (src : BSrc), s.st.reexec = none →
    (∀ p ∈ [(Instr.vadd, VOp.add), (.vsub, .sub), (.vmul, .mul), (.vmulh, .mulh), (.vmulhn, .mulhn), (.vmad, .mad), (.vadds, .adds),
        (.vsubs, .subs), (.vaddsn, .addsn), (.vsubsn, .subsn), (.vmin, .min), (.vmax, .max), (.vminn, .minn), (.vmaxn, .maxn),
        (.vand, .and), (.vor, .or), (.vxor, .xor), (.vandn, .andn), (.vshl, .shl), (.vshr, .shr), (.vsra, .sra), (.fadd, .fadd),
        (.fsub, .fsub), (.fmul, .fmul), (.ffma, .ffma), (.ffms, .ffms), (.fmin, .fmin), (.fmax, .fmax), (.vscale, .scale),
        (.vperm, .perm)],
      EnqueuesV s (p.1 t c d a b l y) t c 4 ⟨p.2, condPred c, y.toNat, l.toNat, s.st.vdst d, s.st.vsrc a, s.st.vsrc b, 0, 0, 0⟩) ∧
    (∀ p ∈ [(Instr.vaddBcast, VOp.add), (.vsubBcast, .sub), (.vmulBcast, .mul), (.vmulhBcast, .mulh), (.vmulhnBcast, .mulhn),
        (.vmadBcast, .mad), (.vaddsBcast, .adds), (.vsubsBcast, .subs), (.vaddsnBcast, .addsn), (.vsubsnBcast, .subsn),
        (.vminBcast, .min), (.vmaxBcast, .max), (.vminnBcast, .minn), (.vmaxnBcast, .maxn), (.vandBcast, .and), (.vorBcast, .or),
        (.vxorBcast, .xor), (.vandnBcast, .andn), (.vshlBcast, .shl), (.vshrBcast, .shr), (.vsraBcast, .sra)],
      EnqueuesV s (p.1 t c d a src) t c (bcastBytes src)
        ⟨p.2, condPred c, 2, 0, s.st.vdst d, s.st.vsrc a, .bcast (s.st.bsrc src), 0, 0, 0⟩) ∧
    (∀ p ∈ [(Instr.faddBcast, VOp.fadd), (.fsubBcast, .fsub), (.fmulBcast, .fmul), (.ffmaBcast, .ffma), (.ffmsBcast, .ffms),
        (.fminBcast, .fmin), (.fmaxBcast, .fmax)],
      EnqueuesV s (p.1 t c d a src) t c (bcastBytes src)
        ⟨p.2, condPred c, 0, 0, s.st.vdst d, s.st.vsrc a, .bcast (s.st.bsrc src), 0, 0, 0⟩) ∧
    (∀ p ∈ [(Instr.vabs, VOp.abs), (.vclz, .clz), (.vpopc, .popc), (.fabs, .fabs), (.fneg, .fneg), (.frcp, .frcp), (.frsq, .frsq),
        (.fexp2, .fexp2), (.flog2, .flog2), (.fclass, .fclass)],
      EnqueuesV s (p.1 t c d a l y) t c 4 ⟨p.2, condPred c, y.toNat, l.toNat, s.st.vdst d, s.st.vsrc a, .none, 0, 0, 0⟩) ∧
    (∀ p ∈ [(Instr.vcmp, VOp.cmp), (.vcmpn, .cmpn), (.fcmp, .fcmp)],
      EnqueuesV s (p.1 t c d a b l y) t c 4 ⟨p.2, condPred c, y.toNat, l.toNat, .pred d.toNat, s.st.vsrc a, s.st.vsrc b, 0, 0, 0⟩) ∧
    (∀ p ∈ [(Instr.vcvt, VOp.cvt), (.vqpack, .qpack), (.vqunpk, .qunpk), (.vsel, .sel), (.vbcasts, .bcasts)],
      EnqueuesV s (p.1 t c d a b l) t c 4 ⟨p.2, condPred c, 0, l.toNat, s.st.vdst d, s.st.vsrc a, .none, 0, b.toNat, 0⟩) ∧
    (∀ p ∈ [(Instr.vredadd, VOp.redadd), (.vredmax, .redmax)],
      EnqueuesV s (p.1 t c d a b l y) t c 4 ⟨p.2, condPred c, y.toNat, l.toNat, s.st.vdst d, s.st.vsrc a, .none, 0, b.toNat, 0⟩) ∧
    EnqueuesV s (.vshf t c d a b' l) t c 4 ⟨.shf, condPred c, 0, l.toNat, s.st.vdst d, s.st.vsrc a, .none, 0, b'.toNat, 0⟩ ∧
    EnqueuesV s (.vxtr t c a b l) t c 4 ⟨.xtr, condPred c, 0, l.toNat, .none, s.st.vsrc a, .none, 0, b.toNat, 0⟩ ∧
    EnqueuesV s (.plog t c d a b l) t c 4 ⟨.plog, condPred c, 0, l.toNat, .pred d.toNat, .none, .none, a.toNat, b.toNat, 0⟩ ∧
    EnqueuesV s (.pset t c d a b l) t c 4 ⟨.pset, condPred c, 0, l.toNat, .pred d.toNat, .none, .none, a.toNat, b.toNat, 0⟩ ∧
    EnqueuesV s (.ptst t c a) t c 4 ⟨.ptst, condPred c, 0, 0, .none, .none, .none, a.toNat, 0, 0⟩ ∧
    EnqueuesV s (.vnop t c) t c 4 ⟨.nop, condPred c, 0, 0, .none, .none, .none, 0, 0, 0⟩ ∧
    EnqueuesV s (.vfence t c) t c 4 ⟨.fence, condPred c, 0, 0, .none, .none, .none, 0, 0, 0⟩

/-- R49, R131-R137, R195: what the V words that access memory put into the V queue: the base s(16 + n) is captured. -/
def Obligations.VectorMemoryWordsEnqueue : Prop :=
  ∀ (s : State) (t c d a b : BitVec 4) (l y : BitVec 2) (base : Word), s.st.reexec = none → base = s.st.rs (16 + a.setWidth 5) →
    (∀ p ∈ [(Instr.tld, VOp.tld), (.tst, .tst)],
      EnqueuesV s (p.1 t c d a b l) t c 4 ⟨p.2, condPred c, 0, l.toNat, s.st.vdst d, .none, .none, 0, b.toNat, base⟩) ∧
    (∀ p ∈ [(Instr.tldx, VOp.tldx), (.tstx, .tstx)],
      EnqueuesV s (p.1 t c d a b l y) t c 4 ⟨p.2, condPred c, y.toNat, l.toNat, s.st.vdst d, .none, s.st.vsrc b, 0, 0, base⟩) ∧
    (∀ p ∈ [(Instr.gld, VOp.gld), (.gst, .gst), (.gldp, .gldp)],
      EnqueuesV s (p.1 t c d a b y) t c 4 ⟨p.2, condPred c, y.toNat, 3, s.st.vdst d, .none, s.st.vsrc b, 0, 0, base⟩) ∧
    EnqueuesV s (.gamoAdd t c d a b y) t c 4 ⟨.gamo, condPred c, y.toNat, 0, s.st.vdst d, .none, s.st.vsrc b, 0, 0, base⟩ ∧
    (∀ p ∈ [(Instr.gamoMin, 1), (.gamoMax, 2), (.gamoSwap, 3)],
      EnqueuesV s (p.1 t c d a b) t c 4 ⟨.gamo, condPred c, 0, p.2, s.st.vdst d, .none, s.st.vsrc b, 0, 0, base⟩)

/-- R194, R195, R235, Table 2.6: what each D word with TS = 0 puts into the D queue; with TS = 1 and no value outstanding the first issue
also opens a window with the checkpoint of its boundary, which keeps the word for the comparison of R240. -/
def Obligations.DotWordsEnqueue : Prop :=
  ∀ (s : State) (t : BitVec 4) (g : BitVec 3) (c a4 h f r n p q z : BitVec 4) (a b : BitVec 6) (k p2 : BitVec 2) (e : BitVec 3)
    (x : BitVec 1), s.st.reexec = none →
    EnqueuesD s (.tcfg t 0 g h k) t g (.tcfg h.toNat k.toNat) ∧
    EnqueuesD s (.tzero t 0 g a4) t g (.tzero a4.toNat) ∧
    EnqueuesD s (.dot t 0 g c a b x) t g (.dot c.toNat a.toNat b.toNat x.toNat) ∧
    EnqueuesD s (.dotc t 0 g c a4 k b x) t g (.dotc c.toNat a4.toNat k.toNat b.toNat x.toNat) ∧
    EnqueuesD s (.sbppt t 0 g p2 a r) t g (.sbppt p2.toNat a.toNat r.toNat) ∧
    EnqueuesD s (.sbpsc t 0 g p2 a x) t g (.sbpsc p2.toNat a.toNat x.toNat) ∧
    EnqueuesD s (.sbpma t 0 g c p2 r) t g (.sbpma c.toNat p2.toNat r.toNat) ∧
    EnqueuesD s (.sbpd t 0 g c a b x) t g (.sbpd c.toNat a.toNat b.toNat x.toNat) ∧
    EnqueuesD s (.tout t 0 g c a f e) t g (.tout c.toNat a.toNat f.toNat e.toNat) ∧
    EnqueuesD s (.tin t 0 g c a f) t g (.tin c.toNat a.toNat f.toNat) ∧
    EnqueuesD s (.fmtw t 0 g n p q z x) t g (.fmtw n.toNat (p ++ q ++ z ++ x)) ∧
    (∀ (i : Instr) (op : DOp), i.wf = true → dotWord i = some ⟨.D, .d op, t, g.toNat, true, 4⟩ → s.st.rep.made = 0 →
      (s.st.awaiting = true → WaitsAt s i .interlock) ∧
      (s.st.awaiting = false → s.st.openWindow.room .D 1 = true → ∃ u, exec i s = .next u ∧ u = { s with st := u.st } ∧
        (behind s.st.openWindow .D (freshCmd s.st (.d op) t g.toNat true)).movedOn u.st ∧ s.st.passed u.st 4 ∧
        u.st.win = some ⟨s.st.checkpoint, s.st.seq, 1, none, none, [], [], [], [⟨s.st.pc, [(.D, .d op)], 0⟩], false⟩))

/-- R20, R49, R50, R194, R195, Table 2.7: what each C word puts into the C queue, with the scalars s(16 + n) captured; QBIND and
QUNB rename their stream at once; a copy with FO = 1 takes its D word with it and is eight bytes long. -/
def Obligations.CopyWordsEnqueue : Prop :=
  ∀ (s : State) (t : BitVec 4) (g sc : BitVec 3) (l : BitVec 6) (a b c m : BitVec 4) (d : BitVec 1) (p h q : BitVec 2)
    (x y z : Word), s.st.reexec = none → x = s.st.rs (16 + a.setWidth 5) → y = s.st.rs (16 + b.setWidth 5) →
    z = s.st.rs (16 + c.setWidth 5) →
    EnqueuesC s (.tdef t g l a) t g (.tdef l.toNat x) ∧
    EnqueuesC s (.cpy t none g l a b d p) t g (.cpy l.toNat x y (decide (d = 1)) p.toNat) ∧
    EnqueuesC s (.cpyb t none g l a b p) t g (.cpyb l.toNat x y p.toNat) ∧
    EnqueuesC s (.cpyx t none g l a b) t g (.cpyx l.toNat x y) ∧
    EnqueuesC s (.cpyr t none g l a b d p) t g (.cpyr l.toNat x y (decide (d = 1)) p.toNat) ∧
    EnqueuesC s (.cpye t none g a b c h p d) t g (.cpye x y z h.toNat p.toNat (decide (d = 1))) ∧
    EnqueuesC s (.trel t g l) t g (.trel l.toNat) ∧
    EnqueuesC s (.qfence t g m sc) t g (.qfence m.toNat sc.toNat) ∧
    (s.st.room .C 1 = true →
      Completes s (.qbind t g q a b c)
        { behind s.st .C (freshCmd s.st (.c (.qbind q.toNat (s.st.qbinds.getD q.toNat 0 + 1) x y z) none) t g.toNat false) with
          qname := s.st.qname.set q.toNat true, qbinds := s.st.qbinds.set q.toNat (s.st.qbinds.getD q.toNat 0 + 1) } 4 ∧
      Completes s (.qunb t g q)
        { behind s.st .C (freshCmd s.st (.c (.qunb q.toNat (s.st.qbinds.getD q.toNat 0)) none) t g.toNat false) with
          qname := s.st.qname.set q.toNat false } 4) ∧
    (∀ (w : W32) (i : Instr) (op : DOp) (tok : BitVec 4) (cg : Nat) (ts : Bool) (k : Option Carried), decode w 0 = .ok i →
      dotWord i = some ⟨.D, .d op, tok, cg, ts, 4⟩ →
      k = some ⟨op, s.st.pc + 4, tok, ts, if cg = 0 then none else some ⟨cg, (s.st.guardSlot cg).gid⟩⟩ →
      ∀ e ∈ [(Instr.cpy t (some w) g l a b d p, COp.cpy l.toNat x y (decide (d = 1)) p.toNat),
          (.cpyb t (some w) g l a b p, .cpyb l.toNat x y p.toNat), (.cpyx t (some w) g l a b, .cpyx l.toNat x y),
          (.cpyr t (some w) g l a b d p, .cpyr l.toNat x y (decide (d = 1)) p.toNat),
          (.cpye t (some w) g a b c h p d, .cpye x y z h.toNat p.toNat (decide (d = 1)))],
        (ts = false → s.st.room .C 1 = true → s.st.room .D 1 = true →
          Completes s e.1 (behind s.st .C (freshCmd s.st (.c e.2 k) t g.toNat false)) 8) ∧
        (ts = true → s.st.rep.made = 0 → s.st.awaiting = true → WaitsAt s e.1 .interlock) ∧
        (ts = true → s.st.rep.made = 0 → s.st.awaiting = false → s.st.openWindow.room .C 1 = true → s.st.openWindow.room .D 1 = true →
          ∃ u, exec e.1 s = .next u ∧ u = { s with st := u.st } ∧ s.st.passed u.st 8 ∧
            (behind s.st.openWindow .C (freshCmd s.st (.c e.2 k) t g.toNat false)).movedOn u.st ∧
            u.st.win = some ⟨s.st.checkpoint, s.st.seq, 1, none, none, [], [], [], [⟨s.st.pc, [(.C, .c e.2 k)], 0⟩], false⟩))

/-- R53, R97, R201: LOOPB decodes its whole body first and takes the body's fault; a count of zero enqueues nothing; a body of
one VADD becomes a share of the V queue with the captured count, its command as R195 captures it at its own address. -/
def Obligations.LoopbEnqueuesBody : Prop :=
  ∀ (s : State) (r : BitVec 5) (v d c : BitVec 3) (l : BitVec 8), s.st.reexec = none →
    (∀ code a, s.loopbParts c.toNat d.toNat v.toNat l.toNat = .error (code, a) → FaultsAt s (.loopb r v d c l) code a) ∧
    (∀ parts, s.loopbParts c.toNat d.toNat v.toNat l.toNat = .ok parts → (s.st.rs r).toNat % 2 ^ 32 = 0 →
      Completes s (.loopb r v d c l) s.st (4 * (l.toNat + 1))) ∧
    (∀ (t k e a b : BitVec 4) (lb y : BitVec 2), l = 1 →
      s.fetch s.st.part (s.st.pc + 4) = .ok (.vadd t k e a b lb y) → (s.st.rs r).toNat % 2 ^ 32 ≠ 0 → s.st.room .V 1 = true →
      s.st.room .D 0 = true → s.st.room .C 0 = true →
      ∀ cmd, cmd = { freshCmd s.st (.v ⟨.add, condPred k, y.toNat, lb.toNat, s.st.vdst e, s.st.vsrc a, s.st.vsrc b, 0, 0, 0⟩)
        t (condGuard k) false with addr := s.st.pc + 4, repk := 0 } →
      Completes s (.loopb r v d c l) { s.st with
        vq := { s.st.vq with items := s.st.vq.items ++
          [.outer ⟨s.st.loopSeq + 1, [.cmd cmd], [.cmd cmd], (s.st.rs r).toNat % 2 ^ 32, 0, 0⟩] },
        seq := s.st.seq + 1, loopSeq := s.st.loopSeq + 2 } 8)

/-- R105, R198, R201: the moves of a queue's head. A share whose iteration is done counts it and passes to its next one, or, the last
being done, leaves; a head that lacks a token for the watchdog interval raises 0x0E behind its queue, which stops. -/
def Obligations.QueueHeadsMove : Prop :=
  ∀ (s : State) (q : EngineQ),
    (∀ (o : Outer) (rest left : List Item), s.st.live = true → (s.st.queue q).cur = none →
      (s.st.queue q).items = Item.outer o :: rest → o.todo = [] →
      (o.iter + 1 < o.count ∧ left = Item.outer ({ o with todo := o.body.map BodyItem.fresh, iter := o.iter + 1 } : Outer) :: rest ∨
        o.count ≤ o.iter + 1 ∧ left = rest) →
      ∃ m, (∀ k, SMap.get 0 m k = if k = outerKey o.id q then SMap.get 0 s.st.loopDone k + 1 else SMap.get 0 s.st.loopDone k) ∧
        exec (.loopbIteration q) s = .next { s with
          st := { s.st.setQueue q { s.st.queue q with items := left } with loopDone := m } }) ∧
    (s.st.live = false → exec (.loopbIteration q) s = .next s) ∧
    (∀ st k c, s.st.stage q = (st, .lacks k) → (st.queue q).cur = some c → c.since ≠ 2 ^ 64 → c.since + Config.watchdog ≤ st.cyc →
      ∃ t, exec (.tokenWatchdog q) s = .next t ∧ t = { s with st := t.st } ∧ (t.st.queue q).stopped = true ∧ t.st.tok = st.tok ∧
        t.st.pc = st.pc ∧ t.st.pend = st.pend ++ [⟨0x0E, queueSrc q, 0, c.addr, word (tokNum k), c.repk, c.seq, c.lp, false⟩]) ∧
    (∀ c, HeadAt s.st q c true → c.tok = 0 → q ≠ .V → s.st.win = none → s.st.replay = [] → (∀ op k, c.pay ≠ .c op (some k)) →
      exec (.commandDiscard q) s = .next { s with st := headGone s.st q }) ∧
    (∀ c, HeadAt s.st .V c true → c.tok = 0 → s.st.flights = [] →
      exec (.commandDiscard .V) s = .next { s with st := { headGone s.st .V with vcyc := s.st.vcyc + 1 } })

/-- R62, R108, R112, R118, Table 5.5: a turn of the V engine at an integer command under p0, from registers with no result on its
way, or a broadcast value: every element of the destination, in every cell of the grid, is the function of Table 5.5 of the elements in its place;
no other register, byte or scalar register changes. -/
def Obligations.IntegerLanesComputed : Prop :=
  ∀ (s : State) (gap : Nat) (c : Cmd) (v : VCmd) (d a w : Nat), HeadAt s.st .V c false → s.st.cq = Queue.empty → s.st.flights = [] →
    s.st.win = none → s.resume = [] → s.st.vfrozen = false → s.hub.holds = false → c.pay = .v v → v.cond = 0 → v.dst = .vec d → v.a = .reg a → (∀ q k, v.b ≠ .stream q k) → d < 128 →
    (v.ty = 0 ∧ w = 8 ∨ v.ty = 1 ∧ w = 16 ∨ v.ty = 2 ∧ w = 32) → (laneInt w v.op 0 0 0).isSome = true →
    ∃ t, exec (.vIssue gap) s = .next t ∧ t.mem = s.mem ∧ t.others = s.others ∧ t.preds = s.preds ∧ t.st.sregs = s.st.sregs ∧
      t.st.sys = s.st.sys ∧ t.st.pc = s.st.pc ∧ t.st.vq = { s.st.vq with cur := none } ∧ t.st.vcyc = s.st.vcyc + gap + 1 ∧
      (∀ n j e, n < s.st.cellCount → j < 16 → w * e < 32 →
        some (t.elem (s.st.cell n) d j w e) =
          laneInt w v.op (s.elem (s.st.cell n) a j w e) (s.operandElem (s.st.cell n) v.b j w e) (s.elem (s.st.cell n) d j w e)) ∧
      ∀ k, (∀ n, n < s.st.cellCount → k ≠ vKey (s.st.cell n) d) → SMap.get 0 t.vregs k = SMap.get 0 s.vregs k

/-- R29, R109, R114, R115: V_PERFORMED lands the oldest V result that has not landed, here of a command with no global lanes: its flags are ORed into STATUS, its mailbox value is
written; one whose load met poison stops its queue with 0x0C instead, counting the V commands issued since (R168). -/
def Obligations.ResultsLand : Prop :=
  ∀ (s : State) (f : Flight) (rest : List Flight), s.st.live = true → s.st.park = none → s.st.flights = f :: rest → f.landed = false →
    f.store = false → f.tok = 0 → f.atoms = none → f.reads = [] → f.isGldp = false →
    (∀ a, f.poison = some a → ∃ t, exec .vPerformed s = .next t ∧ t.st.vq.stopped = true ∧ t.st.pc = s.st.pc ∧ t.vregs = s.vregs ∧
      t.st.pend = s.st.pend ++ [⟨0x0C, 1, f.later, f.cmd.addr, a, f.cmd.repk, f.cmd.seq, f.cmd.lp, false⟩]) ∧
    (f.poison = none → ∃ t, exec .vPerformed s = .next t ∧ t = { s with st := t.st } ∧
      t.st.status = (s.st.status ||| (f.flags.setWidth 64 <<< 8)) ∧
      (∀ v, f.mb = some v → t.st.sysv 0x005 = v) ∧ t.st.pc = s.st.pc ∧ t.st.sregs = s.st.sregs ∧
      ∀ g ∈ rest, g.landed = false → g ∈ t.st.flights)

/-! ### The D and C engines (chapters 6, 10) -/

/-- R139, R144, R145, R150, R76: D_PERFORMED at an undisturbed head. FMTW writes its format-table entry; TCFG sets shape and K step
and clears the table and the accumulators of the grid; TZERO clears a unit; DOT of INT8 tiles with an INT32 accumulator adds to
each element the exact sum of products modulo 2^32, in every cell; each while the governor does not hold the issue. No byte of memory changes. R142, R198, R245: what stops a head:
a wait on one tile for the watchdog interval raises 0x12 with the tile; poison in a tile with no window open ends the task
as a machine check. -/
def Obligations.DotEngineActs : Prop :=
  (∀ (s : State) (st : Strand) (c : Cmd) (op : DOp), s.st.stage .D = (st, .perform c) → c.pay = .d op →
    (∀ n, State.dCheck { s with st := st } op c = .wait n → c.on = n → c.since + Config.watchdog ≤ st.cyc →
      ∃ t, exec .tileWaitWatchdog s = .next t ∧ t = { s with st := t.st } ∧ t.st.dq.stopped = true ∧
        t.st.pend = st.pend ++ [⟨0x12, 2, 0, c.addr, word n, c.repk, c.seq, c.lp, false⟩] ∧ t.st.pc = st.pc) ∧
    (∀ tile off, State.dCheck { s with st := st } op c = .ok → st.win = none →
      State.tilePoison { s with st := st } op c = some (tile, off) →
      exec .dPoisonConsumed s = .next (State.machineCheck { s with st := st } st 2 c.addr (word (14 * 2 ^ 60 + off)))) ∧
    (State.dCheck { s with st := st } op c = .ok → st.win = none → State.tilePoison { s with st := st } op c = none →
      exec .dPoisonConsumed s = .next s)) ∧
  ∀ (s : State) (c : Cmd), HeadAt s.st .D c false → c.tok = 0 → s.st.win = none → s.st.replay = [] → s.hub.holds = false →
    (∀ n code, n < 16 → c.pay = .d (.fmtw n code) →
      exec .dPerformed s = .next { s with st := headGone (s.st.setSys (0x020 + n) (code.setWidth 64)) .D }) ∧
    (∀ h k, c.pay = .d (.tcfg h k) → ∃ t, exec .dPerformed s = .next t ∧ t.st.shape = h ∧ t.st.kstep = 32 * 2 ^ k ∧
      t.st.dq = { s.st.dq with cur := none } ∧ t.mem = s.mem ∧ t.pt = s.pt ∧ t.rs = s.rs ∧
      (∀ n, n < 16 → t.st.sysv (0x020 + n) = 0) ∧ (∀ n, (∀ j, j < 16 → n ≠ 0x020 + j) → t.st.sysv n = s.st.sysv n) ∧
      ∀ n, SMap.get 0 t.acc n = if n / 4096 ∈ s.st.grid then 0 else SMap.get 0 s.acc n) ∧
    (∀ a, a < 16 → s.st.shape = 0 → c.pay = .d (.tzero a) → ∃ t, exec .dPerformed s = .next t ∧
      t.st = headGone s.st .D ∧ t.mem = s.mem ∧ (∀ cell ∈ s.st.grid, SMap.get false t.accInt (tKey cell a) = false) ∧
      (∀ cell ∈ s.st.grid, ∀ n, n < 256 → SMap.get 0 t.acc (accKey cell a n) = 0) ∧
      ∀ n, n / 256 % 16 ≠ a ∨ n / 4096 ∉ s.st.grid → SMap.get 0 t.acc n = SMap.get 0 s.acc n) ∧
    (∀ acc a b, acc < 16 → s.st.shape = 0 → s.sOpen s.st = false → s.st.shadow = [] → c.pay = .d (.dot acc a b 0) → s.st.sysv 0x020 = 3 * 2 ^ 9 + 3 * 2 ^ 5 + 1 →
      (∀ x ∈ [a, b], (s.st.tile x).len ≠ 0 ∧ (s.st.tile x).st = .ready ∧ (s.st.tile x).tag = 3 ∧
        16 * s.st.kstep ≤ 64 * (s.st.tile x).len ∧
        ∀ cell ∈ s.st.grid, s.reclaimedIn cell (64 * (s.st.tile x).base) (16 * s.st.kstep) = false ∧ ∀ n, n < 16 * s.st.kstep →
          s.homePoison (towerPA cell (64 * (s.st.tile x).base + n)) = false) →
      ∃ t, exec .dPerformed s = .next t ∧ t.st = headGone s.st .D ∧ t.mem = s.mem ∧
        (∀ cell ∈ s.st.grid, SMap.get false t.accInt (tKey cell acc) = true) ∧
        ∀ cell ∈ s.st.grid, ∀ row col, row < 16 → col < 16 →
          SMap.get 0 t.acc (accKey cell acc (16 * row + col)) = SMap.get 0 s.acc (accKey cell acc (16 * row + col)) +
            BitVec.ofInt 32 (((List.range s.st.kstep).map fun i =>
              (s.homeByte (towerPA cell (64 * (s.st.tile a).base + (row * s.st.kstep + i)))).toInt *
                (s.homeByte (towerPA cell (64 * (s.st.tile b).base + (col * s.st.kstep + i)))).toInt).sum))

/-- R208, R210, R231, R233, R292: COPY_BEGIN at an undisturbed head performs the C words that move no byte: TDEF defines its tile or takes
its fault, TREL empties a tile or raises 0x12, QBIND and QUNB write their stream once no earlier V command names it, an INVAL
marker leaves the queue. -/
def Obligations.CopyQueueActs : Prop :=
  ∀ (s : State) (c : Cmd), HeadAt s.st .C c false → c.tok = 0 → s.st.win = none → s.st.cheld = none → s.resume = [] → s.st.replay = [] →
    (∀ n v, c.pay = .c (.tdef n v) none → tdefFault v = none → ∃ t, exec .copyBegin s = .next t ∧ t.mem = s.mem ∧
      t.st = headGone (s.st.setTile n ⟨.empty, v.toNat % 2 ^ 15, v.toNat / 2 ^ 15 % 2 ^ 15 + 1, v.toNat / 2 ^ 30 % 2 ^ 3,
        v.toNat / 2 ^ 33 % 2 ^ 4, none⟩) .C) ∧
    (∀ n v code a, c.pay = .c (.tdef n v) none → tdefFault v = some (code, a) → ∃ t, exec .copyBegin s = .next t ∧
      t.st.cq.stopped = true ∧ t.st.tiles = s.st.tiles ∧ t.st.pend = s.st.pend ++ [⟨code, 3, 0, c.addr, a, c.repk, c.seq, c.lp, false⟩]) ∧
    (∀ n, c.pay = .c (.trel n) none → (s.st.tile n).len ≠ 0 →
      exec .copyBegin s = .next { s with st := headGone (s.st.setTile n { s.st.tile n with st := .empty }) .C }) ∧
    (∀ n, c.pay = .c (.trel n) none → (s.st.tile n).len = 0 → ∃ t, exec .copyBegin s = .next t ∧ t.st.cq.stopped = true ∧
      t.st.pend = s.st.pend ++ [⟨0x12, 3, 0, c.addr, word n, c.repk, c.seq, c.lp, false⟩]) ∧
    (∀ q b x y z, c.pay = .c (.qbind q b x y z) none → qbindFault x y z = none → s.st.pendingPops c q = false →
      exec .copyBegin s = .next { s with st := headGone (s.st.setStream q (streamOf b x y z)) .C }) ∧
    (∀ q b, c.pay = .c (.qunb q b) none → s.st.pendingPops c q = false →
      exec .copyBegin s = .next { s with st := headGone (s.st.setStream q Stream.unbound) .C }) ∧
    (∀ p g, c.pay = .c (.marker p g) none → exec .invalMarker s = .next { s with st := { s.st with cq := { s.st.cq with cur := none } } })

/-- R213, R215, R216, R219, R221, R232, R239: copies and streams. A copy of rows between tile and tower whose bursts have landed is performed:
in every cell the bytes of the one stand where those of the other did, row after row packed in the tile, no other byte changes; a filled tile
is READY with its fill record, a drained one READY or, with REL, EMPTY. A copy from HBM into a tile of which no line has landed fails
with 0x05 at the line its home answers with an error and, under a rind policy, with 0x0D at the block whose rind is wrong; a copy that
expands, with 0x0A at the block beyond its ratio: the queue stops, the tile is EMPTY and no byte changes. A gather whose mask names its own
core alone begins; one that has waited for the watchdog interval raises 0x15. A stream decoder with room decodes one group, of a raw
stream 64 bytes of each cell's tower. -/
def Obligations.CopiesComplete : Prop :=
  ∀ (s : State) (c : Cmd) (n off len : Nat) (far pat : Word) (tile : Tile), tile = s.st.tile n → off % 64 = 0 → 0 < len → len < 2 ^ 16 →
    (∀ rows stride op, op = COp.cpy n far pat false 0 → CopyAt s c op → far = word (14 * 2 ^ 60 + off) →
      pat = word (stride * 2 ^ 32 + rows * 2 ^ 16 + len) → 0 < rows → rows < 2 ^ 16 → stride < 2 ^ 16 → len * rows ≤ 64 * tile.len →
      (∀ b ∈ s.bursts, b.sid ≠ s.st.sid) → s.hub.d2dDown = false → Memory.wf s.mem = true →
      (∀ cell ∈ s.st.grid, cell < 32768 ∧ TowerOpen s cell (64 * tile.base) (len * rows) ∧
        ∀ r, r < rows → TowerOpen s cell (off + 64 * stride * r) len) →
      ∃ t, exec .copyPerformed s = .next t ∧
        t.st = headGone { s.st.setTile n { tile with st := .ready, fill := some ⟨far, pat, 0, 1⟩ } with ctr := [] } .C ∧
        (∀ cell ∈ s.st.grid, ∀ r j, r < rows → j < len →
          t.homeByte (towerPA cell (64 * tile.base + (len * r + j))) = s.homeByte (towerPA cell (off + 64 * stride * r + j))) ∧
        ∀ a, (∀ cell ∈ s.st.grid, ∀ k, k < len * rows → a ≠ towerPA cell (64 * tile.base + k)) → t.homeByte a = s.homeByte a) ∧
    (∀ rel op, op = COp.cpy n far pat true 0 → CopyAt s c op → far = word (14 * 2 ^ 60 + off) → rel < 2 →
      pat = word (rel * 2 ^ 60 + 2 ^ 16 + len) → len ≤ 64 * tile.len → tile.st = .draining →
      (∀ b ∈ s.bursts, b.sid ≠ s.st.sid) → s.hub.d2dDown = false → Memory.wf s.mem = true →
      (∀ cell ∈ s.st.grid, cell < 32768 ∧ TowerOpen s cell (64 * tile.base) len ∧ TowerOpen s cell off len) →
      ∃ t, exec .copyPerformed s = .next t ∧
        t.st = headGone { s.st.setTile n { tile with st := if rel = 1 then .empty else .ready } with ctr := [] } .C ∧
        (∀ cell ∈ s.st.grid, ∀ j, j < len → t.homeByte (towerPA cell (off + j)) = s.homeByte (towerPA cell (64 * tile.base + j))) ∧
        ∀ a, (∀ cell ∈ s.st.grid, ∀ k, k < len → a ≠ towerPA cell (off + k)) → t.homeByte a = s.homeByte a) ∧
    (∀ sp pa line policy op, op = COp.cpy n far pat false policy → CopyAt s c op → sp < 14 → off + len < 2 ^ 60 → far = word (sp * 2 ^ 60 + off) →
      pat = word (2 ^ 16 + len) → len ≤ 64 * tile.len → pa % 64 = 0 → HbmOpen s sp off len pa → 64 * line < len →
      ∀ k code v, (k = .error ∧ code = 0x05 ∧ v = word (sp * 2 ^ 60 + (off + 64 * line))) ∨
          (k = .rind ∧ policy ≠ 0 ∧ code = 0x0D ∧ v = word (sp * 2 ^ 60 + (off + 64 * line)) - word ((pa + 64 * line) % 256)) →
        ∃ t, exec (.copyDataFault k line) s = .next t ∧ t.mem = s.mem ∧ t.homeq = s.homeq ∧ (∀ b ∈ t.bursts, b.sid ≠ s.st.sid) ∧
          t.st = { s.st.setTile n { tile with st := .empty } with
            ctr := [], cq := { s.st.cq with stopped := true, cur := some { c with begun := false } }, boundary := false,
            pend := s.st.pend ++ [⟨code, 3, 0, c.addr, v, c.repk, c.seq, c.lp, false⟩] }) ∧
    (∀ ratio cell op line, op = COp.cpy n far pat false 0 → CopyAt s c op → far = word (14 * 2 ^ 60 + off) → ratio ≤ 5 → len = 1024 →
      pat = word (ratio * 2 ^ 56 + 2 ^ 48 + 2 ^ 16 + len) → 16 ≤ tile.len → cell = s.st.cell 0 → (∀ x ∈ s.st.grid, TowerOpen s x off 1056) →
      2 ^ ratio * zbLength ((List.range 32).map fun i => s.homeByte (towerPA cell (off + i))) < 1024 →
      ∃ t, exec (.copyDataFault .expansion line) s = .next t ∧ t.mem = s.mem ∧ t.homeq = s.homeq ∧
        t.st = { s.st.setTile n { tile with st := .empty } with
          ctr := [], cq := { s.st.cq with stopped := true, cur := some { c with begun := false } }, boundary := false,
          pend := s.st.pend ++ [⟨0x0A, 3, 0, c.addr, far, c.repk, c.seq, c.lp, false⟩] }) ∧
    (s.st.offers = none → exec .gather s = .next s ∧ exec .gatherPartnerTimeout s = .next s) ∧
    (∀ policy p, HeadAt s.st .C c false → c.pay = .c (.cpyb n far pat policy) none → s.st.cheld = none → s.resume = [] → s.st.win = none →
      s.others = [] → (∀ j, j < 16 → (pat.getLsbD (48 + j) = true ↔ j = s.st.core / 16)) → s.st.core < 256 →
      s.copyCheck (.cpyb n far pat policy) = .begins p → s.sOpen s.st = false → s.touchesS p false = false →
      ∃ t, exec .gather s = .next t ∧ t.mem = s.mem ∧ t.homeq = s.homeq ∧ (t.st.tile n).st = .filling ∧ t.bursts = s.bursts ++ s.copyBursts p ∧
        t.st = { s.st.setTile n { tile with st := .filling } with
          cq := { s.st.cq with cur := some { c with begun := true, since := s.time, kindS := s.touchesS p true } },
          ctr := s.takeLeaves p, arrived := [] }) ∧
    (∀ policy, HeadAt s.st .C c false → c.pay = .c (.cpyb n far pat policy) none → s.st.cheld = none →
      (s.st.cyc < c.since + Config.watchdog → exec .gatherPartnerTimeout s = .next s) ∧
      (c.since + Config.watchdog ≤ s.st.cyc → ∃ t, exec .gatherPartnerTimeout s = .next t ∧ t.mem = s.mem ∧
        t.st = { s.st with
          cq := { s.st.cq with stopped := true, cur := some { c with begun := false } }, boundary := false,
          pend := s.st.pend ++ [⟨0x15, 3, 0, c.addr, 0, c.repk, c.seq, c.lp, false⟩] })) ∧
    (∀ (q : BitVec 2) (r : Stream), s.st.streams.lookup q.toNat = some r → s.st.live = true → r.bound = true → r.fifo.length < 8 →
      r.next < r.total → s.sOpen s.st = false → ∃ t g, exec (.streamGroupDecode q) s = .next t ∧ t = { s with st := { s.st with streams := t.st.streams } } ∧
        SMap.get Stream.unbound t.st.streams q.toNat = { r with fifo := r.fifo ++ [g], next := r.next + 1 } ∧
        g.data.length = s.st.cellCount ∧
        (r.xform = 0 → ∀ i x, x = r.base + patternAt r.pat r.next → i < s.st.cellCount → s.reclaimedIn (s.st.cell i) x 64 = false →
          s.heldHit s.st (s.st.cell i) x 64 = false → g.data[i]? = some (BitVec.ofNat 512 (homeValue s (towerPA (s.st.cell i) x) 64))))

/-- R204, R205, R235, R238, R239, R245: containment. A mismatch at a compared word with no window ends the task as a machine check; with one
it starts a rollback, and so does one at a marking word, in the window that opens there. The rollback restores PC, windows,
guards, loops and REP from the checkpoint and sets out to execute the window's units again; a word executed again that differs from its
entry ends the task. A re-fetch takes its head's checks, then brings the tile's bytes again and leaves its entry as the snapshot has it
(log 39); where its copy faults, its home answers with an error, or the tile is poisoned again, the task ends. -/
def Obligations.WindowsContainFaults : Prop :=
  ∀ (s : State) (i : Instr) (w : Window),
    (s.nextWord = none → exec .checkerMismatch s = .next s ∧ exec .checkerTimeout s = .next s) ∧
    (s.nextWord = some i → isCompared i = true → s.marksWindow i = false →
      (s.st.win = none → exec .checkerMismatch s = .next (s.machineCheck s.st 1 s.st.pc 0) ∧
        exec .checkerTimeout s = .next (s.machineCheck s.st 1 s.st.pc 0)) ∧
      (s.st.win = some w → s.st.inReplay = false → ∀ j, j = Instr.checkerMismatch ∨ j = .checkerTimeout →
        exec j s = .next { s with st := { s.st with rollback := some (.mismatch s.st.pc), stall := none } })) ∧
    (s.nextWord = some i → s.marksWindow i = true → s.st.again = false → s.st.awaiting = false →
      ∀ j, j = Instr.checkerMismatch ∨ j = .checkerTimeout →
        exec j s = .next { s with st := { s.st.openWindow with rollback := some (.mismatch s.st.pc), stall := none } }) ∧
    (∀ a, s.st.rollback = some (.mismatch a) → s.st.win = some w → s.st.live = true → s.st.begunCopy = none → s.st.awaiting = false →
      ∃ t, exec .windowRollback s = .next t ∧ t.mem = s.mem ∧ t.st.pc = w.cp.pc ∧ t.st.wp = w.cp.wp ∧ t.st.vwp = w.cp.vwp ∧
        t.st.guards = w.cp.guards ∧ t.st.loops = w.cp.loops ∧ t.st.rep = w.cp.rep ∧ t.st.rollback = none ∧
        t.st.reexec = (if w.units = 0 then none else some ⟨w.units, w.loads, s.st.intrap, w.words⟩) ∧
        t.st.replay = s.st.replay ++ w.order ∧ t.st.shadow = (if s.st.replay ++ w.order = [] then [] else s.st.shadow ++ w.undo) ∧
        t.st.dq.retained = [] ∧ t.st.cq.retained = []) ∧
    (∀ n byte dword f e, s.st.rollback = some (.poison n byte dword f e .found) → s.st.win = some w → s.st.live = true →
      s.st.begunCopy = none → ∃ t, exec .windowRollback s = .next t ∧ t.mem = s.mem ∧ t.st.pc = s.st.pc ∧
        t.st.rollback = some (.poison n byte dword f e .restored) ∧ t.st.replay = s.st.replay ++ w.order ∧
        t.st.dq.retained = [] ∧ t.st.cq.retained = []) ∧
    (∀ a, s.st.rollback = some (.differs a) → s.st.win = some w → s.st.live = true → s.st.begunCopy = none →
      exec .windowRollback s = .next (s.machineCheck s.st 5 a 0)) ∧
    (s.st.rollback = none → exec .windowRollback s = .next s ∧ exec .tileRefetch s = .next s) ∧
    (∀ n byte dword f e u, s.st.live = true → u = { s with st := s.st.setTile n { e with st := .empty } } →
      (s.st.rollback = some (.poison n byte dword f e .restored) → s.st.cheld = none → s.st.saving = false → s.resume = [] →
        (∀ code a, u.copyCheck (f.copy n) = .fault code a → exec .tileRefetch s = .next (s.machineCheck s.st 10 dword byte)) ∧
        ∀ p, u.copyCheck (f.copy n) = .begins p → s.sOpen s.st = false → u.touchesS p false = false →
          exec .tileRefetch s = .next { s with st := { s.st with
            ctr := u.takeLeaves p, rollback := some (.poison n byte dword f e .begun) } }) ∧
      (s.st.rollback = some (.poison n byte dword f e .begun) → ∀ p r, u.begunPlan (f.copy n) = some p → r = u.moveImages p p.images →
        r.2 = none → r.1.st = u.st →
        (State.refetchPoison { r.1 with freeCtr := r.1.freeCtr + 1 } p = false → ∃ t, exec .tileRefetch s = .next t ∧ t.mem = r.1.mem ∧
          t.homeq = r.1.homeq ∧ t.st.rollback = none ∧ t.st.ctr = [] ∧ t.st.tile n = s.st.tile n) ∧
        (State.refetchPoison { r.1 with freeCtr := r.1.freeCtr + 1 } p = true → exec .tileRefetch s =
          .next (State.machineCheck { r.1 with freeCtr := r.1.freeCtr + 1 } u.st 4 dword byte)) ∧
        (s.st.begunCopy = none → (exec (.copyDataFault .error 0) s = .next (s.machineCheck s.st 10 dword byte)))))

/-! ### Far faults (R296-R307, R436) -/

/-- R299, R302, R305, R436: a page walk caches the leaf it finds and changes nothing else; a held fault joins the entry of its page, or
takes a free one, with the others held for that page; the handler's record is signalled, or, where it is none of the
scheduler's, made ready where its partition holds fewer than 4,096, and where FHREC names no usable record the violation log says so. -/
def Obligations.FarFaultsArePosted : Prop :=
  ∀ (s : State),
    (∀ cl part va c, s.lookup cl part va false = .absent c → exec (.pageWalk cl part va) s = .next s) ∧
    (∀ cl part va l large, s.lookup cl part va false = .leaf l large →
      (tlbDepth ≤ (SMap.get [] s.tlb cl).length → ∃ x ∈ SMap.get [] s.tlb cl, x.retiring = false) → ∃ t, exec (.pageWalk cl part va) s = .next t ∧
      t = { s with tlb := t.tlb, freeCtr := t.freeCtr } ∧ ∃ e ∈ SMap.get [] t.tlb cl, e.hit part va = true) ∧
    (∀ cl, s.heldOf cl = [] → exec (.heldFaultPost cl) s = .next s) ∧
    (∀ cl h rest, s.heldOf cl = h :: rest →
      ((∃ e ∈ s.fqOf cl, e.part = h.part ∧ e.vpn = h.vpn) ∨
        (0 < s.fqFree cl h.part ∧ SMap.get false s.disarmed (fqKey cl h.part) = true)) →
      ∃ t, exec (.heldFaultPost cl) s = .next t ∧ t = { s with fq := t.fq, held := t.held } ∧
        t.heldOf cl = (rest.filter fun k => !h.samePage k) ∧
        ∃ e ∈ t.fqOf cl, e.part = h.part ∧ e.vpn = h.vpn ∧ h.who ∈ e.faulters ∧ ∀ k ∈ rest, h.samePage k = true → k.who ∈ e.faulters) ∧
    (∀ part, (∃ c, s.recordAddr (Strand.forPart part 0) (s.part part).fhrec = .fault c) ∨
        (∃ c, s.recordAddr (Strand.forPart part 0) (s.part part).fhrec = .absent c) →
      exec (.handlerSignal part) s = .next (s.logViol part 0 0 0 (s.part part).fhrec)) ∧
    (∀ part pa e, s.recordAddr (Strand.forPart part 0) (s.part part).fhrec = .found pa → s.recAt pa = some e → e.state ≠ 1 →
      exec (.handlerSignal part) s = .next (s.setPart part { s.part part with hpend := true })) ∧
    (∀ part pa e, s.recordAddr (Strand.forPart part 0) (s.part part).fhrec = .found pa → s.recAt pa = some e → e.state = 1 →
      (∀ a, s.recPoison pa [4] = some a → exec (.handlerSignal part) s = .next (s.logViol part 0 0 0 (s.part part).fhrec)) ∧
      (s.recPoison pa [4] = none → HomeQueueOk s (homeOf pa) → pa % 128 = 0 → 2 ≤ (s.recWord pa 4).toNat / 2 ^ 32 →
        ∃ t, exec (.handlerSignal part) s = .next t ∧ t.st = s.st ∧ t.recs = s.recs ∧
          HomeStores s t (pa + 32) 8 ((s.recWord pa 4).toNat - 2 ^ 32))) ∧
    (∀ part pa die, s.recordAddr (Strand.forPart part 0) (s.part part).fhrec = .found pa → s.recAt pa = none →
      die = (if (s.coresOf 0 part).isEmpty then 1 else 0) →
      (4096 ≤ s.liveRecords die ((s.recWord pa 4).toNat / 2 ^ 28 % 16) → exec (.handlerSignal part) s = .next s) ∧
      (s.liveRecords die ((s.recWord pa 4).toNat / 2 ^ 28 % 16) < 4096 → s.recPoison pa spawnWords = none →
      s.badRecord die part pa = false → HomeQueueOk s (homeOf pa) → pa % 128 = 0 →
      ∃ t e, exec (.handlerSignal part) s = .next t ∧ t.st = s.st ∧ t.recAt pa = some e ∧ e.part = part ∧
        e.va = (s.part part).fhrec ∧ e.state = if s.now < (s.recWord pa 3).toNat then 3 else 2))

/-! ### Registers of units outside the core (R26, R302-R307, R351, R357, R383, R392, R433) -/

/-- R303, R306: the fault queue's words. FQHEAD_CLAIM and the three completions are SRD and SWR of FQHEAD, FQSTAT_WRITE an SWR of
FQSTAT. A claim takes the oldest posted entry of the partition, or sets ARMED and answers 0; a completion frees a claimed
entry, and the one strand parked on it goes on, takes fault 0x05 at its next boundary, or ends with its task. -/
def Obligations.FaultQueueWords : Prop :=
  ∀ (s : State) (d r : BitVec 5) (v : Word) (cl : Nat), v = s.st.rs r → cl = (s.st.sysv 0x050).toNat → s.st.live = true →
    (exec (.fqheadClaim d) s = exec (.srd d 0x051) s) ∧ (exec (.fqstatWrite r) s = exec (.swr r 0x050) s) ∧
    (∀ p ∈ [(Instr.fqCompleteResume, 0), (.fqCompleteFault, 1), (.fqCompleteKill, 2)], v.toNat / 2 ^ 43 % 4 = p.2 →
      exec (p.1 r) s = exec (.swr r 0x051) s) ∧
    (s.st.priv = false → FaultsAt s (.fqheadClaim d) 0x03 0 ∧ FaultsAt s (.fqstatWrite r) 0x03 0) ∧
    (s.st.priv = true →
      ((∀ e ∈ s.fqOf cl, e.part = s.st.part → e.claimed = true) → ∃ t m, CompletesIn s (.fqheadClaim d) { s.st with sregs := m } 4 t ∧
        SetsRd s.st d 0 m ∧ t = { s with st := t.st, disarmed := t.disarmed } ∧ SMap.get false t.disarmed (fqKey cl s.st.part) = false) ∧
      (∀ e rest, s.fqOf cl = e :: rest → e.part = s.st.part → e.claimed = false → (∀ x ∈ rest, x.idx ≠ e.idx) →
        ∃ t m, CompletesIn s (.fqheadClaim d) { s.st with sregs := m } 4 t ∧ SetsRd s.st d e.head m ∧
          t = { s with st := t.st, fq := t.fq } ∧ t.fqOf cl = { e with claimed := true } :: rest) ∧
      (v.toNat / 2 ^ 62 = 0 → v.toNat / 2 ^ 40 % 2 ^ 16 = 0 → v.toNat / 2 ^ 23 % 2 ^ 8 = 0 → v.toNat / 2 ^ 15 % 2 = 0 →
        ∃ t, CompletesIn s (.fqstatWrite r) ((s.st.setSys 0x050 (word (v.toNat / 2 ^ 56 % 2 ^ 6))).closeWindow 9) 4 t ∧
          (v.toNat / 2 ^ 31 % 2 = 1 → SMap.get false t.fovf (fqKey (v.toNat / 2 ^ 56 % 2 ^ 6) s.st.part) = false) ∧
          (v.toNat / 2 ^ 31 % 2 = 0 → t.fovf = s.fovf)) ∧
      (∀ e u f, s.fqOf cl = [e] → e.idx = v.toNat / 2 ^ 57 % 2 ^ 6 → e.part = s.st.part → e.claimed = true → v.toNat / 2 ^ 39 % 2 ^ 4 = 0 →
        s.releaseBlocked s.st [0, 1, 2] = false → s.st.loads = [] → e.faulters = [f] → s.others = [u] → u.sid = f.sid →
        u.sid ≠ s.st.sid → s.heldOf cl = [] → u.recAddr ≠ s.st.recAddr →
        (v.toNat / 2 ^ 43 % 4 = 0 → ∃ t, exec (.fqCompleteResume r) s = .next t ∧ t.fqOf cl = [] ∧ t.others = [u.unpark f.src] ∧ t.resume = s.resume ++ [f] ∧
          (s.st.closeWindow 9).movedOn t.st ∧ s.st.passed t.st 4 ∧ t.mem = s.mem) ∧
        (v.toNat / 2 ^ 43 % 4 = 1 → u.rollback = none → ∃ t, exec (.fqCompleteFault r) s = .next t ∧ t.fqOf cl = [] ∧
          t.others = [u.failPark f.src] ∧ (s.st.closeWindow 9).movedOn t.st ∧ s.st.passed t.st 4 ∧ t.mem = s.mem) ∧
        (v.toNat / 2 ^ 43 % 4 = 2 → ∃ t, exec (.fqCompleteKill r) s = .next t ∧ t.others = [] ∧
          (s.st.closeWindow 9).movedOn t.st ∧ s.st.passed t.st 4)))

/-- R26, R83, R357, R383, R392, R433: VLOG_CLAIM and CBASE_WRITE are SRD of VLOG and SWR of CBASE: a claim takes the oldest unread entry
and its address; CBASE loads the 256 words it names, as a load that waits where one would. CETHR takes 1 to 65,535. CREQ_ACK re-encodes a bank that asks. UNISO
ends an isolation where the same devices answer. -/
def Obligations.UnitRegistersAct : Prop :=
  ∀ (s : State) (d r : BitVec 5) (v : Word), v = s.st.rs r →
    (s.st.live = true → exec (.vlogClaim d) s = exec (.srd d 0x052) s ∧ exec (.cbaseWrite r) s = exec (.swr r 0x00D) s) ∧
    (s.st.live = true → s.st.priv = true →
      ((s.part s.st.part).vlog = [] → WritesRd s (.vlogClaim d) d 0 4) ∧
      (∀ e rest, (s.part s.st.part).vlog = e :: rest → ∃ t m,
        CompletesIn s (.vlogClaim d) { s.st.setSys 0x053 e.addr with sregs := m } 4 t ∧
        SetsRd s.st d (word (2 ^ 63 + (if (s.part s.st.part).vovf then 2 ^ 62 else 0) + e.code * 2 ^ 48 + e.version * 2 ^ 32 + e.task)) m ∧
        (t.part s.st.part).vlog = rest ∧ (t.part s.st.part).vovf = false ∧ t.mem = s.mem) ∧
      (v.toNat % 2 ^ 10 ≠ 0 ∨ v.toNat / 2 ^ 55 ≠ 0 → FaultsAt s (.cbaseWrite r) 0x02 0) ∧
      (v.toNat % 2 ^ 10 = 0 → v.toNat / 2 ^ 55 = 0 →
        (∀ code a, s.bankCheck v = .error (code, a) → FaultsAt s (.cbaseWrite r) code a) ∧
        ∀ pa, s.bankCheck v = .ok pa → (∀ w, s.bankWait v pa = some w → WaitsAt s (.cbaseWrite r) w) ∧
          (s.bankWait v pa = none → paPackage pa = 255 → ∃ t bank,
            CompletesIn s (.cbaseWrite r) (({ s.st.setSys 0x00D v with bank := bank } : Strand).closeWindow 9) 4 t ∧
            t = { s with st := t.st, outbound := t.outbound } ∧
            ∀ n, n < 256 → (SMap.get 0 bank n).toNat = coreValue s s.st.coreIdx (pa + 4 * n) 4))) ∧
    (∀ off x, s.st.live = false → exec (.controlBlockWrite off x) s = .next s) ∧
    (∀ off x, s.st.live = true → s.st.priv = false → FaultsAt s (.controlBlockWrite off x) 0x03 0) ∧
    (∀ x : BitVec 64, s.st.live = true → s.st.priv = true →
      (x.toNat % 2 ^ 16 = 0 → FaultsAt s (.controlBlockWrite 0x10008 x) 0x01 0) ∧
      (x.toNat % 2 ^ 16 ≠ 0 → 2 ^ 16 ≤ x.toNat → FaultsAt s (.controlBlockWrite 0x10008 x) 0x02 0) ∧
      (0 < x.toNat → x.toNat < 2 ^ 16 → ∃ t, exec (.controlBlockWrite 0x10008 x) s = .next t ∧ t = { s with cethr := t.cethr } ∧
        t.cethrOf 0 = x.toNat ∧ t.cethrOf 1 = s.cethrOf 1)) ∧
    (∀ cell bank, (s.bankAt cell bank).creq = true →
      exec (.creqAck cell bank) s = .next (s.setBank cell bank { s.bankAt cell bank with creq := false, strong := true, cecnt := 0 })) ∧
    (∀ cell bank, (s.bankAt cell bank).creq = false → exec (.creqAck cell bank) s = .next s) ∧
    (∀ same, s.hub.unisoReq = false → s.hub.resetIso = false → exec (.uniso same) s = .next s) ∧
    (s.hub.unisoReq = true ∨ s.hub.resetIso = true →
      exec (.uniso true) s = .next { s with hub := { s.hub with iso := false, resetIso := false, unisoReq := false, up := true } } ∧
      ∃ t, exec (.uniso false) s = .next t ∧ t.hub = { s.hub with unisoReq := false } ∧ t.mem = s.mem)

/-! ### Die memory, wear, HBM and the expander (chapters 19, 22) -/

/-- R346, R348, R350, R353, R354: a due bank starts its pass unless deferred; at its guard the pass is forced; the 256th burst of a pass
advances the stamp to the time the pass began; a failed cell of an idle core goes to a free spare; stress is the larger factor;
the lifetime records are stored. -/
def Obligations.LehrAndWearAct : Prop :=
  ∀ (s : State) (cell bank : Nat) (b : Bank), b = s.bankAt cell bank →
    (b.deferred = false → b.running = false → s.bankDue cell bank b = true →
      exec (.refreshDue cell bank) s = .next (s.setBank cell bank { b with running := true, bursts := 0, began := s.now })) ∧
    (b.deferred = true ∨ b.running = true ∨ s.bankDue cell bank b = false → exec (.refreshDue cell bank) s = .next s) ∧
    (b.running = false → s.bankAtGuard cell b = true → ∃ t, exec (.refreshGuard cell bank) s = .next t ∧
      t.bankAt cell bank = { b with deferred := false, by' := 0, running := true, bursts := 0, began := s.now } ∧ t.mem = s.mem) ∧
    (b.running = true ∨ s.bankAtGuard cell b = false → exec (.refreshGuard cell bank) s = .next s) ∧
    (b.running = false → ∀ n l, exec (.refreshBurst cell bank n l) s = .next s) ∧
    (b.running = true → b.cecnt < s.cethrOf (cell / 16384) → b.cecnt < 2 ^ 16 → b.bad < 16 →
      exec (.refreshBurst cell bank 0 []) s = .next (s.setBank cell bank
        (if b.bursts = 255 then { b with running := false, bursts := 0, stamp := b.began } else { b with bursts := b.bursts + 1 }))) ∧
    (∀ die core c, core < 256 → c < 64 →
      ((s.coreAt (coreIndex die core)).mpend = false → exec (.cellRemap die core c) s = .next s) ∧
      ((s.coreAt (coreIndex die core)).mpend = true → s.coreBusy (coreIndex die core) = false →
        s.cellFailed (cellIndex die core c) = true → (s.coreAt (coreIndex die core)).remap0 = 0 →
        (s.coreAt (coreIndex die core)).remap1 ≠ BitVec.ofNat 16 (2 ^ 15 + c) →
        ∃ t, exec (.cellRemap die core c) s = .next t ∧ t.mem = s.mem ∧
          t.coreAt (coreIndex die core) = { s.coreAt (coreIndex die core) with remap0 := BitVec.ofNat 16 (2 ^ 15 + c), mpend := false })) ∧
    (∀ die core bti em, exec (.stressUpdate die core bti em) s =
      .next (s.setCore (coreIndex die core) { s.coreAt (coreIndex die core) with stress := max bti.toNat em.toNat })) ∧
    ((∀ k, (s.coreAt k).rpend = false) → SMap.wf CoreState.initial s.cores = true → ∃ t, exec .lifetimeRecordWrite s = .next t ∧
      t = { s with hub := { s.hub with nvWear := t.hub.nvWear, lastStore := s.time } } ∧
      ∀ k, SMap.get 0 t.hub.nvWear k = (s.coreAt k).wear)

/-- R5, R263, R340, R341, R342, R384, R386, R387, R390, R391: a slot of the calendar takes a replay, else a waiting fine batch, but with a
burst ready not in two rotations running, else the burst it serves, else the patrol scrub; a burst lands at its moment, the bytes of its block then stand in the tile of every cell and
no others move, and what the array cannot correct is marked; a failed transfer is replayed one rotation of 102.4 ns later, and the fourth failure retrains the channel, the third failed retrain of which in a
row fails it. The die link retrains after sixteen failed flits. A poison response marks its line; an expander request without
an answer isolates the port, and the load that waited takes fault 0x05. -/
def Obligations.LinksRetryAndFail : Prop :=
  ∀ (s : State),
    (∀ ch slot t cl, slot < 32 → ch < 256 → slotStart (10 * s.time) slot = some t → (s.chan ch).retraining = false →
      (s.chan ch).failed = false → cl = slotCluster ch slot →
      (SMap.get 0 (s.chan ch).taken slot = t + 1 → exec (.calendarSlot ch slot) s = .next s) ∧
      (SMap.get 0 (s.chan ch).taken slot ≠ t + 1 → ∃ u, exec (.calendarSlot ch slot) s = .next u ∧ u.mem = s.mem ∧ u.st = s.st ∧
        SMap.get 0 (u.chan ch).taken slot = t + 1 ∧
        (∀ b, s.replayIn ch t = some b → u.bursts = s.bursts) ∧
        (s.replayIn ch t = none →
          (∀ pa, s.fineFirst ch cl = some pa →
            (∀ b ∈ s.bursts, b.served ch cl t = false ∨ s.stalled b.die b.pa = true) ∨ SMap.get 0 (s.chan ch).fineLast slot + 1024 ≠ t + 1 →
            u.bursts = s.bursts ∧ SMap.get 0 (u.chan ch).fineLast slot = t + 1) ∧
          (∀ front b back, s.bursts = front ++ b :: back → (∀ x ∈ front, x.served ch cl t = false ∨ s.stalled x.die x.pa = true) →
            b.served ch cl t = true → s.stalled b.die b.pa = false →
            s.fineFirst ch cl = none ∨ SMap.get 0 (s.chan ch).fineLast slot + 1024 = t + 1 →
            u.bursts = front ++ { b with slot := some t } :: back) ∧
          ((∀ b ∈ s.bursts, b.served ch cl t = false ∨ s.stalled b.die b.pa = true) → s.fineFirst ch cl = none →
            u.bursts = s.bursts ++
              [⟨hbmPA ((s.chan ch).patrol * 65536 + 256 * ch), false, ch / 128, 0, noStrand, t, some t, 0, false⟩])))) ∧
    (∀ ch slot, (s.chan ch).retraining = true ∨ (s.chan ch).failed = true → exec (.calendarSlot ch slot) s = .next s) ∧
    ((∀ b ∈ s.bursts, b.landsBefore (10 * s.time + 1) = false) → s.fineReqs = [] → ∀ n bad, exec (.burstLand n bad) s = .next s) ∧
    (∀ front b back u, s.bursts = front ++ b :: back → (∀ x ∈ front, x.landsBefore (10 * s.time + 1) = false) →
      b.landsBefore (10 * s.time + 1) = true → b.late = false → u = { s with bursts := front ++ back } →
      (s.strand b.sid = none → exec (.burstLand 0 []) s = .next (u.crossed b.die b.pa) ∧
        ∀ k, k < 8 → s.banks = [] → ∃ t, exec (.burstLand 0 [k]) s = .next t ∧ t.bursts = front ++ back ∧ t.mem = s.mem ∧
          t.marked (b.pa + 32 * k) = true) ∧
      (∀ c n sp off len pa far pat tile op, op = COp.cpy n far pat false 0 → CopyAt s c op → b.sid = s.st.sid → b.wr = false → off % 64 = 0 →
        0 < len → len < 2 ^ 16 → sp < 14 → off + len < 2 ^ 60 → far = word (sp * 2 ^ 60 + off) → pat = word (2 ^ 16 + len) → tile = s.st.tile n →
        len ≤ 64 * tile.len → HbmOpen s sp off len pa → Memory.wf s.mem = true →
        (∀ cell ∈ s.st.grid, cell < 32768 ∧ TowerOpen s cell (64 * tile.base) len) →
        ∃ t, exec (.burstLand 0 []) s = .next t ∧ t.bursts = front ++ back ∧ t.st = { s.st with arrived := [b.pa] } ∧
          (∀ cell ∈ s.st.grid, ∀ k, k < len → (pa + k) / 256 * 256 = b.pa →
            t.homeByte (towerPA cell (64 * tile.base + k)) = s.homeByte (pa + k)) ∧
          ∀ a, (∀ cell ∈ s.st.grid, ∀ k, k < len → (pa + k) / 256 * 256 = b.pa → a ≠ towerPA cell (64 * tile.base + k)) →
            t.homeByte a = s.homeByte a)) ∧
    (∀ front b back n t, s.bursts = front ++ b :: back → b ∉ front → b.slot = some t →
      n = (front.filter fun x => x.slot.isSome).length →
      (b.replays < 3 → exec (.hbmLinkCrcFail n) s = .next { s with
        bursts := front ++ { b with slot := some (t + 1024), replays := b.replays + 1, late := true } :: back }) ∧
      (3 ≤ b.replays → ∃ u, exec (.hbmLinkCrcFail n) s = .next u ∧ u.mem = s.mem ∧
        u.bursts = front ++ { b with slot := none, replays := 0, late := false } :: back ∧ (u.chan (paChannel b.pa)).retraining = true)) ∧
    (∀ n k, (s.bursts.filter fun x => x.slot.isSome).length + k = n →
      (s.fineReqs[k]? = none → exec (.hbmLinkCrcFail n) s = .next s) ∧
      (∀ cl pa ch, s.fineReqs[k]? = some (cl, pa) → ch = paChannel pa → (s.chan ch).retraining = false → (s.chan ch).failed = false →
        ((s.chan ch).fineFails < 3 → exec (.hbmLinkCrcFail n) s =
          .next (s.setChan ch { s.chan ch with fineFails := (s.chan ch).fineFails + 1 })) ∧
        (3 ≤ (s.chan ch).fineFails → ∃ u, exec (.hbmLinkCrcFail n) s = .next u ∧ u.mem = s.mem ∧ u.bursts = s.bursts ∧
          (u.chan ch).retraining = true))) ∧
    (∀ ch, (s.chan ch).retraining = false → ∀ ok, exec (.channelRetrainDone ch ok) s = .next s) ∧
    (∀ ch ok, s.retrainsNow ch = false → exec (.channelRetrainDone ch ok) s = .next s) ∧
    (∀ ch, (s.chan ch).retraining = true → s.hub.coming = [] →
      exec (.channelRetrainDone ch true) s = .next (s.setChan ch { s.chan ch with retraining := false, fails := 0 }) ∧
      ((s.chan ch).fails < 2 → exec (.channelRetrainDone ch false) s = .next (s.setChan ch { s.chan ch with fails := (s.chan ch).fails + 1 })) ∧
      (2 ≤ (s.chan ch).fails → ∃ u, exec (.channelRetrainDone ch false) s = .next u ∧ (u.chan ch).failed = true ∧
        (∀ b ∈ u.bursts, paChannel b.pa ≠ ch) ∧ ((∀ b ∈ s.bursts, paChannel b.pa ≠ ch) → u.mem = s.mem ∧ u.bursts = s.bursts))) ∧
    (s.hub.d2dDown = false →
      (s.hub.d2dStreak < 15 → exec .d2dFlitCrcFail s = .next { s with hub := { s.hub with d2dStreak := s.hub.d2dStreak + 1 } }) ∧
      (15 ≤ s.hub.d2dStreak → ∃ u, exec .d2dFlitCrcFail s = .next u ∧ u.hub = { s.hub with d2dStreak := 0, d2dDown := true } ∧ u.mem = s.mem) ∧
      ∀ ok, exec (.d2dRetrainDone ok) s = .next s) ∧
    (s.hub.d2dDown = true → s.hub.coming = [] → exec .d2dFlitCrcFail s = .next s ∧
      (s.hub.d2dFails < 3 → exec (.d2dRetrainDone true) s = .next { s with hub := { s.hub with d2dDown := false, d2dFails := 0 } }) ∧
      (s.hub.d2dFails < 2 → exec (.d2dRetrainDone false) s = .next { s with hub := { s.hub with d2dFails := s.hub.d2dFails + 1 } })) ∧
    (∀ n pa, s.expanderReads[n]? = some pa → ∃ u, exec (.expanderPoisonResponse n) s = .next u ∧ u = { s with poison := u.poison } ∧
      u.marked pa = true) ∧
    (∀ n, s.expanderReads[n]? = none → exec (.expanderPoisonResponse n) s = .next s) ∧
    (∀ n, s.expanderRequests[n]? = none → exec (.expanderTimeout n) s = .next s) ∧
    (∀ l, s.others = [] → s.st.live = true → s.st.loads = [l] → l.amo = false → l.held = true → paIsExpander l.pa = true → s.net = [] →
      s.outbound = [] → s.homeq = [] → s.partOf = [] → s.st.begunCopy = none → s.st.rollback = none → s.st.spawning = [] → s.hub.iso = false → s.st.pend = [] →
      s.st.intrap = false → s.st.resident < 15 → s.st.jobs = [] →
      (s.time < l.issued + 1000 * s.hub.tmo → exec (.expanderTimeout 0) s = .next s) ∧
      (l.issued + 1000 * s.hub.tmo ≤ s.time → ∃ u, exec (.expanderTimeout 0) s = .next u ∧ u.hub.iso = true ∧ u.st.loads = [] ∧
        u.st.pc = s.st.sysv 0x048 ∧ u.st.sysv 0x040 = 0x05 ∧ u.st.sysv 0x042 = l.va ∧ u.mem = s.mem))

/-! ### The fabric (chapter 24) -/

/-- R418, R419, R420, R425, R426, R428: a request of another package is performed once, a repeated one answered from the record; a read is
answered with the bytes of its home; none is accepted before the links are back from a warm reset. Scale-up links replay, retrain and fail; a path that returns makes its package reachable, and the loss of one, with nothing outstanding,
breaks the domains that R429 names, one rooted elsewhere as its root tells (log 124).
A fabric barrier counts arrivals at its root and is released elsewhere. The time base acquires, locks and runs free. -/
def Obligations.FabricActs : Prop :=
  ∀ (s : State),
    (∀ r, (∃ e ∈ s.remembered, e.1 = r.source ∧ e.2.1 = r.number) →
      exec (.remoteRequest r) s = .next { s with hub := { s.hub with served := s.remembered } }) ∧
    (∀ r, s.hub.coming ≠ [] → exec (.remoteRequest r) s = .next { s with hub := { s.hub with served := s.remembered } }) ∧
    (∀ r n pa, s.hub.coming = [] → (∀ e ∈ s.remembered, ¬ (e.1 = r.source ∧ e.2.1 = r.number)) → r.op = .read n → s.ownPlace r.pa = some pa →
      paSpace pa ≤ 1 → s.reachable pa = true → (∀ j, j < n → s.homePoison (pa + j) = false) →
      exec (.remoteRequest r) s = .next { s with
        hub := { s.hub with served := s.remembered ++ [(r.source, r.number, .data (s.homeBytes pa n), s.time)] } }) ∧
    (∀ l, l < 36 → (s.link l).state = 2 →
      ((s.link l).streak < 15 → exec (.scaleupLinkCrcFail l) s =
        .next (s.setLink l { s.link l with replays := min ((s.link l).replays + 1) (2 ^ 32 - 1), streak := (s.link l).streak + 1 })) ∧
      (15 ≤ (s.link l).streak → ∃ u, exec (.scaleupLinkCrcFail l) s = .next u ∧ (u.link l).state = 1 ∧ (u.link l).streak = 0 ∧ u.mem = s.mem)) ∧
    (∀ l ok, s.retrainsNow (257 + l) = false → exec (.scaleupRetrainDone l ok) s = .next s) ∧
    (∀ l, l < 36 → (s.link l).state < 2 → s.hub.coming = [] →
      exec (.scaleupRetrainDone l true) s = .next (s.setLink l { s.link l with state := 2, fails := 0, streak := 0 }) ∧
      ((s.link l).fails < 2 → exec (.scaleupRetrainDone l false) s =
        .next (s.setLink l { s.link l with state := 1, fails := (s.link l).fails + 1 })) ∧
      (2 ≤ (s.link l).fails → ∃ u, exec (.scaleupRetrainDone l false) s = .next u ∧ (u.link l).state = 3 ∧ u.mem = s.mem)) ∧
    (∀ l, l < 36 → (s.link l).state ≠ 3 → ∃ u, exec (.switchFailure l) s = .next u ∧ (u.link l).state = 3 ∧ u.mem = s.mem) ∧
    (∀ l, (s.link l).state = 3 → exec (.switchFailure l) s = .next s ∧ exec (.scaleupLinkCrcFail l) s = .next s ∧
      ∀ ok, exec (.scaleupRetrainDone l ok) s = .next s) ∧
    (∀ p, p < 144 → p ≠ s.hub.pkg → SMap.get false s.hub.unreach p = true → ∃ u, exec (.reachabilityChange p true) s = .next u ∧
      SMap.get false u.hub.unreach p = false ∧ (∀ q, q ≠ p → SMap.get false u.hub.unreach q = SMap.get false s.hub.unreach q) ∧
      u.st = s.st ∧ u.mem = s.mem) ∧
    (∀ p, p < 144 → p ≠ s.hub.pkg → SMap.get false s.hub.unreach p = false → s.others = [] → s.st.loads = [] → s.st.begunCopy = none →
      s.st.rollback = none → s.outbound = [] → s.homeq = [] → s.net = [] → ∃ u, exec (.reachabilityChange p false) s = .next u ∧
        SMap.get false u.hub.unreach p = true ∧ u.st = s.st ∧ u.mem = s.mem ∧
        ∃ told : Domain → Bool, u.domains = s.domains.map fun d => d.lost s.hub.pkg p (s.waitingIn d) (told d)) ∧
    (∀ p up, 144 ≤ p ∨ p = s.hub.pkg ∨ SMap.get false s.hub.unreach p = !up → exec (.reachabilityChange p up) s = .next s) ∧
    (∀ dom p n D, domLevel (word dom) = 5 → domIdent (word dom) / 2 ^ 16 = s.hub.pkg → domMembers (word dom) ≠ 0 → s.domains = [D] →
      D.isFabric (word dom) = true → D.broken = false → D.arrivedPkgs = [p] → 0 < n →
      exec (.fabricArrivalMsg dom p n) s = .next { s with domains :=
        [if D.members ≤ D.arrived + n + D.gone then { D with phase := D.phase + 1, arrived := 0, doneAt := s.now } else { D with arrived := D.arrived + n }] }) ∧
    (∀ dom D, domLevel (word dom) = 5 → s.domains = [D] → D.isFabric (word dom) = true → D.ident / 2 ^ 16 ≠ s.hub.pkg →
      exec (.fabricReleaseMsg dom) s = .next { s with domains := [{ D with phase := D.phase + 1, arrived := 0, doneAt := s.now }] }) ∧
    (∀ grand off, ∃ u, exec (.ptpMessage grand off) s = .next u ∧ u = { s with hub := u.hub } ∧ u.hub.timeLast = s.time ∧
      (s.hub.timeState = 0 → u.hub.timeState = 1 ∧ u.hub.timeOff = s.hub.timeOff) ∧
      (s.hub.timeState = 1 → s.now < grand → grand < 2 ^ 64 → u.hub.timeState = 2 ∧ u.now = grand) ∧
      (2 ≤ s.hub.timeState → u.hub.timeState = 2 ∧ u.hub.timeOff = s.hub.timeOff ∧ u.hub.timeCorr = -off)) ∧
    (s.hub.timeState = 2 → s.hub.timeLast + 4000000000 ≤ s.time → ∃ u, exec .holdover s = .next u ∧ u.hub.timeState = 3 ∧
      u.hub.timeOff = s.hub.timeOff ∧ u.mem = s.mem) ∧
    (s.hub.timeState ≠ 2 ∨ s.time < s.hub.timeLast + 4000000000 → exec .holdover s = .next s)

/-! ### The spill engine and engine traps (R14, R18, R165-R167) -/

/-- R14, R15, R18: a job of the spill engine: a frame goes to its place in the region, register i at 8i, little-endian, or comes
back from it; no other byte and no other register changes. R165, R166: an engine fault that waits is taken at a boundary,
its record naming queue and command. -/
def Obligations.SpillsAndEngineTraps : Prop :=
  ∀ (s : State) (f k pa : Nat), s.st.live = true → pa = towerPA s.st.anchor (64 * s.st.spBase + 120 * k) →
    (s.st.jobs = [] → exec .spillTransfer s = .next s) ∧
    (∀ j l, s.st.jobs = j :: l → s.st.jobBusy j = true ∨ s.sOpen s.st = true → exec .spillTransfer s = .next s) ∧
    (s.st.jobs = [.frameOut f k] → s.st.awaiting = false → s.sOpen s.st = false → HomeQueueOk s (homeOf pa) → (∀ n, n < 120 → homeOf (pa + n) = homeOf pa) →
      ∃ t, exec .spillTransfer s = .next t ∧ t.st = { s.st with jobs := [], moved := s.st.moved + 1, stall := t.st.stall } ∧ t.outbound = s.outbound ∧
        ∀ p, t.homeByte p = if pa ≤ p ∧ p < pa + 120 then
          BitVec.ofNat 8 ((SMap.get 0 s.st.sregs ((f + (p - pa) / 8) % 240)).toNat / 256 ^ ((p - pa) % 8)) else s.homeByte p) ∧
    (s.st.jobs = [.frameIn f k] → s.st.awaiting = false → s.sOpen s.st = false → ∃ t, exec .spillTransfer s = .next t ∧ t = { s with st := t.st } ∧
      t.st = { s.st with jobs := [], moved := s.st.moved + 1, stall := t.st.stall, sregs := t.st.sregs } ∧
      (∀ i, i < 15 → (SMap.get 0 t.st.sregs ((f + i) % 240)).toNat = homeValue s (pa + 8 * i) 8) ∧
      ∀ p, (∀ i, i < 15 → p ≠ (f + i) % 240) → SMap.get 0 t.st.sregs p = SMap.get 0 s.st.sregs p) ∧
    (s.st.pend = [] → exec .trapEntry s = .next s) ∧
    (∀ p, s.st.pend = [p] → s.st.park = none → s.st.atJoin = false → s.st.saving = false → s.st.rollback = none →
      (∀ c, s.st.stall ≠ some (.wfe c)) → s.st.afterCall = none → s.st.intrap = false → s.st.awaiting = false → s.st.resident < 15 →
      ∃ t, exec .trapEntry s = .next t ∧ t = { s with st := t.st } ∧ t.st.pend = [] ∧ t.st.pc = s.st.sysv 0x048 ∧ t.st.status = 3 ∧
        t.st.wp = (s.st.wp + 15) % 240 ∧ t.st.resident = s.st.resident + 1 ∧ t.st.rs 9 = 0 ∧
        t.st.sysv 0x040 = word (min p.issued 255 * 2 ^ 56 + p.repk * 2 ^ 50 + p.src * 2 ^ 32 + p.code) ∧ t.st.sysv 0x041 = p.addr ∧ t.st.sysv 0x042 = p.trec2 ∧
        t.st.sysv 0x043 = s.st.pc ∧ t.st.sysv 0x046 = s.st.status ∧ t.st.sysv 0x047 = word s.now)

/-! ### The scheduler and the press (R326-R338) -/

/-- R326-R332, R336, R338, R384: a decision takes the one ready record to its placement, waits for a press already at work on one, or presses
the tasks that give way to it; a record that may no longer stand where it was placed is placed anew; a held
record whose START has come is ready; a missed deadline is counted once, and a drop-late record not taken for dispatch leaves; a dispatched task
runs from ENTRY in user mode with s1 holding the record address, every other register zero; a press saves or is abandoned. -/
def Obligations.SchedulerActs : Prop :=
  ∀ (s : State) (r : RecEntry) (die part : Nat),
    ((∀ x ∈ s.recs, x.die = die → x.part = part → s.missDue x = false) →
      s.packageWaits = true ∨ s.readySet die part = [] → exec (.schedulerDecision die part) s = .next s) ∧
    ((∀ x ∈ s.recs, x.die = die → x.part = part → s.missDue x = false) → s.packageWaits = false → s.readySet die part = [r] →
      (∀ p, s.placeFree r [] = some p → exec (.schedulerDecision die part) s = .next { s with
        recs := s.recs.map fun x => if x.pa = r.pa then { x with staging := some p } else x }) ∧
      (s.placeFree r [] = none → s.pressed r = true ∨ s.bestVictims r = none → exec (.schedulerDecision die part) s = .next s) ∧
      (∀ u, s.placeFree r [] = none → s.pressed r = false → s.bestVictims r = some [u] → s.st.live = true →
        exec (.schedulerDecision die part) s = .next { s with
          st := if s.st.part = u.part ∧ s.st.recAddr = u.recAddr ∧ s.st.saving = false then { s.st with saveReq := true } else s.st,
          others := s.others.map fun x =>
            if x.part = u.part ∧ x.recAddr = u.recAddr ∧ x.saving = false then { x with saveReq := true } else x })) ∧
    (∀ n, s.recs[n]? = none → exec (.startReached n) s = .next s ∧ exec (.deadlineMiss n) s = .next s) ∧
    (∀ n, s.recs[n]? = some r → HomeQueueOk s (homeOf (r.pa + 32)) → r.pa % 128 = 0 →
      (r.state = 3 → (s.recWord r.pa 3).toNat ≤ s.now → ∃ t, exec (.startReached n) s = .next t ∧ t.st = s.st ∧
        (t.recs = s.recs.map fun x => if x.pa = r.pa then { x with state := 2 } else x) ∧
        HomeStores s t (r.pa + 32) 8 (setBf (s.recWord r.pa 4) 21 3 2).toNat) ∧
      (r.state ≠ 3 ∨ s.now < (s.recWord r.pa 3).toNat → exec (.startReached n) s = .next s) ∧
      (s.missDue r = false ↔ r.missed = true ∨ s.now < s.recDeadline r ∨ ¬ (r.state = 2 ∨ r.state = 3 ∨ r.state = 5)) ∧
      (s.missDue r = false → exec (.deadlineMiss n) s = .next s) ∧
      (s.missDue r = true →
        (bf (s.recWord r.pa 4) 24 2 ≠ 1 ∨ r.hasRun = true ∨ r.staging ≠ none → ∃ t, exec (.deadlineMiss n) s = .next t ∧ t.st = s.st ∧
          (t.recs = s.recs.map fun x => if x.pa = r.pa then { x with missed := true } else x) ∧
          HomeStores s t (r.pa + 32) 8 (setBf (s.recWord r.pa 4) 0 8 (min 255 (bf (s.recWord r.pa 4) 0 8 + 1))).toNat) ∧
        (bf (s.recWord r.pa 4) 24 2 = 1 → r.hasRun = false → r.staging = none → (s.part r.part).hpend = false →
          ∃ t, exec (.deadlineMiss n) s = .next t ∧ ∀ x ∈ t.recs, x.pa ≠ r.pa))) ∧
    (s.packageWaits = true ∨ (∀ x ∈ s.recs, x.staging = none) → exec .dispatchComplete s = .next s) ∧
    (∀ core lead, s.packageWaits = false → s.recs.find? (·.staging.isSome) = some r → r.staging = some (core, lead) → s.missDue r = false →
      ((s.placements r).contains (core, lead) = false → exec .dispatchComplete s = .next { s with
        recs := s.recs.map fun x => if x.pa = r.pa then { x with staging := none } else x }) ∧
      (r.state = 2 → (s.placements r).contains (core, lead) = true → s.objects = [] → (s.part r.part).hpend = false →
        ∃ t, exec .dispatchComplete s = .next t ∧ t.st = s.st ∧ ∀ x ∈ t.recs, x.pa ≠ r.pa) ∧
      (∀ ext, r.state = 2 → (s.placements r).contains (core, lead) = true → s.st.live = false → s.others = [] →
        recordBad r.part true (fun i => if i == 4 then setBf (s.recWord r.pa 4) 21 3 0 else s.recWord r.pa i) = false →
        s.tagMismatch r = false → (∃ o ∈ s.objects, o.part = r.part ∧ o.handle = bf (s.recWord r.pa 1) 0 32) →
        s.readExtents r.part (bf (s.recWord r.pa 5) 6 49 * 64) (bf (s.recWord r.pa 5) 0 4) = .ok ext →
        ∃ t, exec .dispatchComplete s = .next t ∧ t.st.live = true ∧ t.st.part = r.part ∧ t.st.recAddr = r.va ∧ t.st.die = r.die ∧
          t.st.core = core ∧ t.st.field = lead ∧ t.st.sid = s.nextSid ∧ t.others = [] ∧ t.st.status = 0 ∧
          t.st.pc = word (15 * 2 ^ 60 + bf (s.recWord r.pa 0) 2 53 * 4) ∧ t.st.sysv 0x048 = tvecWord (s.part r.part).tvec ∧
          (∀ p, SMap.get 0 t.st.sregs p = if p = 0 then r.va else 0) ∧
          ∃ ws, t.recs = s.recs.map fun x => if x.pa = r.pa then
            { x with staging := none, state := 4, hasRun := true, sid := s.nextSid, words := ws } else x)) ∧
    (s.st.live = false ∨ s.st.saveReq = false → exec .pressSave s = .next s) ∧
    (s.st.live = true → s.st.saveReq = true → (∀ u ∈ s.taskStrands s.st, u.quiet = true) →
      s.recs.find? (fun x => x.part == s.st.part && x.va == s.st.recAddr) = some r →
      (∀ l, s.saveArea s.st.part s.st.ctxa (imageSize (gangFields s.st.gang) (s.savedBytes r)) = some l →
        ∃ t, exec .pressSave s = .next t ∧ t.st = { s.st.closeWindow 8 with saveReq := false, saving := true } ∧ t.mem = s.mem) ∧
      (s.saveArea s.st.part s.st.ctxa (imageSize (gangFields s.st.gang) (s.savedBytes r)) = none →
        ∃ t, exec .pressSave s = .next t ∧ t.st = { s.st with saveReq := false, ctxa := 0 } ∧ t.mem = s.mem)) ∧
    (s.st.saving = false → exec .pressSaveDone s = .next s) ∧
    (∀ l, s.st.live = true → s.st.saving = true → s.recs.find? (fun x => x.part == s.st.part && x.va == s.st.recAddr) = some r →
      (s.taskStrands s.st).find? (·.gidx == 0) = some l → ∃ t i, exec .pressSaveDone s = .next t ∧ t.st = Strand.idle ∧
        t.images = s.images ++ [i] ∧ i.part = s.st.part ∧ i.recVa = s.st.recAddr ∧ ∃ e ∈ t.recs, e.pa = r.pa ∧ e.state = 5) ∧
    (s.st.live = true → s.st.ctxa ≠ 0 → s.st.saving = false → exec .preemptRequest s = .next { s with
      st := { s.st with saveReq := true },
      others := s.others.map fun x =>
        if x.part = s.st.part ∧ x.recAddr = s.st.recAddr ∧ x.saving = false then { x with saveReq := true } else x }) ∧
    (s.st.live = false ∨ s.st.ctxa = 0 ∨ s.st.saving = true → exec .preemptRequest s = .next s)

/-! ### The launch transport (R393-R397) -/

/-- R393-R397: a request of any of the six kinds is dropped where its kind is reserved, its session is not open, or version,
partition or tag fail; a number answered before is answered from the cache, a number ahead is held, the next number is
performed and its reply leaves with the status. What each of the six does, and replies (Table 22.5); a gap that lasts 1 ms drops what is held; a session
opens for an accepted chain. -/
def Obligations.TransportActs : Prop :=
  ∀ (s : State) (h : Header) (va len handle : Nat) (a b data : List Byte),
    (∀ p ∈ [(Instr.write h a b data, 1, a ++ b ++ data), (.read h a b, 2, a ++ b), (.launch h a data, 3, a ++ data), (.load h a b, 4, a ++ b),
        (.unload h a, 5, a), (.transportSignal h a, 6, a)],
      (h.kind = 0 ∨ 6 < h.kind → exec p.1 s = .next (s.dropRequest h.partition h.session)) ∧
      (1 ≤ h.kind → h.kind ≤ 6 → h.kind ≠ p.2.1 → exec p.1 s = .next s) ∧
      (h.kind = p.2.1 → s.session h.session = none → exec p.1 s = .next (s.dropRequest h.partition h.session)) ∧
      ∀ (q : Session) (m : HubRequest), h.kind = p.2.1 → s.session h.session = some q → m = ⟨p.2.1, h.partition, h.die % 2, p.2.2⟩ →
        (h.version ≠ 1 ∨ q.part ≠ h.partition ∨ h.tag ≠ Config.kmac256 q.key (headerBytes h ++ p.2.2) →
          exec p.1 s = .next (s.dropRequest h.partition h.session)) ∧
        (h.version = 1 → q.part = h.partition → h.tag = Config.kmac256 q.key (headerBytes h ++ p.2.2) →
          (∀ r, h.sequence < q.next → q.replies.find? (fun r => r.header.sequence == h.sequence) = some r →
            exec p.1 s = .next { s with out := s.out ++ [r] }) ∧
          (h.sequence = q.next → q.held = [] → p.2.2.length < fieldBytes p.2.1 → ∃ t, Replies s p.1 h q 13 [] t ∧ t.mem = s.mem) ∧
          (h.sequence = q.next → q.held = [] → (s.begun m).2 = false →
            ∃ t e r, e = (s.begun m).1.perform m ∧ r = q.reply h.sequence m e.status e.detail ∧ exec p.1 s = .next t ∧
            t = { e.next with sessions := t.sessions, out := e.next.out ++ [r] } ∧
            (e.next.sessions = s.sessions → ∃ x, t.session h.session = some x ∧ x.next = q.next + 1 ∧ r ∈ x.replies)) ∧
          (h.sequence = q.next → q.held = [] → (s.begun m).2 = true →
            exec p.1 s = .next ((s.begun m).1.modSession q.num fun x => { x with held := (h.sequence, m) :: x.held })) ∧
          (q.next < h.sequence → (∀ e ∈ q.held, e.1 ≠ h.sequence) → q.held.length < 64 → ∃ t x, exec p.1 s = .next t ∧
            t = { s with sessions := t.sessions } ∧ t.session h.session = some x ∧ x.next = q.next ∧
            x.held = q.held ++ [(h.sequence, m)]))) ∧
    (∀ part pa, 0 < len → len ≤ 8192 →
      (∀ a, s.hostSpan part va len writePage = .error a → len ≤ data.length → s.hostWrite part va len data = ⟨5, natBytes 8 a, s⟩) ∧
      (∀ a, s.hostSpan part va len readPage true = .error a → s.hostRead part va len = ⟨5, natBytes 8 a, s⟩) ∧
      (∀ j, j < len → s.hostSpan part va len readPage true = .ok [(pa, len)] → NearHome pa → s.homePoison (pa + j) = true →
        s.hostRead part va len = ⟨12, [], s⟩)) ∧
    (∀ pa q, Admitted s h 1 (natBytes 8 va ++ natBytes 8 len ++ data) q → 0 < len → len ≤ 8192 → len ≤ data.length →
      s.hostSpan h.partition (hubVA va) len writePage = .ok [(pa, len)] → paPackage pa = 255 → s.homeq = [] →
      ∃ t, Replies s (.write h (natBytes 8 va) (natBytes 8 len) data) h q 0 [] t ∧
        ∀ p, t.homeByte p = if pa ≤ p ∧ p < pa + len then data[p - pa]?.getD 0 else s.homeByte p) ∧
    (∀ pa q, Admitted s h 2 (natBytes 8 va ++ natBytes 8 len) q → 0 < len → len ≤ 8192 →
      s.hostSpan h.partition (hubVA va) len readPage true = .ok [(pa, len)] → NearHome pa →
      (∀ j, j < len → s.homePoison (pa + j) = false) →
      ∃ t, Replies s (.read h (natBytes 8 va) (natBytes 8 len)) h q 0 (s.homeBytes pa len) t ∧ t.mem = s.mem) ∧
    (∀ pa q u n, Admitted s h 3 (natBytes 8 va ++ data) q → 128 ≤ data.length → s.hostRecord h.partition (hubVA va) = .found pa →
      u = s.hostStore pa (data.take 128) → n = u.liveRecords (h.die % 2) ((u.recWord pa 4).toNat / 2 ^ 28 % 16) →
      (4096 ≤ n → ∃ t, Replies s (.launch h (natBytes 8 va) data) h q 2 [] t ∧ t.recs = s.recs) ∧
      (n < 4096 → u.badRecord (h.die % 2) h.partition pa = true →
        ∃ t, Replies s (.launch h (natBytes 8 va) data) h q 3 [] t ∧ t.recs = s.recs) ∧
      (n < 4096 → u.badRecord (h.die % 2) h.partition pa = false → HomeQueueOk u (homeOf pa) → pa % 128 = 0 →
        ∃ t e, Replies s (.launch h (natBytes 8 va) data) h q (if (u.recWord pa 4).toNat / 2 ^ 32 = 0 then 0 else 1) [] t ∧
          t.recAt pa = some e ∧ e.part = h.partition ∧ e.die = h.die % 2 ∧ e.va = word (15 * 2 ^ 60 + hubVA va))) ∧
    (∀ l e q, Admitted s h 4 (natBytes 8 va ++ natBytes 8 len) q → len < 2 ^ 64 → s.hostSpan h.partition (hubVA va) len readPage = .ok l →
      s.spanPoison l = false → e = s.loadFile h.partition (s.spanBytes h.partition l) →
      ∃ t, Replies s (.load h (natBytes 8 va) (natBytes 8 len)) h q e.status ((e.detail.map (natBytes 8)).flatten) t ∧
        (e.status ≠ 0 → t.objects = s.objects) ∧
        (e.status = 0 → ∃ o ∈ t.objects, o.part = h.partition ∧ o.handle = (s.part h.partition).nextHandle)) ∧
    (∀ q, Admitted s h 5 (natBytes 8 handle) q → handle < 2 ^ 64 → s.unloads = [] →
      ((∀ o ∈ s.objects, ¬ (o.part = h.partition ∧ o.handle = handle)) →
        ∃ t, Replies s (.unload h (natBytes 8 handle)) h q 10 (natBytes 8 handle) t ∧ t.objects = s.objects) ∧
      (∀ x, (∃ o ∈ s.objects, o.part = h.partition ∧ o.handle = handle) → s.taskOn h.partition handle = some x →
        ∃ t, Replies s (.unload h (natBytes 8 handle)) h q 9 (natBytes 8 x) t ∧ t.objects = s.objects) ∧
      ((∃ o ∈ s.objects, o.part = h.partition ∧ o.handle = handle) → s.taskOn h.partition handle = none →
        (∀ o ∈ s.objects, o.part = h.partition → handle ∉ o.binds) → s.st.live = false → s.others = [] → s.outbound = [] → s.homeq = [] →
        ∃ t, Replies s (.unload h (natBytes 8 handle)) h q 0 (natBytes 8 handle) t ∧ t.unloads = [] ∧
          t.objects = s.objects.filter fun o => decide (¬ (o.part = h.partition ∧ o.handle = handle)))) ∧
    (∀ pa q, Admitted s h 6 (natBytes 8 va) q → s.hostRecord h.partition (hubVA va) = .found pa → s.recPoison pa [4] = none →
      HomeQueueOk s (homeOf pa) → pa % 128 = 0 → 2 ≤ (s.recWord pa 4).toNat / 2 ^ 32 →
      ∃ t, Replies s (.transportSignal h (natBytes 8 va)) h q 0 [] t ∧ t.recs = s.recs ∧
        HomeStores s t (pa + 32) 8 ((s.recWord pa 4).toNat - 2 ^ 32)) ∧
    (∀ n, s.session n = none → exec (.sequenceGapTimeout n) s = .next s) ∧
    (∀ n q, s.session n = some q → (∀ e ∈ q.held, e.1 ≠ q.next) →
      (q.held = [] ∨ s.time < q.since + 1000000 → exec (.sequenceGapTimeout n) s = .next s) ∧
      (q.held ≠ [] → q.since + 1000000 ≤ s.time → ∃ t, exec (.sequenceGapTimeout n) s = .next t ∧ t.st = s.st ∧ t.mem = s.mem ∧
        t.out = s.out ∧ t.session n = some { q with held := [] })) ∧
    (∀ n part chain, (s.session n).isSome = true ∨ 16 ≤ part ∨ s.hub.coming ≠ [] → exec (.sessionOpen n part chain) s = .next s) ∧
    (∀ n part chain, s.session n = none → part < 16 → s.hub.coming = [] → exec (.sessionOpen n part chain) s =
      .next (if Config.chainValid part chain then
        { s with sessions := s.sessions ++ [⟨n, part, s.agreedKey, 0, [], [], 0⟩], freeCtr := s.freeCtr + 1 } else s))

/-! ### The security and management processor, power, resets (R398-R405) -/

/-- R398-R405: a configuration change is made and measured into M(3), or refused with nothing changed; registers 4 to 7 are extended
on request; a quote signs nonce, measurements, revision, profiles and configuration; the governor lowers an overloaded
clock by 25 MHz, not below 850, and leaves 10 us between its steps. A partition reset leaves nothing of the partition; a warm reset keeps memory, wear and
measurements and isolates the expander; a cold reset keeps no memory and runs unless a stage fails. After a thermal trip or
the loss of the supply nothing runs but a cold reset. -/
def Obligations.ManagementActs : Prop :=
  ∀ (s : State),
    (∀ c, s.configure c = none → exec (.partitionConfigure c) s = .next s) ∧
    (∀ n o, 512 ≤ n ∨ s.coreBusy n = true ∨ s.coreHolds n = true → s.configure (.core n o) = none) ∧
    (∀ p x w v, 16 ≤ p → s.configure (.root p x) = none ∧ s.configure (.handler p w) = none ∧ s.configure (.vector p w v) = none) ∧
    (∀ c u, s.configure c = some u → ∃ t, exec (.partitionConfigure c) s = .next t ∧
      t = { u with hub := { u.hub with meas := t.hub.meas } } ∧
      t.measurement 3 = Config.shake512 (u.measurement 3 ++ Config.shake512 u.configBytes) ∧
      ∀ i, i ≠ 3 → t.measurement i = u.measurement i) ∧
    (∀ n p, n < 512 → s.coreBusy n = false → s.coreHolds n = false → ∃ u, s.configure (.core n (some p)) = some u ∧
      u = { s with partOf := u.partOf } ∧ u.ownerOf n = some (p % 16) ∧ ∀ k, k ≠ n → u.ownerOf k = s.ownerOf k) ∧
    (∀ p x w v, p < 16 → (∃ u, s.configure (.root p x) = some u ∧ u = { s with parts := u.parts } ∧
        u.part p = { s.part p with root := x } ∧ ∀ q, q ≠ p → u.part q = s.part q) ∧
      (∃ u, s.configure (.handler p w) = some u ∧ u = { s with parts := u.parts } ∧ u.part p = { s.part p with fhrec := w } ∧
        ∀ q, q ≠ p → u.part q = s.part q) ∧
      ∃ u, s.configure (.vector p w v) = some u ∧ u = { s with parts := u.parts } ∧
        u.part p = { s.part p with tvec := w, tpriv := v } ∧ ∀ q, q ≠ p → u.part q = s.part q) ∧
    (∀ n d, n < 4 ∨ 7 < n → exec (.measurementExtend n d) s = .next s) ∧
    (∀ n d, 4 ≤ n → n ≤ 7 → ∃ t, exec (.measurementExtend n d) s = .next t ∧ t = { s with hub := { s.hub with meas := t.hub.meas } } ∧
      t.measurement n = Config.shake512 (s.measurement n ++ d) ∧ ∀ i, i ≠ n → t.measurement i = s.measurement i) ∧
    (∀ nonce, nonce.length ≠ 32 → exec (.quote nonce) s = .next s) ∧
    (∀ nonce m, nonce.length = 32 → m = nonce ++ ((List.range 8).map s.measurement).flatten ++ natBytes 8 Config.deviceRevision ++
        natBytes 8 15 ++ Config.shake256 s.configBytes →
      exec (.quote nonce) s = .next { s with hub := { s.hub with quotes := s.hub.quotes ++ [m ++ Config.quoteSign s.hub.seed m] } }) ∧
    (∀ power tj, ∃ t, exec (.governorStep power tj) s = .next t ∧ t = { s with hub := t.hub, freeCtr := s.freeCtr + 1 } ∧
      t.hub.power = power ∧ t.hub.tj = tj ∧
      (s.time < s.hub.nextStep → t.hub.clock = s.hub.clock) ∧
      (s.hub.nextStep ≤ s.time → 3600 < power ∨ 100 < tj → t.hub.clock = max 850 (s.hub.clock - 25)) ∧
      (t.hub.clock ≠ s.hub.clock → t.hub.nextStep = s.time + 10000) ∧
      (power ≤ 3600 → tj ≤ 100 → t.hub.throt = s.hub.throt ∧
        (t.hub.clock = s.hub.clock ∨ t.hub.clock = min 1700 (s.hub.clock + 25)))) ∧
    (∀ p, ∃ t, exec (.partitionReset p) s = .next t ∧ (∀ r ∈ t.recs, r.part ≠ p) ∧ (∀ o ∈ t.objects, o.part ≠ p) ∧
      (∀ r ∈ t.regions, r.part ≠ p) ∧ (∀ i ∈ t.images, i.part ≠ p) ∧ (∀ q ∈ t.sessions, q.part ≠ p) ∧
      (s.st.live = true → s.st.part = p → s.st.gidx = 0 → t.st = Strand.idle) ∧
      (s.st.live = true → s.st.part ≠ p → (∀ u ∈ s.others, u.sid ≠ s.st.sid) → t.st = s.st)) ∧
    (∃ t, exec .warmReset s = .next t ∧ t.st = Strand.idle ∧ t.others = [] ∧ t.recs = [] ∧ t.objects = [] ∧ t.homeq = [] ∧
      t.outbound = [] ∧ t.sessions = [] ∧ t.hub.iso = true ∧ t.hub.coming = s.toRetrain ∧ t.hub.meas = s.hub.meas ∧ t.hub.powered = true ∧ t.time = s.time ∧
      (s.homeq = [] → t.mem = s.mem) ∧
      (SMap.wf CoreState.initial s.cores = true → ∀ k, (t.coreAt k).wear = (s.coreAt k).wear)) ∧
    (∀ b, ∃ t, exec (.coldReset b) s = .next t ∧ t.st = Strand.idle ∧ t.others = [] ∧ t.mem = [] ∧ t.recs = [] ∧ t.hub.iso = false ∧
      t.hub.powered = decide (b.failing = 0) ∧ t.time = 0) ∧
    exec .powerFailure s = .next { s with hub := { s.hub with powered := false } } ∧
    (∃ t, exec .thermalTrip s = .next t ∧ t = { s with hub := { s.hub with powered := false }, errcnt := t.errcnt }) ∧
    (s.hub.powered = false →
      (s.agenda = [] → step s = .fault .packageStopped) ∧
      (∀ dt rest, s.agenda = ⟨dt, .sequencer⟩ :: rest → step s = .fault .packageStopped) ∧
      (∀ dt i rest, s.agenda = ⟨dt, .event i⟩ :: rest → (∀ b, i ≠ .coldReset b) → step s = .fault .packageStopped) ∧
      ∀ dt b rest, s.agenda = ⟨dt, .event (.coldReset b)⟩ :: rest → ∃ t, step s = .next t ∧ t.st = Strand.idle ∧ t.mem = [])

/-! ### Reset and invariants -/

/-- R400, R402, Tables 22.3, 22.6, 24.2: what a cold reset leaves: no task, no partition, no record, no loaded object; the measurements
are zero; the expander port is not isolated, its limit is 100 us, the fabric's 50 us; a step can be taken. That memory then
lists nothing and so reads as zero is the model's choice (log 1). -/
def Obligations.ResetState : Prop :=
  State.reset.st.live = false ∧ State.reset.others = [] ∧ State.reset.recs = [] ∧ State.reset.objects = [] ∧ State.reset.sessions = [] ∧
  State.reset.mem = [] ∧ (∀ k, State.reset.ownerOf k = none) ∧ (∀ i, State.reset.measurement i = List.replicate 64 0) ∧
  State.reset.hub.iso = false ∧ State.reset.hub.tmo = 100 ∧ State.reset.hub.fabTmo = 50 ∧ State.reset.now = 0 ∧
  ∃ t, step State.reset = .next t ∧ t.st.live = false

/-- The canonical form of memory and the invariants of a strand hold at reset. -/
def Obligations.InvariantsAtReset : Prop := Memory.wf State.reset.mem = true ∧ State.reset.st.inv

/-- The memory keeps its canonical form over every step, whatever the state: addresses rise strictly, and no entry equals
what an unlisted address reads as. No instruction of the model stops: from every state exec answers a next state, whose memory
keeps that form. -/
def Obligations.StepKeepsMemory : Prop :=
  (∀ (s t : State), Memory.wf s.mem = true → Stepped s t → Memory.wf t.mem = true) ∧
  ∀ (i : Instr) (s : State), ∃ t, exec i s = .next t ∧ (Memory.wf s.mem = true → Memory.wf t.mem = true)

/-- R12, R13, R16, R22, R23, R52: the words that move windows, loops, counters and PC keep the strand's invariants, faults and
the end of the task included: windows stand at whole frames and blocks, counters within 0 to 15, at most four levels. -/
def Obligations.ControlWordsKeepStrand : Prop :=
  ∀ (s t : State) (i : Instr) (a b : BitVec 20) (r q : BitVec 5) (o l : BitVec 14) (v x y z : BitVec 2) (n : BitVec 10) (c : BitVec 3)
    (k : BitVec 6),
    i ∈ [Instr.call a, .callr r, .ret, .enter v, .loops r l, .rep x y z k, .j b, .jr r, .beq r q o, .trap n, .tkp c q, .tkw c q, .nop] →
    s.st.inv → exec i s = .next t → t.st.inv
end

