-- ==== Sys2Proof/Laws/Decode.lean ====
section
/-! SUPPORT. The encoder's words seen through the decoder: the fields of a concatenation, what the decoder makes of each
format of Table 2.1, and the bytes of one or two words. -/

namespace Sys2Proof.Laws

theorem fld_lo {n m : Nat} (x : BitVec n) (y : BitVec m) (lo k : Nat) (h : lo + k ≤ m) :
    fld (x ++ y) lo k = fld y lo k := by
  apply BitVec.eq_of_getLsbD_eq
  intro i hi
  simp only [fld, BitVec.getLsbD_extractLsb', BitVec.getLsbD_append]
  rw [if_pos (by omega)]

theorem fld_hi {n m : Nat} (x : BitVec n) (y : BitVec m) (lo k : Nat) (h : m ≤ lo) :
    fld (x ++ y) lo k = fld x (lo - m) k := by
  apply BitVec.eq_of_getLsbD_eq
  intro i hi
  simp only [fld, BitVec.getLsbD_extractLsb', BitVec.getLsbD_append]
  rw [if_neg (by omega)]
  congr 2
  omega

theorem fld_all {n : Nat} (x : BitVec n) : fld x 0 n = x := by simp [fld]

theorem accept_ok {b1 b2 : Bool} (i : Instr) (h1 : b1 = false) (h2 : b2 = false) : accept b1 b2 i = .ok i := by
  simp [accept, h1, h2]

/-! ### The formats -/

theorem decode_wLong (lop : BitVec 4) (d : BitVec 5) (i : BitVec 20) (l : W32) :
    decode (wLong lop d i) l = decodeLong lop d i := by
  have h1 : fld (wLong lop d i) 30 2 = 0#2 := by
    simp (disch := omega) only [wLong, fld_hi, Nat.reduceSub, fld_all]
  have h2 : fld (wLong lop d i) 29 1 = 1#1 := by
    simp (disch := omega) only [wLong, fld_lo, fld_hi, Nat.reduceSub, fld_all]
  have h3 : fld (wLong lop d i) 25 4 = lop := by
    simp (disch := omega) only [wLong, fld_lo, fld_hi, Nat.reduceSub, fld_all]
  have h4 : fld (wLong lop d i) 20 5 = d := by
    simp (disch := omega) only [wLong, fld_lo, fld_hi, Nat.reduceSub, fld_all]
  have h5 : fld (wLong lop d i) 0 20 = i := by
    simp (disch := omega) only [wLong, fld_lo, fld_all]
  rw [decode, h1, h2, h3, h4, h5]
  rfl

theorem decode_wShort (sop a b : BitVec 5) (c : BitVec 14) (l : W32) :
    decode (wShort sop a b c) l = decodeShort sop a b c l := by
  have h1 : fld (wShort sop a b c) 30 2 = 0#2 := by
    simp (disch := omega) only [wShort, fld_hi, Nat.reduceSub, fld_all]
  have h2 : fld (wShort sop a b c) 29 1 = 0#1 := by
    simp (disch := omega) only [wShort, fld_lo, fld_hi, Nat.reduceSub, fld_all]
  have h3 : fld (wShort sop a b c) 24 5 = sop := by
    simp (disch := omega) only [wShort, fld_lo, fld_hi, Nat.reduceSub, fld_all]
  have h4 : fld (wShort sop a b c) 19 5 = a := by
    simp (disch := omega) only [wShort, fld_lo, fld_hi, Nat.reduceSub, fld_all]
  have h5 : fld (wShort sop a b c) 14 5 = b := by
    simp (disch := omega) only [wShort, fld_lo, fld_hi, Nat.reduceSub, fld_all]
  have h6 : fld (wShort sop a b c) 0 14 = c := by
    simp (disch := omega) only [wShort, fld_lo, fld_all]
  rw [decode, h1, h2, h3, h4, h5, h6]
  rfl

theorem decode_wAlu (fn : BitVec 9) (d a b : BitVec 5) (l : W32) : decode (wAlu fn d a b) l = decodeAlu fn d a b := by
  rw [wAlu, decode_wShort]
  show decodeAlu (fld (b ++ fn) 0 9) d a (fld (b ++ fn) 9 5) = _
  rw [fld_lo _ _ _ _ (by omega), fld_hi _ _ _ _ (by omega), fld_all, fld_all]

theorem decode_wAmo (op : BitVec 4) (d a b : BitVec 5) (c : BitVec 3) (r : BitVec 2) (l : W32) :
    decode (wAmo op d a b c r) l = decodeAmo op d a b c r := by
  rw [wAmo, decode_wShort]
  show decodeAmo (fld (b ++ op ++ c ++ r : BitVec 14) 5 4) d a (fld (b ++ op ++ c ++ r : BitVec 14) 9 5)
    (fld (b ++ op ++ c ++ r : BitVec 14) 2 3) (fld (b ++ op ++ c ++ r : BitVec 14) 0 2) = _
  simp (disch := omega) only [fld_lo, fld_hi, Nat.reduceSub, fld_all]

theorem decode_sys (fn : BitVec 4) (a b : BitVec 5) (op : BitVec 10) (l : W32) :
    decode (wSub 21 fn a b op) l = decodeSys fn a b op := by
  rw [wSub, decode_wShort]
  show decodeSys (fld (fn ++ op) 10 4) a b (fld (fn ++ op) 0 10) = _
  simp (disch := omega) only [fld_lo, fld_hi, Nat.reduceSub, fld_all]

theorem decode_field (fn : BitVec 4) (a b : BitVec 5) (op : BitVec 10) (l : W32) :
    decode (wSub 22 fn a b op) l = decodeField fn a b op := by
  rw [wSub, decode_wShort]
  show decodeField (fld (fn ++ op) 10 4) a b (fld (fn ++ op) 0 10) = _
  simp (disch := omega) only [fld_lo, fld_hi, Nat.reduceSub, fld_all]

theorem decode_task (fn : BitVec 4) (a b : BitVec 5) (op : BitVec 10) (l : W32) :
    decode (wSub 23 fn a b op) l = decodeTask fn a b op := by
  rw [wSub, decode_wShort]
  show decodeTask (fld (fn ++ op) 10 4) a b (fld (fn ++ op) 0 10) = _
  simp (disch := omega) only [fld_lo, fld_hi, Nat.reduceSub, fld_all]

theorem decode_wVec (op : BitVec 6) (t c d a b : BitVec 4) (k y : BitVec 2) (hy : (y == 3) = false) (l : W32) :
    decode (wVec op t c d a b k y) l = decodeVector op t c d a b k y := by
  have h1 : fld (wVec op t c d a b k y) 30 2 = 1#2 := by
    simp (disch := omega) only [wVec, fld_hi, Nat.reduceSub, fld_all]
  have h2 : fld (wVec op t c d a b k y) 26 4 = t := by
    simp (disch := omega) only [wVec, fld_lo, fld_hi, Nat.reduceSub, fld_all]
  have h3 : fld (wVec op t c d a b k y) 22 4 = c := by
    simp (disch := omega) only [wVec, fld_lo, fld_hi, Nat.reduceSub, fld_all]
  have h4 : fld (wVec op t c d a b k y) 16 6 = op := by
    simp (disch := omega) only [wVec, fld_lo, fld_hi, Nat.reduceSub, fld_all]
  have h5 : fld (wVec op t c d a b k y) 12 4 = d := by
    simp (disch := omega) only [wVec, fld_lo, fld_hi, Nat.reduceSub, fld_all]
  have h6 : fld (wVec op t c d a b k y) 8 4 = a := by
    simp (disch := omega) only [wVec, fld_lo, fld_hi, Nat.reduceSub, fld_all]
  have h7 : fld (wVec op t c d a b k y) 4 4 = b := by
    simp (disch := omega) only [wVec, fld_lo, fld_hi, Nat.reduceSub, fld_all]
  have h8 : fld (wVec op t c d a b k y) 2 2 = k := by
    simp (disch := omega) only [wVec, fld_lo, fld_hi, Nat.reduceSub, fld_all]
  have h9 : fld (wVec op t c d a b k y) 0 2 = y := by
    simp (disch := omega) only [wVec, fld_lo, fld_all]
  rw [decode, h1, h2, h3, h4, h5, h6, h7, h8, h9, hy]
  rfl

theorem decode_bcast (op : BitVec 6) (t c d a : BitVec 4) (s : BitVec 6) (l : W32) :
    decode (1#2 ++ t ++ c ++ op ++ d ++ a ++ s ++ 3#2 : W32) l = decodeBroadcast op t c d a (decodeSource s l) := by
  have h1 : fld (1#2 ++ t ++ c ++ op ++ d ++ a ++ s ++ 3#2 : W32) 30 2 = 1#2 := by
    simp (disch := omega) only [fld_hi, Nat.reduceSub, fld_all]
  have h2 : fld (1#2 ++ t ++ c ++ op ++ d ++ a ++ s ++ 3#2 : W32) 26 4 = t := by
    simp (disch := omega) only [fld_lo, fld_hi, Nat.reduceSub, fld_all]
  have h3 : fld (1#2 ++ t ++ c ++ op ++ d ++ a ++ s ++ 3#2 : W32) 22 4 = c := by
    simp (disch := omega) only [fld_lo, fld_hi, Nat.reduceSub, fld_all]
  have h4 : fld (1#2 ++ t ++ c ++ op ++ d ++ a ++ s ++ 3#2 : W32) 16 6 = op := by
    simp (disch := omega) only [fld_lo, fld_hi, Nat.reduceSub, fld_all]
  have h5 : fld (1#2 ++ t ++ c ++ op ++ d ++ a ++ s ++ 3#2 : W32) 12 4 = d := by
    simp (disch := omega) only [fld_lo, fld_hi, Nat.reduceSub, fld_all]
  have h6 : fld (1#2 ++ t ++ c ++ op ++ d ++ a ++ s ++ 3#2 : W32) 8 4 = a := by
    simp (disch := omega) only [fld_lo, fld_hi, Nat.reduceSub, fld_all]
  have h7 : fld (1#2 ++ t ++ c ++ op ++ d ++ a ++ s ++ 3#2 : W32) 2 6 = s := by
    simp (disch := omega) only [fld_lo, fld_hi, Nat.reduceSub, fld_all]
  have h8 : fld (1#2 ++ t ++ c ++ op ++ d ++ a ++ s ++ 3#2 : W32) 0 2 = 3#2 := by
    simp (disch := omega) only [fld_lo, fld_all]
  rw [decode, h1, h2, h3, h4, h5, h6, h7, h8]
  rfl

theorem decodeDotWord_wDot (op : BitVec 5) (t : BitVec 4) (x : BitVec 1) (g : BitVec 3) (r : BitVec 17) :
    decodeDotWord (wDot op t x g r) = decodeDot op t x g r := by
  have h2 : fld (wDot op t x g r) 26 4 = t := by
    simp (disch := omega) only [wDot, fld_lo, fld_hi, Nat.reduceSub, fld_all]
  have h3 : fld (wDot op t x g r) 25 1 = x := by
    simp (disch := omega) only [wDot, fld_lo, fld_hi, Nat.reduceSub, fld_all]
  have h4 : fld (wDot op t x g r) 22 3 = g := by
    simp (disch := omega) only [wDot, fld_lo, fld_hi, Nat.reduceSub, fld_all]
  have h5 : fld (wDot op t x g r) 17 5 = op := by
    simp (disch := omega) only [wDot, fld_lo, fld_hi, Nat.reduceSub, fld_all]
  have h6 : fld (wDot op t x g r) 0 17 = r := by
    simp (disch := omega) only [wDot, fld_lo, fld_all]
  rw [decodeDotWord, h2, h3, h4, h5, h6]

theorem decode_wDot (op : BitVec 5) (t : BitVec 4) (x : BitVec 1) (g : BitVec 3) (r : BitVec 17) (l : W32) :
    decode (wDot op t x g r) l = decodeDot op t x g r := by
  have h1 : fld (wDot op t x g r) 30 2 = 2#2 := by
    simp (disch := omega) only [wDot, fld_hi, Nat.reduceSub, fld_all]
  rw [decode, h1]
  exact decodeDotWord_wDot op t x g r

/-- A copy word with its FO bit (Table 2.1, C). -/
theorem decode_copy (op : BitVec 5) (t : BitVec 4) (fo : BitVec 1) (g : BitVec 3) (r : BitVec 17) (l : W32) :
    decode (3#2 ++ t ++ fo ++ g ++ op ++ r : W32) l = decodeCopy op t (fo == 1) g r l := by
  have h1 : fld (3#2 ++ t ++ fo ++ g ++ op ++ r : W32) 30 2 = 3#2 := by
    simp (disch := omega) only [fld_hi, Nat.reduceSub, fld_all]
  have h2 : fld (3#2 ++ t ++ fo ++ g ++ op ++ r : W32) 26 4 = t := by
    simp (disch := omega) only [fld_lo, fld_hi, Nat.reduceSub, fld_all]
  have h3 : fld (3#2 ++ t ++ fo ++ g ++ op ++ r : W32) 25 1 = fo := by
    simp (disch := omega) only [fld_lo, fld_hi, Nat.reduceSub, fld_all]
  have h4 : fld (3#2 ++ t ++ fo ++ g ++ op ++ r : W32) 22 3 = g := by
    simp (disch := omega) only [fld_lo, fld_hi, Nat.reduceSub, fld_all]
  have h5 : fld (3#2 ++ t ++ fo ++ g ++ op ++ r : W32) 17 5 = op := by
    simp (disch := omega) only [fld_lo, fld_hi, Nat.reduceSub, fld_all]
  have h6 : fld (3#2 ++ t ++ fo ++ g ++ op ++ r : W32) 0 17 = r := by
    simp (disch := omega) only [fld_lo, fld_all]
  rw [decode, h1, h2, h3, h4, h5, h6]
  rfl

/-! ### Which words own the next one -/

theorem isOwner_wLong (lop : BitVec 4) (d : BitVec 5) (i : BitVec 20) : isOwner (wLong lop d i) = false := by
  have h1 : fld (wLong lop d i) 30 2 = 0#2 := by
    simp (disch := omega) only [wLong, fld_hi, Nat.reduceSub, fld_all]
  have h2 : fld (wLong lop d i) 29 3 = 1#3 := by
    simp (disch := omega) only [wLong, fld_hi, Nat.reduceSub]
    rfl
  rw [isOwner, h1, h2]
  rfl

theorem isOwner_wShort (sop a b : BitVec 5) (c : BitVec 14) : isOwner (wShort sop a b c) = (sop == 18) := by
  have h1 : fld (wShort sop a b c) 30 2 = 0#2 := by
    simp (disch := omega) only [wShort, fld_hi, Nat.reduceSub, fld_all]
  have h2 : fld (wShort sop a b c) 29 3 = 0#3 := by
    simp (disch := omega) only [wShort, fld_hi, Nat.reduceSub]
    rfl
  have h3 : fld (wShort sop a b c) 24 5 = sop := by
    simp (disch := omega) only [wShort, fld_lo, fld_hi, Nat.reduceSub, fld_all]
  rw [isOwner, h1, h2, h3]
  simp

/-- A word of class V, D or C does not begin with three zero bits. -/
theorem top_ne_zero {w : W32} (h : fld w 30 2 ≠ 0) : (fld w 29 3 == 0) = false := by
  rw [beq_eq_false_iff_ne]
  intro h3
  apply h
  apply BitVec.eq_of_getLsbD_eq
  intro i hi
  have := congrArg (fun x => x.getLsbD (i + 1)) h3
  simp only [fld, BitVec.getLsbD_extractLsb', show i + 1 < 3 by omega, decide_true, Bool.true_and] at this
  simp only [fld, BitVec.getLsbD_extractLsb', hi, decide_true, Bool.true_and]
  rw [show 30 + i = 29 + (i + 1) by omega, this]
  simp

theorem isOwner_wVec (op : BitVec 6) (t c d a b : BitVec 4) (k y : BitVec 2) (hy : (y == 3) = false) :
    isOwner (wVec op t c d a b k y) = false := by
  have h1 : fld (wVec op t c d a b k y) 30 2 = 1#2 := by
    simp (disch := omega) only [wVec, fld_hi, Nat.reduceSub, fld_all]
  have h9 : fld (wVec op t c d a b k y) 0 2 = y := by
    simp (disch := omega) only [wVec, fld_lo, fld_all]
  have h3 : (fld (wVec op t c d a b k y) 29 3 == 0) = false := by
    exact top_ne_zero (by rw [h1]; decide)
  rw [isOwner, h1, h9, hy, h3]
  rfl

theorem isOwner_bcast (op : BitVec 6) (t c d a : BitVec 4) (s : BitVec 6) :
    isOwner (1#2 ++ t ++ c ++ op ++ d ++ a ++ s ++ 3#2 : W32) = (s == 48) := by
  have h1 : fld (1#2 ++ t ++ c ++ op ++ d ++ a ++ s ++ 3#2 : W32) 30 2 = 1#2 := by
    simp (disch := omega) only [fld_hi, Nat.reduceSub, fld_all]
  have h7 : fld (1#2 ++ t ++ c ++ op ++ d ++ a ++ s ++ 3#2 : W32) 2 6 = s := by
    simp (disch := omega) only [fld_lo, fld_hi, Nat.reduceSub, fld_all]
  have h8 : fld (1#2 ++ t ++ c ++ op ++ d ++ a ++ s ++ 3#2 : W32) 0 2 = 3#2 := by
    simp (disch := omega) only [fld_lo, fld_all]
  have h3 : (fld (1#2 ++ t ++ c ++ op ++ d ++ a ++ s ++ 3#2 : W32) 29 3 == 0) = false := by
    exact top_ne_zero (by rw [h1]; decide)
  rw [isOwner, h1, h7, h8, h3]
  simp

theorem isOwner_wDot (op : BitVec 5) (t : BitVec 4) (x : BitVec 1) (g : BitVec 3) (r : BitVec 17) :
    isOwner (wDot op t x g r) = false := by
  have h1 : fld (wDot op t x g r) 30 2 = 2#2 := by
    simp (disch := omega) only [wDot, fld_hi, Nat.reduceSub, fld_all]
  have h3 : (fld (wDot op t x g r) 29 3 == 0) = false := by
    exact top_ne_zero (by rw [h1]; decide)
  rw [isOwner, h1, h3]
  rfl

theorem isOwner_copy (op : BitVec 5) (t : BitVec 4) (fo : BitVec 1) (g : BitVec 3) (r : BitVec 17) :
    isOwner (3#2 ++ t ++ fo ++ g ++ op ++ r : W32) = (fo == 1) := by
  have h1 : fld (3#2 ++ t ++ fo ++ g ++ op ++ r : W32) 30 2 = 3#2 := by
    simp (disch := omega) only [fld_hi, Nat.reduceSub, fld_all]
  have h2 : fld (3#2 ++ t ++ fo ++ g ++ op ++ r : W32) 25 1 = fo := by
    simp (disch := omega) only [fld_lo, fld_hi, Nat.reduceSub, fld_all]
  have h3 : (fld (3#2 ++ t ++ fo ++ g ++ op ++ r : W32) 29 3 == 0) = false := by
    exact top_ne_zero (by rw [h1]; decide)
  rw [isOwner, h1, h2, h3]
  rfl

/-! ### Bytes -/

theorem wordOfBytes_bytes (w : W32) : wordOfBytes (fld w 0 8) (fld w 8 8) (fld w 16 8) (fld w 24 8) = w := by
  apply BitVec.eq_of_getLsbD_eq
  intro i hi
  simp only [wordOfBytes, fld, BitVec.getLsbD_append, BitVec.getLsbD_extractLsb']
  by_cases h1 : i < 8
  · simp [h1]
  · by_cases h2 : i < 16
    · simp [h1, show i - 8 < 8 by omega, show 8 + (i - 8) = i by omega]
    · by_cases h3 : i < 24
      · simp [h1, show ¬ i - 8 < 8 by omega, show i - 8 - 8 < 8 by omega, show 16 + (i - 8 - 8) = i by omega]
      · simp [h1, show ¬ i - 8 < 8 by omega, show ¬ i - 8 - 8 < 8 by omega, show i - 8 - 8 - 8 < 8 by omega,
          show 24 + (i - 8 - 8 - 8) = i by omega]

/-- One word without a dependent one. -/
theorem decodeBytes_one {i : Instr} {w : W32} (he : encode i = [w]) (ho : isOwner w = false) (hd : decode w 0 = .ok i)
    (rest : List Byte) : decodeBytes (encodeBytes i ++ rest) = .ok (i, rest) := by
  simp only [encodeBytes, he, List.map_cons, List.map_nil, List.flatten_cons, List.flatten_nil, List.append_nil, bytesOfWord,
    List.cons_append, List.nil_append, decodeBytes, wordOfBytes_bytes, ho, hd]
  rfl

/-- A word with its dependent word. -/
theorem decodeBytes_two {i : Instr} {w l : W32} (he : encode i = [w, l]) (ho : isOwner w = true) (hd : decode w l = .ok i)
    (rest : List Byte) : decodeBytes (encodeBytes i ++ rest) = .ok (i, rest) := by
  simp only [encodeBytes, he, List.map_cons, List.map_nil, List.flatten_cons, List.flatten_nil, List.append_nil, bytesOfWord,
    List.cons_append, List.nil_append, decodeBytes, wordOfBytes_bytes, ho, hd, if_true]

/-- A broadcast source read back from its code (R45). -/
theorem decodeSource_code (s : BSrc) (l : W32) (h : ∀ w, s = .literal w → l = w) : decodeSource s.code l = some s := by
  cases s with
  | const n =>
    have hs : fld (0#1 ++ n : BitVec 6) 0 5 = n := by rw [fld_lo _ _ _ _ (by omega), fld_all]
    have hl : (0#1 ++ n : BitVec 6) < 32 := by clear hs h; revert n; decide
    simp only [BSrc.code, decodeSource, hl, if_true]
    exact congrArg (fun x => some (BSrc.const x)) hs
  | scalar n =>
    have hs : fld (2#2 ++ n : BitVec 6) 0 4 = n := by rw [fld_lo _ _ _ _ (by omega), fld_all]
    have h1 : ¬ (2#2 ++ n : BitVec 6) < 32 := by clear hs h; revert n; decide
    have h2 : (2#2 ++ n : BitVec 6) < 48 := by clear hs h h1; revert n; decide
    simp only [BSrc.code, decodeSource, h1, h2, if_true, if_false]
    exact congrArg (fun x => some (BSrc.scalar x)) hs
  | literal w =>
    rw [h w rfl]
    rfl

end Sys2Proof.Laws
end

