-- ==== Sys2Proof/Laws/Memory.lean ====
section
/-! SUPPORT. The laws of sparse data and of memory: a read after a write, and the canonical form every operation keeps. -/

namespace Sys2Proof.Machine

variable {α : Type} [DecidableEq α] {d v : α} {m : SMap α} {i j k : Nat}

/-! ### Read after write -/

omit [DecidableEq α] in
theorem SMap.get_filter_self : SMap.get d (m.filter fun e => e.1 != k) k = d := by
  induction m with
  | nil => rfl
  | cons e t ih =>
    by_cases h : e.1 = k
    · simp [h, ih]
    · simp only [List.filter_cons, bne_iff_ne, ne_eq, h, not_false_eq_true, if_true, SMap.get]
      rw [if_neg (Ne.symm h)]
      exact ih

omit [DecidableEq α] in
theorem SMap.get_filter_ne (h : j ≠ k) : SMap.get d (m.filter fun e => e.1 != k) j = SMap.get d m j := by
  induction m with
  | nil => rfl
  | cons e t ih =>
    by_cases he : e.1 = k
    · simp [he, ih, SMap.get, h]
    · simp only [List.filter_cons, bne_iff_ne, ne_eq, he, not_false_eq_true, if_true, SMap.get, ih]

omit [DecidableEq α] in
theorem SMap.get_insert_ne (h : j ≠ k) : SMap.get d (SMap.insert m k v) j = SMap.get d m j := by
  induction m with
  | nil => simp [SMap.insert, SMap.get, h]
  | cons e t ih =>
    simp only [SMap.insert]
    split
    · simp [SMap.get, h]
    · simp [SMap.get, ih]

omit [DecidableEq α] in
theorem SMap.get_insert_self : SMap.get d (SMap.insert (m.filter fun e => e.1 != k) k v) k = v := by
  induction m with
  | nil => simp [SMap.insert, SMap.get]
  | cons e t ih =>
    by_cases he : e.1 = k
    · simpa [he] using ih
    · simp only [List.filter_cons, bne_iff_ne, ne_eq, he, not_false_eq_true, if_true, SMap.insert]
      split
      · simp [SMap.get]
      · simp only [SMap.get]
        rw [if_neg (Ne.symm he)]
        exact ih

/-- A read after a write to the same key. -/
@[simp] theorem SMap.get_set_self : SMap.get d (SMap.set d m k v) k = v := by
  unfold SMap.set
  by_cases h : v = d
  · simp [h, SMap.get_filter_self]
  · simp [h, SMap.get_insert_self]

/-- A write leaves every other key alone. -/
theorem SMap.get_set_ne (h : j ≠ k) : SMap.get d (SMap.set d m k v) j = SMap.get d m j := by
  unfold SMap.set
  by_cases hv : v = d
  · simp [hv, SMap.get_filter_ne h]
  · simp [hv, SMap.get_insert_ne h, SMap.get_filter_ne h]

theorem SMap.get_set : SMap.get d (SMap.set d m k v) j = if j = k then v else SMap.get d m j := by
  split
  · subst_vars; simp
  · exact SMap.get_set_ne ‹_›

/-! ### The canonical form -/

theorem SMap.wfFrom_mono {lo lo' : Nat} (h : lo' ≤ lo) (hm : SMap.wfFrom d lo m = true) : SMap.wfFrom d lo' m = true := by
  cases m with
  | nil => rfl
  | cons e t =>
    simp only [SMap.wfFrom, Bool.and_eq_true, decide_eq_true_eq] at hm ⊢
    exact ⟨⟨by omega, hm.1.2⟩, hm.2⟩

theorem SMap.wfFrom_filter (p : Nat × α → Bool) {lo : Nat} (hm : SMap.wfFrom d lo m = true) :
    SMap.wfFrom d lo (m.filter p) = true := by
  induction m generalizing lo with
  | nil => rfl
  | cons e t ih =>
    simp only [SMap.wfFrom, Bool.and_eq_true, decide_eq_true_eq] at hm
    rw [List.filter_cons]
    split
    · simp only [SMap.wfFrom, Bool.and_eq_true, decide_eq_true_eq]
      exact ⟨hm.1, ih hm.2⟩
    · exact SMap.wfFrom_mono (by omega) (ih hm.2)

theorem SMap.wfFrom_insert {lo : Nat} (hk : lo ≤ k) (hv : v ≠ d) (hm : SMap.wfFrom d lo m = true)
    (hf : ∀ e ∈ m, e.1 ≠ k) : SMap.wfFrom d lo (SMap.insert m k v) = true := by
  induction m generalizing lo with
  | nil => simp [SMap.insert, SMap.wfFrom, hk, hv]
  | cons e t ih =>
    simp only [SMap.wfFrom, Bool.and_eq_true, decide_eq_true_eq] at hm
    have hne := hf e (by simp)
    simp only [SMap.insert]
    split
    · simp only [SMap.wfFrom, Bool.and_eq_true, decide_eq_true_eq]
      exact ⟨⟨hk, hv⟩, ⟨by omega, hm.1.2⟩, hm.2⟩
    · simp only [SMap.wfFrom, Bool.and_eq_true, decide_eq_true_eq]
      exact ⟨hm.1, ih (by omega) hm.2 fun x hx => hf x (by simp [hx])⟩

/-- A write keeps the canonical form. -/
theorem SMap.wf_set (hm : SMap.wf d m = true) : SMap.wf d (SMap.set d m k v) = true := by
  unfold SMap.set SMap.wf
  split
  · exact SMap.wfFrom_filter _ hm
  · exact SMap.wfFrom_insert (Nat.zero_le _) ‹_› (SMap.wfFrom_filter _ hm) fun e he => by simpa using (List.mem_filter.1 he).2

/-- Taking entries away keeps the canonical form. -/
theorem SMap.wf_filter (p : Nat × α → Bool) (hm : SMap.wf d m = true) : SMap.wf d (m.filter p) = true :=
  SMap.wfFrom_filter p hm

/-! ### Memory -/

variable {mem : Memory} {a b n : Nat} {x : Byte} {l : List Byte}

@[simp] theorem Memory.byte_put_self : (Memory.put mem a x).byte a = x := SMap.get_set_self

theorem Memory.byte_put_ne (h : b ≠ a) : (Memory.put mem a x).byte b = Memory.byte mem b := SMap.get_set_ne h

theorem Memory.byte_put : (Memory.put mem a x).byte b = if b = a then x else Memory.byte mem b := SMap.get_set

theorem Memory.wf_put (h : Memory.wf mem = true) : (Memory.put mem a x).wf = true := SMap.wf_set h

theorem Memory.wf_putAll (h : Memory.wf mem = true) : (Memory.putAll mem a l).wf = true := by
  induction l generalizing mem a with
  | nil => exact h
  | cons y t ih => exact ih (Memory.wf_put h)

theorem Memory.wf_filter (p : Nat × Byte → Bool) (h : Memory.wf mem = true) : Memory.wf (mem.filter p) = true :=
  SMap.wf_filter p h

theorem Memory.wf_foldPut (l : List (Nat × Byte)) (h : Memory.wf mem = true) :
    Memory.wf (l.foldl (fun m e => Memory.put m e.1 e.2) mem) = true := by
  induction l generalizing mem with
  | nil => exact h
  | cons y t ih => exact ih (Memory.wf_put h)

/-- Bytes outside the stored ones read as before. -/
theorem Memory.byte_putAll_out (h : b < a ∨ a + l.length ≤ b) : (Memory.putAll mem a l).byte b = Memory.byte mem b := by
  induction l generalizing mem a with
  | nil => rfl
  | cons y t ih =>
    simp only [List.length_cons] at h
    rw [Memory.putAll, ih (by omega), Memory.byte_put_ne (by omega)]

/-- The stored bytes read as stored. -/
theorem Memory.byte_putAll_in (h : n < l.length) : (Memory.putAll mem a l).byte (a + n) = l[n] := by
  induction l generalizing mem a n with
  | nil => simp at h
  | cons y t ih =>
    rw [Memory.putAll]
    cases n with
    | zero =>
      rw [Nat.add_zero, Memory.byte_putAll_out (by omega)]
      simp
    | succ n =>
      have := ih (mem := Memory.put mem a y) (a := a + 1) (n := n) (by simpa using h)
      rw [show a + (n + 1) = a + 1 + n by omega, this]
      simp

end Sys2Proof.Machine
end

