-- ==== Sys2Proof/Laws/Home.lean ====
section
/-! SUPPORT. What memory reads as through its queues: a write enters at the young end, a merge moves the oldest write to
the array, and no byte outside a write reads otherwise. -/

namespace Sys2Proof.Machine

theorem queuedByte_eq (q : List LineWrite) (pa : Nat) :
    queuedByte q pa = q.foldl (fun r e => (e.bytes.lookup pa).or r) none := by
  unfold queuedByte
  congr 1
  funext r e
  cases e.bytes.lookup pa <;> rfl

theorem queuedByte_append (q : List LineWrite) (e : LineWrite) (pa : Nat) :
    queuedByte (q ++ [e]) pa = (e.bytes.lookup pa).or (queuedByte q pa) := by
  simp only [queuedByte_eq, List.foldl_append, List.foldl_cons, List.foldl_nil]

/-- The oldest entry answers only where no younger one does. -/
theorem queuedByte_cons (e : LineWrite) (q : List LineWrite) (pa : Nat) :
    queuedByte (e :: q) pa = (queuedByte q pa).or (e.bytes.lookup pa) := by
  have key : ∀ (q : List LineWrite) (r : Option Byte),
      q.foldl (fun r e => (e.bytes.lookup pa).or r) r = (q.foldl (fun r e => (e.bytes.lookup pa).or r) none).or r := by
    intro q
    induction q with
    | nil => intro r; rfl
    | cons x q ih =>
      intro r
      rw [List.foldl_cons, List.foldl_cons, ih, ih ((x.bytes.lookup pa).or none)]
      cases List.foldl _ none q <;> simp
  rw [queuedByte_eq, queuedByte_eq, List.foldl_cons, key]
  simp

theorem Memory.byte_foldPut (l : List (Nat × Byte)) (m : Memory) (a : Nat) (hn : (l.map Prod.fst).Nodup) :
    (l.foldl (fun m e => Memory.put m e.1 e.2) m).byte a = (l.lookup a).getD (m.byte a) := by
  induction l generalizing m with
  | nil => rfl
  | cons e l ih =>
    simp only [List.map_cons, List.nodup_cons] at hn
    rw [List.foldl_cons, ih _ hn.2, List.lookup_cons]
    by_cases h : a = e.1
    · have hl : l.lookup a = none := by
        rw [List.lookup_eq_none_iff]
        intro p hp
        have : p.1 ≠ e.1 := fun hc => hn.1 (by rw [← hc]; exact List.mem_map_of_mem hp)
        simpa [h] using this.symm
      subst h
      simp [hl]
    · have hb : (a == e.1) = false := by simpa using h
      simp only [hb]
      rw [Memory.byte_put_ne h]

/-- What each step of a fold leaves alone, the fold leaves alone. -/
theorem foldl_keeps {α β γ : Type} (g : γ → β) (f : γ → α → γ) (hf : ∀ s a, g (f s a) = g s) (l : List α) (s : γ) :
    g (l.foldl f s) = g s := by
  induction l generalizing s with
  | nil => rfl
  | cons x l ih => rw [List.foldl_cons, ih, hf]

/-- A write to the array changes the array's bytes alone among what a read is made of. -/
theorem State.arrayWrite_mem (s : State) (l : List (Nat × Byte)) (bad : Bool) :
    (s.arrayWrite l bad).mem = l.foldl (fun m e => Memory.put m e.1 e.2) s.mem ∧ (s.arrayWrite l bad).homeq = s.homeq ∧
      (s.arrayWrite l bad).outbound = s.outbound ∧ (s.arrayWrite l bad).st = s.st := by
  unfold State.arrayWrite
  refine ⟨?_, ?_, ?_, ?_⟩
  · refine (foldl_keeps State.mem _ ?_ _ _).trans rfl
    intro u x
    split_ifs <;> rfl
  · refine (foldl_keeps State.homeq _ ?_ _ _).trans rfl
    intro u x
    split_ifs <;> rfl
  · refine (foldl_keeps State.outbound _ ?_ _ _).trans rfl
    intro u x
    split_ifs <;> rfl
  · refine (foldl_keeps State.st _ ?_ _ _).trans rfl
    intro u x
    split_ifs <;> rfl

theorem State.homeByte_eq (s : State) (pa : Nat) :
    s.homeByte pa = (queuedByte (s.homeQ (homeOf pa)) pa).getD (s.mem.byte pa) := by
  unfold State.homeByte
  cases queuedByte (s.homeQ (homeOf pa)) pa <;> rfl

theorem State.coreByte_eq (s : State) (core pa : Nat) :
    s.coreByte core pa = (queuedByte (s.outQ core) pa).getD (s.homeByte pa) := by
  unfold State.coreByte
  cases queuedByte (s.outQ core) pa <;> rfl

/-- R264: a merge moves the oldest queued write of a home to the array, and no byte reads otherwise for it. -/
theorem State.mergeOldest_spec (s : State) (h : Nat) (hq : HomeQueueOk s h) :
    (s.mergeOldest h).homeQ h = (s.homeQ h).tail ∧ (∀ k, k ≠ h → (s.mergeOldest h).homeQ k = s.homeQ k) ∧
      (∀ pa, (s.mergeOldest h).homeByte pa = s.homeByte pa) ∧ (s.mergeOldest h).outbound = s.outbound ∧
      (s.mergeOldest h).st = s.st := by
  unfold State.mergeOldest
  cases hs : s.homeQ h with
  | nil => exact ⟨by simp [hs], fun _ _ => rfl, fun _ => rfl, rfl, rfl⟩
  | cons e t =>
    obtain ⟨he, hp, hn, hb⟩ := hq e (by simp [hs])
    have aw := State.arrayWrite_mem { s with homeq := SMap.set [] s.homeq h t } e.bytes false
    have hQ : ∀ k, (State.arrayWrite { s with homeq := SMap.set [] s.homeq h t } e.bytes false).homeQ k =
        if k = h then t else s.homeQ k := by
      intro k
      rw [State.homeQ, aw.2.1]
      exact SMap.get_set
    refine ⟨by rw [hQ, if_pos rfl]; rfl, fun k hk => by rw [hQ, if_neg hk], fun pa => ?_, aw.2.2.1, aw.2.2.2⟩
    rw [State.homeByte_eq, State.homeByte_eq, hQ, aw.1, Memory.byte_foldPut _ _ _ hn]
    by_cases hk : homeOf pa = h
    · rw [if_pos hk, hk, hs, queuedByte_cons]
      cases queuedByte t pa <;> rfl
    · rw [if_neg hk]
      have hl : e.bytes.lookup pa = none := by
        rw [List.lookup_eq_none_iff]
        intro p hp
        have : p.1 ≠ pa := fun hc => hk (by rw [← hc, hb p hp, he])
        simpa using this.symm
      rw [hl]
      rfl

/-- Merging all of a home's queue changes no byte a read returns, and leaves the queue empty. -/
theorem State.mergeAll_spec (s : State) (h : Nat) (hq : HomeQueueOk s h) :
    (s.mergeAll h).homeQ h = [] ∧ (∀ pa, (s.mergeAll h).homeByte pa = s.homeByte pa) ∧
      (∀ k, k ≠ h → (s.mergeAll h).homeQ k = s.homeQ k) ∧ (s.mergeAll h).outbound = s.outbound ∧
      (s.mergeAll h).st = s.st := by
  unfold State.mergeAll
  generalize hl : s.homeQ h = l
  induction l generalizing s with
  | nil => exact ⟨hl, fun _ => rfl, fun _ _ => rfl, rfl, rfl⟩
  | cons e t ih =>
    obtain ⟨h1, h2, h3, h4, h5⟩ := State.mergeOldest_spec s h hq
    have hq' : HomeQueueOk (s.mergeOldest h) h := by
      intro x hx
      rw [h1] at hx
      exact hq x (List.mem_of_mem_tail hx)
    obtain ⟨i1, i2, i3, i4, i5⟩ := ih (s.mergeOldest h) hq' (by rw [h1, hl]; rfl)
    rw [List.foldl_cons]
    exact ⟨i1, fun pa => (i2 pa).trans (h3 pa), fun k hk => (i3 k hk).trans (h2 k hk), i4.trans h4, i5.trans h5⟩

/-- A write performed at one home: its bytes read as written, every other byte as before. -/
theorem State.directWrite_spec (s : State) (h : Nat) (l : List (Nat × Byte)) (bad : Bool) (hq : HomeQueueOk s h)
    (hn : (l.map Prod.fst).Nodup) (hh : ∀ b ∈ l, homeOf b.1 = h) :
    (∀ pa, (s.directWrite l bad).homeByte pa = (l.lookup pa).getD (s.homeByte pa)) ∧
      (s.directWrite l bad).outbound = s.outbound ∧ (s.directWrite l bad).st = s.st := by
  cases hl : l with
  | nil => exact ⟨fun pa => by rfl, rfl, rfl⟩
  | cons e t =>
    have hhomes : (l.map fun e => homeOf e.1).dedup = [h] := by
      have : l.map (fun e => homeOf e.1) = List.replicate l.length h := by
        rw [List.eq_replicate_iff]
        refine ⟨by simp, ?_⟩
        intro b hb
        obtain ⟨x, hx, rfl⟩ := List.mem_map.1 hb
        exact hh x hx
      rw [this, hl]
      simp [List.replicate_dedup]
    have hd : s.directWrite l bad = (s.mergeAll h).arrayWrite l bad := by
      have : s.directWrite l bad = ((l.map fun e => homeOf e.1).dedup.foldl (fun u k => u.mergeAll k) s).arrayWrite l bad := by
        rw [hl]
        rfl
      rw [this, hhomes]
      rfl
    rw [← hl, hd]
    obtain ⟨m1, m2, m3, m4, m5⟩ := State.mergeAll_spec s h hq
    have aw := State.arrayWrite_mem (s.mergeAll h) l bad
    refine ⟨fun pa => ?_, by rw [aw.2.2.1, m4], by rw [aw.2.2.2, m5]⟩
    rw [← m2 pa, State.homeByte_eq, State.homeByte_eq, aw.1, Memory.byte_foldPut _ _ _ hn]
    have hQ : ∀ k, ((s.mergeAll h).arrayWrite l bad).homeQ k = (s.mergeAll h).homeQ k := by
      intro k
      rw [State.homeQ, aw.2.1]
      rfl
    rw [hQ]
    by_cases hk : homeOf pa = h
    · rw [hk, m1]
      rfl
    · have hlk : l.lookup pa = none := by
        rw [List.lookup_eq_none_iff]
        intro p hp
        have : p.1 ≠ pa := fun hc => hk (by rw [← hc, hh p hp])
        simpa using this.symm
      rw [hlk]
      rfl

/-- The cached leaf of an access changes the translator alone. -/
theorem State.cacheFor_eq (s : State) (st : Strand) (addr : Word) :
    s.cacheFor st addr = { s with tlb := (s.cacheFor st addr).tlb, freeCtr := (s.cacheFor st addr).freeCtr } := by
  have h : ∀ w, s.cache st.cluster st.part (bf addr 0 60) w =
      { s with tlb := (s.cache st.cluster st.part (bf addr 0 60) w).tlb,
               freeCtr := (s.cache st.cluster st.part (bf addr 0 60) w).freeCtr } := by
    intro w
    cases w with
    | absent c => rfl
    | leaf l large =>
      by_cases hh : ((SMap.get [] s.tlb st.cluster).any fun t => t.hit st.part (bf addr 0 60) && !t.retiring) = true
      · rw [State.cache, if_pos hh]
      · rw [State.cache, if_neg hh]
        dsimp only
        split <;> rfl
  unfold State.cacheFor
  split
  · exact h _
  · rfl

end Sys2Proof.Machine
end

