-- ==== Sys2Proof/Laws/PerInstr.lean ====
section
/-! SUPPORT. Decoding the encoded bytes of an instruction gives it back: one lemma for each constructor. -/

namespace Sys2Proof.Laws.RoundTrip

/-- Of an instruction the encoder has words for: its bytes, whatever stands behind them, decode to it. -/
def Statement (i : Instr) : Prop :=
  i.encodable = true → ∀ rest, decodeBytes (encodeBytes i ++ rest) = .ok (i, rest)

theorem wf_of {i : Instr} (h : i.encodable = true) : i.wf = true := by
  simp only [Instr.encodable, Bool.and_eq_true] at h
  exact h.1.1.1

theorem event {i : Instr} (he : i.isEvent = true) : Statement i := by
  intro h
  simp [Instr.encodable, he] at h

theorem shared {i : Instr} (he : i.sharesWord = true) : Statement i := by
  intro h
  simp [Instr.encodable, he] at h

theorem one {i : Instr} {w : W32} (he : encode i = [w]) (hd : i.wf = true → isOwner w = false ∧ decode w 0 = .ok i) :
    Statement i := fun h => decodeBytes_one he (hd (wf_of h)).1 (hd (wf_of h)).2

theorem two {i : Instr} {w l : W32} (he : encode i = [w, l]) (hd : i.wf = true → isOwner w = true ∧ decode w l = .ok i) :
    Statement i := fun h => decodeBytes_two he (hd (wf_of h)).1 (hd (wf_of h)).2

theorem bcast {i : Instr} {op : BitVec 6} {t c d a : BitVec 4} {s : BSrc} (he : encode i = wBcast op t c d a s)
    (hd : ∀ l, decodeSource s.code l = some s → decode (1#2 ++ t ++ c ++ op ++ d ++ a ++ s.code ++ 3#2 : W32) l = .ok i) :
    Statement i := by
  intro _
  cases s with
  | const n =>
    refine decodeBytes_one he ?_ (hd 0 (decodeSource_code _ _ (by intro w h; cases h)))
    rw [isOwner_bcast]
    clear he hd
    revert n
    decide
  | scalar n =>
    refine decodeBytes_one he ?_ (hd 0 (decodeSource_code _ _ (by intro w h; cases h)))
    rw [isOwner_bcast]
    clear he hd
    revert n
    decide
  | literal w =>
    refine decodeBytes_two he ?_ (hd w (decodeSource_code _ _ (by intro v h; cases h; rfl)))
    rw [isOwner_bcast]
    rfl

theorem copy {i : Instr} {op : BitVec 5} {t : BitVec 4} {f : Option W32} {g : BitVec 3} {r : BitVec 17}
    (he : encode i = wCopy op t f g r) (hf : i.carried = f)
    (hd : i.wf = true → ∀ (fo : BitVec 1) l, decodeCarried (fo == 1) l = .ok f →
      decode (3#2 ++ t ++ fo ++ g ++ op ++ r : W32) l = .ok i) :
    Statement i := by
  intro h
  have hw := wf_of h
  cases f with
  | none => exact decodeBytes_one he (isOwner_copy ..) (hd hw 0 0 rfl)
  | some w =>
    refine decodeBytes_two he (isOwner_copy ..) (hd hw 1 w ?_)
    simp only [Instr.encodable, hf, Bool.and_eq_true] at h
    obtain ⟨_, h1, h2⟩ := h
    have h1' : (fld w 30 2 != 2) = false := by simpa using h1
    simp only [decodeCarried, h1']
    split at h2
    · rename_i j hj
      simp
    · cases h2

theorem shift_short (d a : BitVec 5) (k : BitVec 2) (n : BitVec 6) (l : W32) :
    decodeShort 5 d a (k ++ 0#6 ++ n) l =
      (match k.toNat with
      | 0 => accept false (0#6 != 0) (.shli d a n)
      | 1 => accept false (0#6 != 0) (.shri d a n)
      | 2 => accept false (0#6 != 0) (.srai d a n)
      | _ => .error .illegal) := by
  show (match (fld (k ++ 0#6 ++ n : BitVec 14) 12 2).toNat with
    | 0 => accept false (fld (k ++ 0#6 ++ n : BitVec 14) 6 6 != 0) (.shli d a (fld (k ++ 0#6 ++ n : BitVec 14) 0 6))
    | 1 => accept false (fld (k ++ 0#6 ++ n : BitVec 14) 6 6 != 0) (.shri d a (fld (k ++ 0#6 ++ n : BitVec 14) 0 6))
    | 2 => accept false (fld (k ++ 0#6 ++ n : BitVec 14) 6 6 != 0) (.srai d a (fld (k ++ 0#6 ++ n : BitVec 14) 0 6))
    | _ => .error .illegal) = _
  simp (disch := omega) only [fld_lo, fld_hi, Nat.reduceSub, fld_all]

theorem gset_short {s c : BitVec 3} {a b : BitVec 5} {l : W32} (h : (s != 0 && c != 7 && (c != 6 || b == 0)) = true) :
    decodeShort 19 (s ++ 0#2) a (b ++ c ++ 0#6) l = .ok (.gset s a b c) := by
  show (if fld (b ++ c ++ 0#6 : BitVec 14) 6 3 == 7 then _ else
    accept (fld (s ++ 0#2 : BitVec 5) 2 3 == 0)
      ((fld (s ++ 0#2 : BitVec 5) 0 2 != 0 || fld (b ++ c ++ 0#6 : BitVec 14) 0 6 != 0) ||
        (fld (b ++ c ++ 0#6 : BitVec 14) 6 3 == 6 && fld (b ++ c ++ 0#6 : BitVec 14) 9 5 != 0))
      (.gset (fld (s ++ 0#2 : BitVec 5) 2 3) a (fld (b ++ c ++ 0#6 : BitVec 14) 9 5) (fld (b ++ c ++ 0#6 : BitVec 14) 6 3))) = _
  simp (disch := omega) only [fld_lo, fld_hi, Nat.reduceSub, fld_all]
  simp only [Bool.and_eq_true, bne_iff_ne, ne_eq, Bool.or_eq_true, beq_iff_eq] at h
  rw [if_neg (by simpa using h.1.2)]
  refine accept_ok _ (by simpa using h.1.1) ?_
  rcases h.2 with h6 | h6 <;> simp [h6]
  intro h7; exact absurd h7 h6

theorem gsetUnres_short {s : BitVec 3} {l : W32} (h : (s != 0) = true) :
    decodeShort 19 (s ++ 0#2) 0 (0#5 ++ 7#3 ++ 0#6) l = .ok (.gsetUnres s) := by
  show accept (fld (s ++ 0#2 : BitVec 5) 2 3 == 0) ((fld (s ++ 0#2 : BitVec 5) 0 2 != 0 || false) || false || false)
    (.gsetUnres (fld (s ++ 0#2 : BitVec 5) 2 3)) = _
  simp (disch := omega) only [fld_lo, fld_hi, Nat.reduceSub, fld_all]
  exact accept_ok _ (by simpa using h) rfl

theorem lt2_ne3 {y : BitVec 2} (h : y < 2) : (y == 3) = false := by
  revert y
  decide

theorem lui (d : BitVec 5) (i : BitVec 20) : Statement (.lui d i) := one rfl fun hq => by
  rw [decode_wLong]
  refine ⟨by exact isOwner_wLong .., ?_⟩
  rfl

theorem fli (d : BitVec 5) (i : BitVec 20) : Statement (.fli d i) := one rfl fun hq => by
  rw [decode_wLong]
  refine ⟨by exact isOwner_wLong .., ?_⟩
  rfl

theorem addpc (d : BitVec 5) (i : BitVec 20) : Statement (.addpc d i) := one rfl fun hq => by
  rw [decode_wLong]
  refine ⟨by exact isOwner_wLong .., ?_⟩
  rfl

theorem j (i : BitVec 20) : Statement (.j i) := one rfl fun hq => by
  rw [decode_wLong]
  refine ⟨by exact isOwner_wLong .., ?_⟩
  exact accept_ok _ rfl rfl

theorem call (i : BitVec 20) : Statement (.call i) := one rfl fun hq => by
  rw [decode_wLong]
  refine ⟨by exact isOwner_wLong .., ?_⟩
  exact accept_ok _ rfl rfl

theorem rep (c : BitVec 2) (b : BitVec 2) (a : BitVec 2) (n : BitVec 6) : Statement (.rep c b a n) := one rfl fun hq => by
  rw [decode_wLong]
  refine ⟨by exact isOwner_wLong .., ?_⟩
  show accept false ((0 : BitVec 5) != 0 || fld (0#8 ++ c ++ b ++ a ++ n : BitVec 20) 12 8 != 0) (.rep (fld (0#8 ++ c ++ b ++ a ++ n : BitVec 20) 10 2) (fld (0#8 ++ c ++ b ++ a ++ n : BitVec 20) 8 2) (fld (0#8 ++ c ++ b ++ a ++ n : BitVec 20) 6 2) (fld (0#8 ++ c ++ b ++ a ++ n : BitVec 20) 0 6)) = _
  simp (disch := omega) only [fld_lo, fld_hi, Nat.reduceSub, fld_all]
  exact accept_ok _ rfl rfl

theorem loopb (r : BitVec 5) (v : BitVec 3) (d : BitVec 3) (c : BitVec 3) (l : BitVec 8) : Statement (.loopb r v d c l) := one rfl fun hq => by
  have hq : ((l != 0 : Bool)) = true := hq
  rw [decode_wLong]
  refine ⟨by exact isOwner_wLong .., ?_⟩
  show accept (fld (0#3 ++ v ++ d ++ c ++ l : BitVec 20) 0 8 == 0) (fld (0#3 ++ v ++ d ++ c ++ l : BitVec 20) 17 3 != 0) (.loopb r (fld (0#3 ++ v ++ d ++ c ++ l : BitVec 20) 14 3) (fld (0#3 ++ v ++ d ++ c ++ l : BitVec 20) 11 3) (fld (0#3 ++ v ++ d ++ c ++ l : BitVec 20) 8 3) (fld (0#3 ++ v ++ d ++ c ++ l : BitVec 20) 0 8)) = _
  simp (disch := omega) only [fld_lo, fld_hi, Nat.reduceSub, fld_all]
  exact accept_ok _ (by simp at hq; simp_all) rfl

theorem add (d : BitVec 5) (a : BitVec 5) (b : BitVec 5) : Statement (.add d a b) := one rfl fun hq => by
  have hq : ((!(d == 0 && a == 0 && b == 0) : Bool)) = true := hq
  rw [decode_wAlu]
  refine ⟨by simp only [wAlu, isOwner_wShort]; rfl, ?_⟩
  exact accept_ok _ (by simp at hq ⊢; bv_omega) rfl

theorem sub (d : BitVec 5) (a : BitVec 5) (b : BitVec 5) : Statement (.sub d a b) := one rfl fun hq => by
  rw [decode_wAlu]
  refine ⟨by simp only [wAlu, isOwner_wShort]; rfl, ?_⟩
  rfl

theorem mul (d : BitVec 5) (a : BitVec 5) (b : BitVec 5) : Statement (.mul d a b) := one rfl fun hq => by
  rw [decode_wAlu]
  refine ⟨by simp only [wAlu, isOwner_wShort]; rfl, ?_⟩
  rfl

theorem mulh (d : BitVec 5) (a : BitVec 5) (b : BitVec 5) : Statement (.mulh d a b) := one rfl fun hq => by
  rw [decode_wAlu]
  refine ⟨by simp only [wAlu, isOwner_wShort]; rfl, ?_⟩
  rfl

theorem mulhn (d : BitVec 5) (a : BitVec 5) (b : BitVec 5) : Statement (.mulhn d a b) := one rfl fun hq => by
  rw [decode_wAlu]
  refine ⟨by simp only [wAlu, isOwner_wShort]; rfl, ?_⟩
  rfl

theorem div (d : BitVec 5) (a : BitVec 5) (b : BitVec 5) : Statement (.div d a b) := one rfl fun hq => by
  rw [decode_wAlu]
  refine ⟨by simp only [wAlu, isOwner_wShort]; rfl, ?_⟩
  rfl

theorem divn (d : BitVec 5) (a : BitVec 5) (b : BitVec 5) : Statement (.divn d a b) := one rfl fun hq => by
  rw [decode_wAlu]
  refine ⟨by simp only [wAlu, isOwner_wShort]; rfl, ?_⟩
  rfl

theorem rem (d : BitVec 5) (a : BitVec 5) (b : BitVec 5) : Statement (.rem d a b) := one rfl fun hq => by
  rw [decode_wAlu]
  refine ⟨by simp only [wAlu, isOwner_wShort]; rfl, ?_⟩
  rfl

theorem remn (d : BitVec 5) (a : BitVec 5) (b : BitVec 5) : Statement (.remn d a b) := one rfl fun hq => by
  rw [decode_wAlu]
  refine ⟨by simp only [wAlu, isOwner_wShort]; rfl, ?_⟩
  rfl

theorem and (d : BitVec 5) (a : BitVec 5) (b : BitVec 5) : Statement (.and d a b) := one rfl fun hq => by
  rw [decode_wAlu]
  refine ⟨by simp only [wAlu, isOwner_wShort]; rfl, ?_⟩
  rfl

theorem or (d : BitVec 5) (a : BitVec 5) (b : BitVec 5) : Statement (.or d a b) := one rfl fun hq => by
  rw [decode_wAlu]
  refine ⟨by simp only [wAlu, isOwner_wShort]; rfl, ?_⟩
  rfl

theorem xor (d : BitVec 5) (a : BitVec 5) (b : BitVec 5) : Statement (.xor d a b) := one rfl fun hq => by
  rw [decode_wAlu]
  refine ⟨by simp only [wAlu, isOwner_wShort]; rfl, ?_⟩
  rfl

theorem andn (d : BitVec 5) (a : BitVec 5) (b : BitVec 5) : Statement (.andn d a b) := one rfl fun hq => by
  rw [decode_wAlu]
  refine ⟨by simp only [wAlu, isOwner_wShort]; rfl, ?_⟩
  rfl

theorem shl (d : BitVec 5) (a : BitVec 5) (b : BitVec 5) : Statement (.shl d a b) := one rfl fun hq => by
  rw [decode_wAlu]
  refine ⟨by simp only [wAlu, isOwner_wShort]; rfl, ?_⟩
  rfl

theorem shr (d : BitVec 5) (a : BitVec 5) (b : BitVec 5) : Statement (.shr d a b) := one rfl fun hq => by
  rw [decode_wAlu]
  refine ⟨by simp only [wAlu, isOwner_wShort]; rfl, ?_⟩
  rfl

theorem sra (d : BitVec 5) (a : BitVec 5) (b : BitVec 5) : Statement (.sra d a b) := one rfl fun hq => by
  rw [decode_wAlu]
  refine ⟨by simp only [wAlu, isOwner_wShort]; rfl, ?_⟩
  rfl

theorem min (d : BitVec 5) (a : BitVec 5) (b : BitVec 5) : Statement (.min d a b) := one rfl fun hq => by
  rw [decode_wAlu]
  refine ⟨by simp only [wAlu, isOwner_wShort]; rfl, ?_⟩
  rfl

theorem minn (d : BitVec 5) (a : BitVec 5) (b : BitVec 5) : Statement (.minn d a b) := one rfl fun hq => by
  rw [decode_wAlu]
  refine ⟨by simp only [wAlu, isOwner_wShort]; rfl, ?_⟩
  rfl

theorem max (d : BitVec 5) (a : BitVec 5) (b : BitVec 5) : Statement (.max d a b) := one rfl fun hq => by
  rw [decode_wAlu]
  refine ⟨by simp only [wAlu, isOwner_wShort]; rfl, ?_⟩
  rfl

theorem maxn (d : BitVec 5) (a : BitVec 5) (b : BitVec 5) : Statement (.maxn d a b) := one rfl fun hq => by
  rw [decode_wAlu]
  refine ⟨by simp only [wAlu, isOwner_wShort]; rfl, ?_⟩
  rfl

theorem seq (d : BitVec 5) (a : BitVec 5) (b : BitVec 5) : Statement (.seq d a b) := one rfl fun hq => by
  rw [decode_wAlu]
  refine ⟨by simp only [wAlu, isOwner_wShort]; rfl, ?_⟩
  rfl

theorem slt (d : BitVec 5) (a : BitVec 5) (b : BitVec 5) : Statement (.slt d a b) := one rfl fun hq => by
  rw [decode_wAlu]
  refine ⟨by simp only [wAlu, isOwner_wShort]; rfl, ?_⟩
  rfl

theorem sltn (d : BitVec 5) (a : BitVec 5) (b : BitVec 5) : Statement (.sltn d a b) := one rfl fun hq => by
  rw [decode_wAlu]
  refine ⟨by simp only [wAlu, isOwner_wShort]; rfl, ?_⟩
  rfl

theorem clz (d : BitVec 5) (a : BitVec 5) : Statement (.clz d a) := one rfl fun hq => by
  rw [decode_wAlu]
  refine ⟨by simp only [wAlu, isOwner_wShort]; rfl, ?_⟩
  exact accept_ok _ rfl rfl

theorem ctz (d : BitVec 5) (a : BitVec 5) : Statement (.ctz d a) := one rfl fun hq => by
  rw [decode_wAlu]
  refine ⟨by simp only [wAlu, isOwner_wShort]; rfl, ?_⟩
  exact accept_ok _ rfl rfl

theorem popc (d : BitVec 5) (a : BitVec 5) : Statement (.popc d a) := one rfl fun hq => by
  rw [decode_wAlu]
  refine ⟨by simp only [wAlu, isOwner_wShort]; rfl, ?_⟩
  exact accept_ok _ rfl rfl

theorem addw (d : BitVec 5) (a : BitVec 5) (b : BitVec 5) : Statement (.addw d a b) := one rfl fun hq => by
  rw [decode_wAlu]
  refine ⟨by simp only [wAlu, isOwner_wShort]; rfl, ?_⟩
  rfl

theorem subw (d : BitVec 5) (a : BitVec 5) (b : BitVec 5) : Statement (.subw d a b) := one rfl fun hq => by
  rw [decode_wAlu]
  refine ⟨by simp only [wAlu, isOwner_wShort]; rfl, ?_⟩
  rfl

theorem mulw (d : BitVec 5) (a : BitVec 5) (b : BitVec 5) : Statement (.mulw d a b) := one rfl fun hq => by
  rw [decode_wAlu]
  refine ⟨by simp only [wAlu, isOwner_wShort]; rfl, ?_⟩
  rfl

theorem addi (d : BitVec 5) (a : BitVec 5) (i : BitVec 14) : Statement (.addi d a i) := one rfl fun hq => by
  rw [decode_wShort]
  refine ⟨by simp only [isOwner_wShort]; rfl, ?_⟩
  rfl

theorem andi (d : BitVec 5) (a : BitVec 5) (i : BitVec 14) : Statement (.andi d a i) := one rfl fun hq => by
  rw [decode_wShort]
  refine ⟨by simp only [isOwner_wShort]; rfl, ?_⟩
  rfl

theorem ori (d : BitVec 5) (a : BitVec 5) (i : BitVec 14) : Statement (.ori d a i) := one rfl fun hq => by
  rw [decode_wShort]
  refine ⟨by simp only [isOwner_wShort]; rfl, ?_⟩
  rfl

theorem xori (d : BitVec 5) (a : BitVec 5) (i : BitVec 14) : Statement (.xori d a i) := one rfl fun hq => by
  rw [decode_wShort]
  refine ⟨by simp only [isOwner_wShort]; rfl, ?_⟩
  rfl

theorem shli (d : BitVec 5) (a : BitVec 5) (n : BitVec 6) : Statement (.shli d a n) := one rfl fun _ => by
  rw [decode_wShort, isOwner_wShort]
  exact ⟨rfl, shift_short ..⟩

theorem shri (d : BitVec 5) (a : BitVec 5) (n : BitVec 6) : Statement (.shri d a n) := one rfl fun _ => by
  rw [decode_wShort, isOwner_wShort]
  exact ⟨rfl, shift_short ..⟩

theorem srai (d : BitVec 5) (a : BitVec 5) (n : BitVec 6) : Statement (.srai d a n) := one rfl fun _ => by
  rw [decode_wShort, isOwner_wShort]
  exact ⟨rfl, shift_short ..⟩

theorem slti (d : BitVec 5) (a : BitVec 5) (i : BitVec 14) : Statement (.slti d a i) := one rfl fun hq => by
  rw [decode_wShort]
  refine ⟨by simp only [isOwner_wShort]; rfl, ?_⟩
  rfl

theorem sltni (d : BitVec 5) (a : BitVec 5) (i : BitVec 14) : Statement (.sltni d a i) := one rfl fun hq => by
  rw [decode_wShort]
  refine ⟨by simp only [isOwner_wShort]; rfl, ?_⟩
  rfl

theorem ld (d : BitVec 5) (a : BitVec 5) (z : BitVec 3) (o : BitVec 11) : Statement (.ld d a z o) := one rfl fun hq => by
  have hq : ((z != 7 : Bool)) = true := hq
  rw [decode_wShort]
  refine ⟨by simp only [isOwner_wShort]; rfl, ?_⟩
  show accept (fld (z ++ o : BitVec 14) 11 3 == 7) false (.ld d a (fld (z ++ o : BitVec 14) 11 3) (fld (z ++ o : BitVec 14) 0 11)) = _
  simp (disch := omega) only [fld_lo, fld_hi, Nat.reduceSub, fld_all]
  exact accept_ok _ (by simp at hq; simp_all) rfl

theorem st (s : BitVec 5) (a : BitVec 5) (z : BitVec 3) (o : BitVec 11) : Statement (.st s a z o) := one rfl fun hq => by
  have hq : ((z < 4 : Bool)) = true := hq
  rw [decode_wShort]
  refine ⟨by simp only [isOwner_wShort]; rfl, ?_⟩
  show accept (fld (z ++ o : BitVec 14) 11 3 >= 4) false (.st s a (fld (z ++ o : BitVec 14) 11 3) (fld (z ++ o : BitVec 14) 0 11)) = _
  simp (disch := omega) only [fld_lo, fld_hi, Nat.reduceSub, fld_all]
  exact accept_ok _ (by simp at hq; simp_all) rfl

theorem amoAdd (d : BitVec 5) (a : BitVec 5) (b : BitVec 5) (c : BitVec 3) (r : BitVec 2) : Statement (.amoAdd d a b c r) := one rfl fun hq => by
  have hq : ((c != 7 : Bool)) = true := hq
  rw [decode_wAmo]
  refine ⟨by simp only [wAmo, isOwner_wShort]; rfl, ?_⟩
  exact accept_ok _ (by simp at hq; simp_all) rfl

theorem amoAnd (d : BitVec 5) (a : BitVec 5) (b : BitVec 5) (c : BitVec 3) (r : BitVec 2) : Statement (.amoAnd d a b c r) := one rfl fun hq => by
  have hq : ((c != 7 : Bool)) = true := hq
  rw [decode_wAmo]
  refine ⟨by simp only [wAmo, isOwner_wShort]; rfl, ?_⟩
  exact accept_ok _ (by simp at hq; simp_all) rfl

theorem amoOr (d : BitVec 5) (a : BitVec 5) (b : BitVec 5) (c : BitVec 3) (r : BitVec 2) : Statement (.amoOr d a b c r) := one rfl fun hq => by
  have hq : ((c != 7 : Bool)) = true := hq
  rw [decode_wAmo]
  refine ⟨by simp only [wAmo, isOwner_wShort]; rfl, ?_⟩
  exact accept_ok _ (by simp at hq; simp_all) rfl

theorem amoXor (d : BitVec 5) (a : BitVec 5) (b : BitVec 5) (c : BitVec 3) (r : BitVec 2) : Statement (.amoXor d a b c r) := one rfl fun hq => by
  have hq : ((c != 7 : Bool)) = true := hq
  rw [decode_wAmo]
  refine ⟨by simp only [wAmo, isOwner_wShort]; rfl, ?_⟩
  exact accept_ok _ (by simp at hq; simp_all) rfl

theorem amoMin (d : BitVec 5) (a : BitVec 5) (b : BitVec 5) (c : BitVec 3) (r : BitVec 2) : Statement (.amoMin d a b c r) := one rfl fun hq => by
  have hq : ((c != 7 : Bool)) = true := hq
  rw [decode_wAmo]
  refine ⟨by simp only [wAmo, isOwner_wShort]; rfl, ?_⟩
  exact accept_ok _ (by simp at hq; simp_all) rfl

theorem amoMax (d : BitVec 5) (a : BitVec 5) (b : BitVec 5) (c : BitVec 3) (r : BitVec 2) : Statement (.amoMax d a b c r) := one rfl fun hq => by
  have hq : ((c != 7 : Bool)) = true := hq
  rw [decode_wAmo]
  refine ⟨by simp only [wAmo, isOwner_wShort]; rfl, ?_⟩
  exact accept_ok _ (by simp at hq; simp_all) rfl

theorem amoMinn (d : BitVec 5) (a : BitVec 5) (b : BitVec 5) (c : BitVec 3) (r : BitVec 2) : Statement (.amoMinn d a b c r) := one rfl fun hq => by
  have hq : ((c != 7 : Bool)) = true := hq
  rw [decode_wAmo]
  refine ⟨by simp only [wAmo, isOwner_wShort]; rfl, ?_⟩
  exact accept_ok _ (by simp at hq; simp_all) rfl

theorem amoMaxn (d : BitVec 5) (a : BitVec 5) (b : BitVec 5) (c : BitVec 3) (r : BitVec 2) : Statement (.amoMaxn d a b c r) := one rfl fun hq => by
  have hq : ((c != 7 : Bool)) = true := hq
  rw [decode_wAmo]
  refine ⟨by simp only [wAmo, isOwner_wShort]; rfl, ?_⟩
  exact accept_ok _ (by simp at hq; simp_all) rfl

theorem amoSwap (d : BitVec 5) (a : BitVec 5) (b : BitVec 5) (c : BitVec 3) (r : BitVec 2) : Statement (.amoSwap d a b c r) := one rfl fun hq => by
  have hq : ((c != 7 : Bool)) = true := hq
  rw [decode_wAmo]
  refine ⟨by simp only [wAmo, isOwner_wShort]; rfl, ?_⟩
  exact accept_ok _ (by simp at hq; simp_all) rfl

theorem amoCas (d : BitVec 5) (a : BitVec 5) (b : BitVec 5) (c : BitVec 3) (r : BitVec 2) : Statement (.amoCas d a b c r) := one rfl fun hq => by
  have hq : ((c != 7 : Bool)) = true := hq
  rw [decode_wAmo]
  refine ⟨by simp only [wAmo, isOwner_wShort]; rfl, ?_⟩
  exact accept_ok _ (by simp at hq; simp_all) rfl

theorem amoFadd32 (d : BitVec 5) (a : BitVec 5) (b : BitVec 5) (c : BitVec 3) (r : BitVec 2) : Statement (.amoFadd32 d a b c r) := one rfl fun hq => by
  have hq : ((c != 7 : Bool)) = true := hq
  rw [decode_wAmo]
  refine ⟨by simp only [wAmo, isOwner_wShort]; rfl, ?_⟩
  exact accept_ok _ (by simp at hq; simp_all) rfl

theorem amoAddw (d : BitVec 5) (a : BitVec 5) (b : BitVec 5) (c : BitVec 3) (r : BitVec 2) : Statement (.amoAddw d a b c r) := one rfl fun hq => by
  have hq : ((c != 7 : Bool)) = true := hq
  rw [decode_wAmo]
  refine ⟨by simp only [wAmo, isOwner_wShort]; rfl, ?_⟩
  exact accept_ok _ (by simp at hq; simp_all) rfl

theorem amoCasw (d : BitVec 5) (a : BitVec 5) (b : BitVec 5) (c : BitVec 3) (r : BitVec 2) : Statement (.amoCasw d a b c r) := one rfl fun hq => by
  have hq : ((c != 7 : Bool)) = true := hq
  rw [decode_wAmo]
  refine ⟨by simp only [wAmo, isOwner_wShort]; rfl, ?_⟩
  exact accept_ok _ (by simp at hq; simp_all) rfl

theorem amoSwapw (d : BitVec 5) (a : BitVec 5) (b : BitVec 5) (c : BitVec 3) (r : BitVec 2) : Statement (.amoSwapw d a b c r) := one rfl fun hq => by
  have hq : ((c != 7 : Bool)) = true := hq
  rw [decode_wAmo]
  refine ⟨by simp only [wAmo, isOwner_wShort]; rfl, ?_⟩
  exact accept_ok _ (by simp at hq; simp_all) rfl

theorem beq (a : BitVec 5) (b : BitVec 5) (i : BitVec 14) : Statement (.beq a b i) := one rfl fun hq => by
  rw [decode_wShort]
  refine ⟨by simp only [isOwner_wShort]; rfl, ?_⟩
  rfl

theorem bne (a : BitVec 5) (b : BitVec 5) (i : BitVec 14) : Statement (.bne a b i) := one rfl fun hq => by
  rw [decode_wShort]
  refine ⟨by simp only [isOwner_wShort]; rfl, ?_⟩
  rfl

theorem blt (a : BitVec 5) (b : BitVec 5) (i : BitVec 14) : Statement (.blt a b i) := one rfl fun hq => by
  rw [decode_wShort]
  refine ⟨by simp only [isOwner_wShort]; rfl, ?_⟩
  rfl

theorem bge (a : BitVec 5) (b : BitVec 5) (i : BitVec 14) : Statement (.bge a b i) := one rfl fun hq => by
  rw [decode_wShort]
  refine ⟨by simp only [isOwner_wShort]; rfl, ?_⟩
  rfl

theorem bltn (a : BitVec 5) (b : BitVec 5) (i : BitVec 14) : Statement (.bltn a b i) := one rfl fun hq => by
  rw [decode_wShort]
  refine ⟨by simp only [isOwner_wShort]; rfl, ?_⟩
  rfl

theorem bgen (a : BitVec 5) (b : BitVec 5) (i : BitVec 14) : Statement (.bgen a b i) := one rfl fun hq => by
  rw [decode_wShort]
  refine ⟨by simp only [isOwner_wShort]; rfl, ?_⟩
  rfl

theorem jr (t : BitVec 5) : Statement (.jr t) := one rfl fun hq => by
  rw [decode_wShort]
  refine ⟨by simp only [isOwner_wShort]; rfl, ?_⟩
  exact accept_ok _ rfl rfl

theorem callr (t : BitVec 5) : Statement (.callr t) := one rfl fun hq => by
  rw [decode_wShort]
  refine ⟨by simp only [isOwner_wShort]; rfl, ?_⟩
  exact accept_ok _ rfl rfl

theorem ret : Statement .ret := one rfl fun hq => by
  rw [decode_wShort]
  refine ⟨by simp only [isOwner_wShort]; rfl, ?_⟩
  exact accept_ok _ rfl rfl

theorem lit (d : BitVec 5) (lit : W32) : Statement (.lit d lit) := two rfl fun hq => by
  rw [decode_wShort]
  refine ⟨by simp only [isOwner_wShort]; rfl, ?_⟩
  exact accept_ok _ rfl rfl

theorem litn (d : BitVec 5) (lit : W32) : Statement (.litn d lit) := two rfl fun hq => by
  rw [decode_wShort]
  refine ⟨by simp only [isOwner_wShort]; rfl, ?_⟩
  exact accept_ok _ rfl rfl

theorem lith (d : BitVec 5) (lit : W32) : Statement (.lith d lit) := two rfl fun hq => by
  rw [decode_wShort]
  refine ⟨by simp only [isOwner_wShort]; rfl, ?_⟩
  exact accept_ok _ rfl rfl

theorem gset (s : BitVec 3) (a : BitVec 5) (b : BitVec 5) (c : BitVec 3) : Statement (.gset s a b c) := one rfl fun hq => by
  have hq : ((s != 0 && c != 7 && (c != 6 || b == 0) : Bool)) = true := hq
  rw [decode_wShort]
  refine ⟨by simp only [isOwner_wShort]; rfl, ?_⟩
  exact gset_short hq

theorem gsetUnres (s : BitVec 3) : Statement (.gsetUnres s) := one rfl fun hq => by
  have hq : ((s != 0 : Bool)) = true := hq
  rw [decode_wShort]
  refine ⟨by simp only [isOwner_wShort]; rfl, ?_⟩
  exact gsetUnres_short hq

theorem tkp (c : BitVec 3) (n : BitVec 5) : Statement (.tkp c n) := one rfl fun hq => by
  have hq : ((c < 6 && n != 0 && n < 16 : Bool)) = true := hq
  rw [decode_wShort]
  refine ⟨by simp only [isOwner_wShort]; rfl, ?_⟩
  show accept (fld (c ++ 0#2) 2 3 >= 6 || n == 0 || n >= 16) (fld (c ++ 0#2) 0 2 != 0) (.tkp (fld (c ++ 0#2) 2 3) n) = _
  simp (disch := omega) only [fld_lo, fld_hi, Nat.reduceSub, fld_all]
  exact accept_ok _ (by simp at hq; simp_all) rfl

theorem tkw (c : BitVec 3) (n : BitVec 5) : Statement (.tkw c n) := one rfl fun hq => by
  have hq : ((c < 6 && n != 0 && n < 16 : Bool)) = true := hq
  rw [decode_wShort]
  refine ⟨by simp only [isOwner_wShort]; rfl, ?_⟩
  show accept (fld (c ++ 0#2) 2 3 >= 6 || n == 0 || n >= 16) (fld (c ++ 0#2) 0 2 != 0) (.tkw (fld (c ++ 0#2) 2 3) n) = _
  simp (disch := omega) only [fld_lo, fld_hi, Nat.reduceSub, fld_all]
  exact accept_ok _ (by simp at hq; simp_all) rfl

theorem trap (n : BitVec 10) : Statement (.trap n) := one rfl fun hq => by
  rw [decode_sys]
  refine ⟨by simp only [wSub, isOwner_wShort]; rfl, ?_⟩
  exact accept_ok _ rfl rfl

theorem eretResume : Statement .eretResume := one rfl fun hq => by
  rw [decode_sys]
  refine ⟨by simp only [wSub, isOwner_wShort]; rfl, ?_⟩
  exact accept_ok _ rfl rfl

theorem eretDiscard : Statement .eretDiscard := shared rfl

theorem eretEnd : Statement .eretEnd := shared rfl

theorem srd (d : BitVec 5) (i : BitVec 10) : Statement (.srd d i) := one rfl fun hq => by
  rw [decode_sys]
  refine ⟨by simp only [wSub, isOwner_wShort]; rfl, ?_⟩
  exact accept_ok _ rfl rfl

theorem swr (s : BitVec 5) (i : BitVec 10) : Statement (.swr s i) := one rfl fun hq => by
  rw [decode_sys]
  refine ⟨by simp only [wSub, isOwner_wShort]; rfl, ?_⟩
  exact accept_ok _ rfl rfl

theorem fence (k : BitVec 2) (c : BitVec 3) : Statement (.fence k c) := one rfl fun hq => by
  have hq : ((k != 3 && c != 7 : Bool)) = true := hq
  rw [decode_sys]
  refine ⟨by simp only [wSub, isOwner_wShort]; rfl, ?_⟩
  show accept (fld (0#5 ++ k ++ c : BitVec 10) 3 2 == 3 || fld (0#5 ++ k ++ c : BitVec 10) 0 3 == 7) ((0 : BitVec 5) != 0 || (0 : BitVec 5) != 0 || fld (0#5 ++ k ++ c : BitVec 10) 5 5 != 0) (.fence (fld (0#5 ++ k ++ c : BitVec 10) 3 2) (fld (0#5 ++ k ++ c : BitVec 10) 0 3)) = _
  simp (disch := omega) only [fld_lo, fld_hi, Nat.reduceSub, fld_all]
  exact accept_ok _ (by simp at hq; simp_all) rfl

theorem nop : Statement .nop := one rfl fun hq => by
  rw [decode_sys]
  refine ⟨by simp only [wSub, isOwner_wShort]; rfl, ?_⟩
  exact accept_ok _ rfl rfl

theorem refdDefer (s : BitVec 5) : Statement (.refdDefer s) := one rfl fun hq => by
  rw [decode_sys]
  refine ⟨by simp only [wSub, isOwner_wShort]; rfl, ?_⟩
  exact accept_ok _ rfl rfl

theorem refdRelease (s : BitVec 5) : Statement (.refdRelease s) := shared rfl

theorem refdRefreshNow (s : BitVec 5) : Statement (.refdRefreshNow s) := shared rfl

theorem inval (s : BitVec 5) : Statement (.inval s) := one rfl fun hq => by
  rw [decode_sys]
  refine ⟨by simp only [wSub, isOwner_wShort]; rfl, ?_⟩
  exact accept_ok _ rfl rfl

theorem wfe : Statement .wfe := one rfl fun hq => by
  rw [decode_sys]
  refine ⟨by simp only [wSub, isOwner_wShort]; rfl, ?_⟩
  exact accept_ok _ rfl rfl

theorem fork (a : BitVec 5) : Statement (.fork a) := one rfl fun hq => by
  rw [decode_field]
  refine ⟨by simp only [wSub, isOwner_wShort]; rfl, ?_⟩
  show accept false ((0 : BitVec 5) != 0 || (fld (0 : BitVec 10) 3 7) != 0 || (fld (0 : BitVec 10) 0 3) != 0) (.fork a) = _
  try simp (disch := omega) only [fld_lo, fld_hi, Nat.reduceSub, fld_all]
  exact accept_ok _ rfl rfl

theorem join : Statement .join := one rfl fun hq => by
  rw [decode_field]
  refine ⟨by simp only [wSub, isOwner_wShort]; rfl, ?_⟩
  show accept false ((0 : BitVec 5) != 0 || (0 : BitVec 5) != 0 || (fld (0 : BitVec 10) 3 7) != 0 || (fld (0 : BitVec 10) 0 3) != 0) .join = _
  try simp (disch := omega) only [fld_lo, fld_hi, Nat.reduceSub, fld_all]
  exact accept_ok _ rfl rfl

theorem syncs (n : BitVec 3) : Statement (.syncs n) := one rfl fun hq => by
  rw [decode_field]
  refine ⟨by simp only [wSub, isOwner_wShort]; rfl, ?_⟩
  show accept false ((0 : BitVec 5) != 0 || (0 : BitVec 5) != 0 || (fld (0#7 ++ n : BitVec 10) 3 7) != 0) (.syncs (fld (0#7 ++ n : BitVec 10) 0 3)) = _
  try simp (disch := omega) only [fld_lo, fld_hi, Nat.reduceSub, fld_all]
  exact accept_ok _ rfl rfl

theorem syncw (n : BitVec 3) : Statement (.syncw n) := one rfl fun hq => by
  rw [decode_field]
  refine ⟨by simp only [wSub, isOwner_wShort]; rfl, ?_⟩
  show accept false ((0 : BitVec 5) != 0 || (0 : BitVec 5) != 0 || (fld (0#7 ++ n : BitVec 10) 3 7) != 0) (.syncw (fld (0#7 ++ n : BitVec 10) 0 3)) = _
  try simp (disch := omega) only [fld_lo, fld_hi, Nat.reduceSub, fld_all]
  exact accept_ok _ rfl rfl

theorem syncc (n : BitVec 3) : Statement (.syncc n) := one rfl fun hq => by
  rw [decode_field]
  refine ⟨by simp only [wSub, isOwner_wShort]; rfl, ?_⟩
  show accept false ((0 : BitVec 5) != 0 || (0 : BitVec 5) != 0 || (fld (0#7 ++ n : BitVec 10) 3 7) != 0) (.syncc (fld (0#7 ++ n : BitVec 10) 0 3)) = _
  try simp (disch := omega) only [fld_lo, fld_hi, Nat.reduceSub, fld_all]
  exact accept_ok _ rfl rfl

theorem fid (d : BitVec 5) : Statement (.fid d) := one rfl fun hq => by
  rw [decode_field]
  refine ⟨by simp only [wSub, isOwner_wShort]; rfl, ?_⟩
  show accept false ((0 : BitVec 5) != 0 || (fld (0 : BitVec 10) 3 7) != 0 || (fld (0 : BitVec 10) 0 3) != 0) (.fid d) = _
  try simp (disch := omega) only [fld_lo, fld_hi, Nat.reduceSub, fld_all]
  exact accept_ok _ rfl rfl

theorem spawn (d : BitVec 5) (s : BitVec 5) : Statement (.spawn d s) := one rfl fun hq => by
  rw [decode_task]
  refine ⟨by simp only [wSub, isOwner_wShort]; rfl, ?_⟩
  exact accept_ok _ rfl rfl

theorem signal (s : BitVec 5) : Statement (.signal s) := one rfl fun hq => by
  rw [decode_task]
  refine ⟨by simp only [wSub, isOwner_wShort]; rfl, ?_⟩
  exact accept_ok _ rfl rfl

theorem tend : Statement .tend := one rfl fun hq => by
  rw [decode_task]
  refine ⟨by simp only [wSub, isOwner_wShort]; rfl, ?_⟩
  exact accept_ok _ rfl rfl

theorem bar : Statement .bar := one rfl fun hq => by
  rw [decode_task]
  refine ⟨by simp only [wSub, isOwner_wShort]; rfl, ?_⟩
  exact accept_ok _ rfl rfl

theorem barw (d : BitVec 5) (s : BitVec 5) : Statement (.barw d s) := one rfl fun hq => by
  rw [decode_task]
  refine ⟨by simp only [wSub, isOwner_wShort]; rfl, ?_⟩
  exact accept_ok _ rfl rfl

theorem bara : Statement .bara := one rfl fun hq => by
  rw [decode_task]
  refine ⟨by simp only [wSub, isOwner_wShort]; rfl, ?_⟩
  exact accept_ok _ rfl rfl

theorem yield : Statement .yield := one rfl fun hq => by
  rw [decode_task]
  refine ⟨by simp only [wSub, isOwner_wShort]; rfl, ?_⟩
  exact accept_ok _ rfl rfl

theorem wear (d : BitVec 5) : Statement (.wear d) := one rfl fun hq => by
  rw [decode_task]
  refine ⟨by simp only [wSub, isOwner_wShort]; rfl, ?_⟩
  exact accept_ok _ rfl rfl

theorem enter (v : BitVec 2) : Statement (.enter v) := one rfl fun hq => by
  have hq : ((v != 3 : Bool)) = true := hq
  rw [decode_wShort]
  refine ⟨by simp only [isOwner_wShort]; rfl, ?_⟩
  show accept (fld (0#12 ++ v : BitVec 14) 0 2 == 3) ((0 : BitVec 5) != 0 || (0 : BitVec 5) != 0 || fld (0#12 ++ v : BitVec 14) 2 12 != 0) (.enter (fld (0#12 ++ v : BitVec 14) 0 2)) = _
  simp (disch := omega) only [fld_lo, fld_hi, Nat.reduceSub, fld_all]
  exact accept_ok _ (by simp at hq; simp_all) rfl

theorem cb (d : BitVec 5) (n : BitVec 8) : Statement (.cb d n) := one rfl fun hq => by
  rw [decode_wShort]
  refine ⟨by simp only [isOwner_wShort]; rfl, ?_⟩
  show accept false ((0 : BitVec 5) != 0 || fld (0#6 ++ n : BitVec 14) 8 6 != 0) (.cb d (fld (0#6 ++ n : BitVec 14) 0 8)) = _
  simp (disch := omega) only [fld_lo, fld_hi, Nat.reduceSub, fld_all]
  exact accept_ok _ rfl rfl

theorem loops (r : BitVec 5) (l : BitVec 14) : Statement (.loops r l) := one rfl fun hq => by
  have hq : ((l != 0 : Bool)) = true := hq
  rw [decode_wShort]
  refine ⟨by simp only [isOwner_wShort]; rfl, ?_⟩
  exact accept_ok _ (by simp at hq; simp_all) rfl

theorem vadd (t : BitVec 4) (c : BitVec 4) (d : BitVec 4) (a : BitVec 4) (b : BitVec 4) (l : BitVec 2) (y : BitVec 2) : Statement (.vadd t c d a b l y) := one rfl fun hq => by
  have hq : ((y != 3 : Bool)) = true := hq
  refine ⟨isOwner_wVec _ _ _ _ _ _ _ _ (by simp at hq; simp [hq]), ?_⟩
  rw [decode_wVec _ _ _ _ _ _ _ _ (by simp at hq; simp [hq])]
  rfl

theorem vaddBcast (t : BitVec 4) (c : BitVec 4) (d : BitVec 4) (a : BitVec 4) (s : BSrc) : Statement (.vaddBcast t c d a s) := bcast rfl fun l hs => by
  rw [decode_bcast, hs]
  rfl

theorem vsub (t : BitVec 4) (c : BitVec 4) (d : BitVec 4) (a : BitVec 4) (b : BitVec 4) (l : BitVec 2) (y : BitVec 2) : Statement (.vsub t c d a b l y) := one rfl fun hq => by
  have hq : ((y != 3 : Bool)) = true := hq
  refine ⟨isOwner_wVec _ _ _ _ _ _ _ _ (by simp at hq; simp [hq]), ?_⟩
  rw [decode_wVec _ _ _ _ _ _ _ _ (by simp at hq; simp [hq])]
  rfl

theorem vsubBcast (t : BitVec 4) (c : BitVec 4) (d : BitVec 4) (a : BitVec 4) (s : BSrc) : Statement (.vsubBcast t c d a s) := bcast rfl fun l hs => by
  rw [decode_bcast, hs]
  rfl

theorem vmul (t : BitVec 4) (c : BitVec 4) (d : BitVec 4) (a : BitVec 4) (b : BitVec 4) (l : BitVec 2) (y : BitVec 2) : Statement (.vmul t c d a b l y) := one rfl fun hq => by
  have hq : ((y != 3 : Bool)) = true := hq
  refine ⟨isOwner_wVec _ _ _ _ _ _ _ _ (by simp at hq; simp [hq]), ?_⟩
  rw [decode_wVec _ _ _ _ _ _ _ _ (by simp at hq; simp [hq])]
  rfl

theorem vmulBcast (t : BitVec 4) (c : BitVec 4) (d : BitVec 4) (a : BitVec 4) (s : BSrc) : Statement (.vmulBcast t c d a s) := bcast rfl fun l hs => by
  rw [decode_bcast, hs]
  rfl

theorem vmulh (t : BitVec 4) (c : BitVec 4) (d : BitVec 4) (a : BitVec 4) (b : BitVec 4) (l : BitVec 2) (y : BitVec 2) : Statement (.vmulh t c d a b l y) := one rfl fun hq => by
  have hq : ((y != 3 : Bool)) = true := hq
  refine ⟨isOwner_wVec _ _ _ _ _ _ _ _ (by simp at hq; simp [hq]), ?_⟩
  rw [decode_wVec _ _ _ _ _ _ _ _ (by simp at hq; simp [hq])]
  rfl

theorem vmulhBcast (t : BitVec 4) (c : BitVec 4) (d : BitVec 4) (a : BitVec 4) (s : BSrc) : Statement (.vmulhBcast t c d a s) := bcast rfl fun l hs => by
  rw [decode_bcast, hs]
  rfl

theorem vmulhn (t : BitVec 4) (c : BitVec 4) (d : BitVec 4) (a : BitVec 4) (b : BitVec 4) (l : BitVec 2) (y : BitVec 2) : Statement (.vmulhn t c d a b l y) := one rfl fun hq => by
  have hq : ((y != 3 : Bool)) = true := hq
  refine ⟨isOwner_wVec _ _ _ _ _ _ _ _ (by simp at hq; simp [hq]), ?_⟩
  rw [decode_wVec _ _ _ _ _ _ _ _ (by simp at hq; simp [hq])]
  rfl

theorem vmulhnBcast (t : BitVec 4) (c : BitVec 4) (d : BitVec 4) (a : BitVec 4) (s : BSrc) : Statement (.vmulhnBcast t c d a s) := bcast rfl fun l hs => by
  rw [decode_bcast, hs]
  rfl

theorem vmad (t : BitVec 4) (c : BitVec 4) (d : BitVec 4) (a : BitVec 4) (b : BitVec 4) (l : BitVec 2) (y : BitVec 2) : Statement (.vmad t c d a b l y) := one rfl fun hq => by
  have hq : ((y != 3 : Bool)) = true := hq
  refine ⟨isOwner_wVec _ _ _ _ _ _ _ _ (by simp at hq; simp [hq]), ?_⟩
  rw [decode_wVec _ _ _ _ _ _ _ _ (by simp at hq; simp [hq])]
  rfl

theorem vmadBcast (t : BitVec 4) (c : BitVec 4) (d : BitVec 4) (a : BitVec 4) (s : BSrc) : Statement (.vmadBcast t c d a s) := bcast rfl fun l hs => by
  rw [decode_bcast, hs]
  rfl

theorem vadds (t : BitVec 4) (c : BitVec 4) (d : BitVec 4) (a : BitVec 4) (b : BitVec 4) (l : BitVec 2) (y : BitVec 2) : Statement (.vadds t c d a b l y) := one rfl fun hq => by
  have hq : ((y != 3 : Bool)) = true := hq
  refine ⟨isOwner_wVec _ _ _ _ _ _ _ _ (by simp at hq; simp [hq]), ?_⟩
  rw [decode_wVec _ _ _ _ _ _ _ _ (by simp at hq; simp [hq])]
  rfl

theorem vaddsBcast (t : BitVec 4) (c : BitVec 4) (d : BitVec 4) (a : BitVec 4) (s : BSrc) : Statement (.vaddsBcast t c d a s) := bcast rfl fun l hs => by
  rw [decode_bcast, hs]
  rfl

theorem vsubs (t : BitVec 4) (c : BitVec 4) (d : BitVec 4) (a : BitVec 4) (b : BitVec 4) (l : BitVec 2) (y : BitVec 2) : Statement (.vsubs t c d a b l y) := one rfl fun hq => by
  have hq : ((y != 3 : Bool)) = true := hq
  refine ⟨isOwner_wVec _ _ _ _ _ _ _ _ (by simp at hq; simp [hq]), ?_⟩
  rw [decode_wVec _ _ _ _ _ _ _ _ (by simp at hq; simp [hq])]
  rfl

theorem vsubsBcast (t : BitVec 4) (c : BitVec 4) (d : BitVec 4) (a : BitVec 4) (s : BSrc) : Statement (.vsubsBcast t c d a s) := bcast rfl fun l hs => by
  rw [decode_bcast, hs]
  rfl

theorem vaddsn (t : BitVec 4) (c : BitVec 4) (d : BitVec 4) (a : BitVec 4) (b : BitVec 4) (l : BitVec 2) (y : BitVec 2) : Statement (.vaddsn t c d a b l y) := one rfl fun hq => by
  have hq : ((y != 3 : Bool)) = true := hq
  refine ⟨isOwner_wVec _ _ _ _ _ _ _ _ (by simp at hq; simp [hq]), ?_⟩
  rw [decode_wVec _ _ _ _ _ _ _ _ (by simp at hq; simp [hq])]
  rfl

theorem vaddsnBcast (t : BitVec 4) (c : BitVec 4) (d : BitVec 4) (a : BitVec 4) (s : BSrc) : Statement (.vaddsnBcast t c d a s) := bcast rfl fun l hs => by
  rw [decode_bcast, hs]
  rfl

theorem vsubsn (t : BitVec 4) (c : BitVec 4) (d : BitVec 4) (a : BitVec 4) (b : BitVec 4) (l : BitVec 2) (y : BitVec 2) : Statement (.vsubsn t c d a b l y) := one rfl fun hq => by
  have hq : ((y != 3 : Bool)) = true := hq
  refine ⟨isOwner_wVec _ _ _ _ _ _ _ _ (by simp at hq; simp [hq]), ?_⟩
  rw [decode_wVec _ _ _ _ _ _ _ _ (by simp at hq; simp [hq])]
  rfl

theorem vsubsnBcast (t : BitVec 4) (c : BitVec 4) (d : BitVec 4) (a : BitVec 4) (s : BSrc) : Statement (.vsubsnBcast t c d a s) := bcast rfl fun l hs => by
  rw [decode_bcast, hs]
  rfl

theorem vmin (t : BitVec 4) (c : BitVec 4) (d : BitVec 4) (a : BitVec 4) (b : BitVec 4) (l : BitVec 2) (y : BitVec 2) : Statement (.vmin t c d a b l y) := one rfl fun hq => by
  have hq : ((y != 3 : Bool)) = true := hq
  refine ⟨isOwner_wVec _ _ _ _ _ _ _ _ (by simp at hq; simp [hq]), ?_⟩
  rw [decode_wVec _ _ _ _ _ _ _ _ (by simp at hq; simp [hq])]
  rfl

theorem vminBcast (t : BitVec 4) (c : BitVec 4) (d : BitVec 4) (a : BitVec 4) (s : BSrc) : Statement (.vminBcast t c d a s) := bcast rfl fun l hs => by
  rw [decode_bcast, hs]
  rfl

theorem vmax (t : BitVec 4) (c : BitVec 4) (d : BitVec 4) (a : BitVec 4) (b : BitVec 4) (l : BitVec 2) (y : BitVec 2) : Statement (.vmax t c d a b l y) := one rfl fun hq => by
  have hq : ((y != 3 : Bool)) = true := hq
  refine ⟨isOwner_wVec _ _ _ _ _ _ _ _ (by simp at hq; simp [hq]), ?_⟩
  rw [decode_wVec _ _ _ _ _ _ _ _ (by simp at hq; simp [hq])]
  rfl

theorem vmaxBcast (t : BitVec 4) (c : BitVec 4) (d : BitVec 4) (a : BitVec 4) (s : BSrc) : Statement (.vmaxBcast t c d a s) := bcast rfl fun l hs => by
  rw [decode_bcast, hs]
  rfl

theorem vminn (t : BitVec 4) (c : BitVec 4) (d : BitVec 4) (a : BitVec 4) (b : BitVec 4) (l : BitVec 2) (y : BitVec 2) : Statement (.vminn t c d a b l y) := one rfl fun hq => by
  have hq : ((y != 3 : Bool)) = true := hq
  refine ⟨isOwner_wVec _ _ _ _ _ _ _ _ (by simp at hq; simp [hq]), ?_⟩
  rw [decode_wVec _ _ _ _ _ _ _ _ (by simp at hq; simp [hq])]
  rfl

theorem vminnBcast (t : BitVec 4) (c : BitVec 4) (d : BitVec 4) (a : BitVec 4) (s : BSrc) : Statement (.vminnBcast t c d a s) := bcast rfl fun l hs => by
  rw [decode_bcast, hs]
  rfl

theorem vmaxn (t : BitVec 4) (c : BitVec 4) (d : BitVec 4) (a : BitVec 4) (b : BitVec 4) (l : BitVec 2) (y : BitVec 2) : Statement (.vmaxn t c d a b l y) := one rfl fun hq => by
  have hq : ((y != 3 : Bool)) = true := hq
  refine ⟨isOwner_wVec _ _ _ _ _ _ _ _ (by simp at hq; simp [hq]), ?_⟩
  rw [decode_wVec _ _ _ _ _ _ _ _ (by simp at hq; simp [hq])]
  rfl

theorem vmaxnBcast (t : BitVec 4) (c : BitVec 4) (d : BitVec 4) (a : BitVec 4) (s : BSrc) : Statement (.vmaxnBcast t c d a s) := bcast rfl fun l hs => by
  rw [decode_bcast, hs]
  rfl

theorem vabs (t : BitVec 4) (c : BitVec 4) (d : BitVec 4) (a : BitVec 4) (l : BitVec 2) (y : BitVec 2) : Statement (.vabs t c d a l y) := one rfl fun hq => by
  have hq : ((y != 3 : Bool)) = true := hq
  refine ⟨isOwner_wVec _ _ _ _ _ _ _ _ (by simp at hq; simp [hq]), ?_⟩
  rw [decode_wVec _ _ _ _ _ _ _ _ (by simp at hq; simp [hq])]
  exact accept_ok _ rfl rfl

theorem vand (t : BitVec 4) (c : BitVec 4) (d : BitVec 4) (a : BitVec 4) (b : BitVec 4) (l : BitVec 2) (y : BitVec 2) : Statement (.vand t c d a b l y) := one rfl fun hq => by
  have hq : ((y != 3 : Bool)) = true := hq
  refine ⟨isOwner_wVec _ _ _ _ _ _ _ _ (by simp at hq; simp [hq]), ?_⟩
  rw [decode_wVec _ _ _ _ _ _ _ _ (by simp at hq; simp [hq])]
  rfl

theorem vandBcast (t : BitVec 4) (c : BitVec 4) (d : BitVec 4) (a : BitVec 4) (s : BSrc) : Statement (.vandBcast t c d a s) := bcast rfl fun l hs => by
  rw [decode_bcast, hs]
  rfl

theorem vor (t : BitVec 4) (c : BitVec 4) (d : BitVec 4) (a : BitVec 4) (b : BitVec 4) (l : BitVec 2) (y : BitVec 2) : Statement (.vor t c d a b l y) := one rfl fun hq => by
  have hq : ((y != 3 : Bool)) = true := hq
  refine ⟨isOwner_wVec _ _ _ _ _ _ _ _ (by simp at hq; simp [hq]), ?_⟩
  rw [decode_wVec _ _ _ _ _ _ _ _ (by simp at hq; simp [hq])]
  rfl

theorem vorBcast (t : BitVec 4) (c : BitVec 4) (d : BitVec 4) (a : BitVec 4) (s : BSrc) : Statement (.vorBcast t c d a s) := bcast rfl fun l hs => by
  rw [decode_bcast, hs]
  rfl

theorem vxor (t : BitVec 4) (c : BitVec 4) (d : BitVec 4) (a : BitVec 4) (b : BitVec 4) (l : BitVec 2) (y : BitVec 2) : Statement (.vxor t c d a b l y) := one rfl fun hq => by
  have hq : ((y != 3 : Bool)) = true := hq
  refine ⟨isOwner_wVec _ _ _ _ _ _ _ _ (by simp at hq; simp [hq]), ?_⟩
  rw [decode_wVec _ _ _ _ _ _ _ _ (by simp at hq; simp [hq])]
  rfl

theorem vxorBcast (t : BitVec 4) (c : BitVec 4) (d : BitVec 4) (a : BitVec 4) (s : BSrc) : Statement (.vxorBcast t c d a s) := bcast rfl fun l hs => by
  rw [decode_bcast, hs]
  rfl

theorem vandn (t : BitVec 4) (c : BitVec 4) (d : BitVec 4) (a : BitVec 4) (b : BitVec 4) (l : BitVec 2) (y : BitVec 2) : Statement (.vandn t c d a b l y) := one rfl fun hq => by
  have hq : ((y != 3 : Bool)) = true := hq
  refine ⟨isOwner_wVec _ _ _ _ _ _ _ _ (by simp at hq; simp [hq]), ?_⟩
  rw [decode_wVec _ _ _ _ _ _ _ _ (by simp at hq; simp [hq])]
  rfl

theorem vandnBcast (t : BitVec 4) (c : BitVec 4) (d : BitVec 4) (a : BitVec 4) (s : BSrc) : Statement (.vandnBcast t c d a s) := bcast rfl fun l hs => by
  rw [decode_bcast, hs]
  rfl

theorem vshl (t : BitVec 4) (c : BitVec 4) (d : BitVec 4) (a : BitVec 4) (b : BitVec 4) (l : BitVec 2) (y : BitVec 2) : Statement (.vshl t c d a b l y) := one rfl fun hq => by
  have hq : ((y != 3 : Bool)) = true := hq
  refine ⟨isOwner_wVec _ _ _ _ _ _ _ _ (by simp at hq; simp [hq]), ?_⟩
  rw [decode_wVec _ _ _ _ _ _ _ _ (by simp at hq; simp [hq])]
  rfl

theorem vshlBcast (t : BitVec 4) (c : BitVec 4) (d : BitVec 4) (a : BitVec 4) (s : BSrc) : Statement (.vshlBcast t c d a s) := bcast rfl fun l hs => by
  rw [decode_bcast, hs]
  rfl

theorem vshr (t : BitVec 4) (c : BitVec 4) (d : BitVec 4) (a : BitVec 4) (b : BitVec 4) (l : BitVec 2) (y : BitVec 2) : Statement (.vshr t c d a b l y) := one rfl fun hq => by
  have hq : ((y != 3 : Bool)) = true := hq
  refine ⟨isOwner_wVec _ _ _ _ _ _ _ _ (by simp at hq; simp [hq]), ?_⟩
  rw [decode_wVec _ _ _ _ _ _ _ _ (by simp at hq; simp [hq])]
  rfl

theorem vshrBcast (t : BitVec 4) (c : BitVec 4) (d : BitVec 4) (a : BitVec 4) (s : BSrc) : Statement (.vshrBcast t c d a s) := bcast rfl fun l hs => by
  rw [decode_bcast, hs]
  rfl

theorem vsra (t : BitVec 4) (c : BitVec 4) (d : BitVec 4) (a : BitVec 4) (b : BitVec 4) (l : BitVec 2) (y : BitVec 2) : Statement (.vsra t c d a b l y) := one rfl fun hq => by
  have hq : ((y != 3 : Bool)) = true := hq
  refine ⟨isOwner_wVec _ _ _ _ _ _ _ _ (by simp at hq; simp [hq]), ?_⟩
  rw [decode_wVec _ _ _ _ _ _ _ _ (by simp at hq; simp [hq])]
  rfl

theorem vsraBcast (t : BitVec 4) (c : BitVec 4) (d : BitVec 4) (a : BitVec 4) (s : BSrc) : Statement (.vsraBcast t c d a s) := bcast rfl fun l hs => by
  rw [decode_bcast, hs]
  rfl

theorem vclz (t : BitVec 4) (c : BitVec 4) (d : BitVec 4) (a : BitVec 4) (l : BitVec 2) (y : BitVec 2) : Statement (.vclz t c d a l y) := one rfl fun hq => by
  have hq : ((y != 3 : Bool)) = true := hq
  refine ⟨isOwner_wVec _ _ _ _ _ _ _ _ (by simp at hq; simp [hq]), ?_⟩
  rw [decode_wVec _ _ _ _ _ _ _ _ (by simp at hq; simp [hq])]
  exact accept_ok _ rfl rfl

theorem vpopc (t : BitVec 4) (c : BitVec 4) (d : BitVec 4) (a : BitVec 4) (l : BitVec 2) (y : BitVec 2) : Statement (.vpopc t c d a l y) := one rfl fun hq => by
  have hq : ((y != 3 : Bool)) = true := hq
  refine ⟨isOwner_wVec _ _ _ _ _ _ _ _ (by simp at hq; simp [hq]), ?_⟩
  rw [decode_wVec _ _ _ _ _ _ _ _ (by simp at hq; simp [hq])]
  exact accept_ok _ rfl rfl

theorem vcmp (t : BitVec 4) (c : BitVec 4) (d : BitVec 4) (a : BitVec 4) (b : BitVec 4) (l : BitVec 2) (y : BitVec 2) : Statement (.vcmp t c d a b l y) := one rfl fun hq => by
  have hq : ((d < 12 && y != 3 : Bool)) = true := hq
  refine ⟨isOwner_wVec _ _ _ _ _ _ _ _ (by simp at hq; simp [hq]), ?_⟩
  rw [decode_wVec _ _ _ _ _ _ _ _ (by simp at hq; simp [hq])]
  exact accept_ok _ (by simp at hq ⊢; bv_omega) rfl

theorem vcmpn (t : BitVec 4) (c : BitVec 4) (d : BitVec 4) (a : BitVec 4) (b : BitVec 4) (l : BitVec 2) (y : BitVec 2) : Statement (.vcmpn t c d a b l y) := one rfl fun hq => by
  have hq : ((d < 12 && y != 3 : Bool)) = true := hq
  refine ⟨isOwner_wVec _ _ _ _ _ _ _ _ (by simp at hq; simp [hq]), ?_⟩
  rw [decode_wVec _ _ _ _ _ _ _ _ (by simp at hq; simp [hq])]
  exact accept_ok _ (by simp at hq ⊢; bv_omega) rfl

theorem fadd (t : BitVec 4) (c : BitVec 4) (d : BitVec 4) (a : BitVec 4) (b : BitVec 4) (l : BitVec 2) (y : BitVec 2) : Statement (.fadd t c d a b l y) := one rfl fun hq => by
  have hq : ((y != 3 : Bool)) = true := hq
  refine ⟨isOwner_wVec _ _ _ _ _ _ _ _ (by simp at hq; simp [hq]), ?_⟩
  rw [decode_wVec _ _ _ _ _ _ _ _ (by simp at hq; simp [hq])]
  rfl

theorem faddBcast (t : BitVec 4) (c : BitVec 4) (d : BitVec 4) (a : BitVec 4) (s : BSrc) : Statement (.faddBcast t c d a s) := bcast rfl fun l hs => by
  rw [decode_bcast, hs]
  rfl

theorem fsub (t : BitVec 4) (c : BitVec 4) (d : BitVec 4) (a : BitVec 4) (b : BitVec 4) (l : BitVec 2) (y : BitVec 2) : Statement (.fsub t c d a b l y) := one rfl fun hq => by
  have hq : ((y != 3 : Bool)) = true := hq
  refine ⟨isOwner_wVec _ _ _ _ _ _ _ _ (by simp at hq; simp [hq]), ?_⟩
  rw [decode_wVec _ _ _ _ _ _ _ _ (by simp at hq; simp [hq])]
  rfl

theorem fsubBcast (t : BitVec 4) (c : BitVec 4) (d : BitVec 4) (a : BitVec 4) (s : BSrc) : Statement (.fsubBcast t c d a s) := bcast rfl fun l hs => by
  rw [decode_bcast, hs]
  rfl

theorem fmul (t : BitVec 4) (c : BitVec 4) (d : BitVec 4) (a : BitVec 4) (b : BitVec 4) (l : BitVec 2) (y : BitVec 2) : Statement (.fmul t c d a b l y) := one rfl fun hq => by
  have hq : ((y != 3 : Bool)) = true := hq
  refine ⟨isOwner_wVec _ _ _ _ _ _ _ _ (by simp at hq; simp [hq]), ?_⟩
  rw [decode_wVec _ _ _ _ _ _ _ _ (by simp at hq; simp [hq])]
  rfl

theorem fmulBcast (t : BitVec 4) (c : BitVec 4) (d : BitVec 4) (a : BitVec 4) (s : BSrc) : Statement (.fmulBcast t c d a s) := bcast rfl fun l hs => by
  rw [decode_bcast, hs]
  rfl

theorem ffma (t : BitVec 4) (c : BitVec 4) (d : BitVec 4) (a : BitVec 4) (b : BitVec 4) (l : BitVec 2) (y : BitVec 2) : Statement (.ffma t c d a b l y) := one rfl fun hq => by
  have hq : ((y != 3 : Bool)) = true := hq
  refine ⟨isOwner_wVec _ _ _ _ _ _ _ _ (by simp at hq; simp [hq]), ?_⟩
  rw [decode_wVec _ _ _ _ _ _ _ _ (by simp at hq; simp [hq])]
  rfl

theorem ffmaBcast (t : BitVec 4) (c : BitVec 4) (d : BitVec 4) (a : BitVec 4) (s : BSrc) : Statement (.ffmaBcast t c d a s) := bcast rfl fun l hs => by
  rw [decode_bcast, hs]
  rfl

theorem ffms (t : BitVec 4) (c : BitVec 4) (d : BitVec 4) (a : BitVec 4) (b : BitVec 4) (l : BitVec 2) (y : BitVec 2) : Statement (.ffms t c d a b l y) := one rfl fun hq => by
  have hq : ((y != 3 : Bool)) = true := hq
  refine ⟨isOwner_wVec _ _ _ _ _ _ _ _ (by simp at hq; simp [hq]), ?_⟩
  rw [decode_wVec _ _ _ _ _ _ _ _ (by simp at hq; simp [hq])]
  rfl

theorem ffmsBcast (t : BitVec 4) (c : BitVec 4) (d : BitVec 4) (a : BitVec 4) (s : BSrc) : Statement (.ffmsBcast t c d a s) := bcast rfl fun l hs => by
  rw [decode_bcast, hs]
  rfl

theorem fmin (t : BitVec 4) (c : BitVec 4) (d : BitVec 4) (a : BitVec 4) (b : BitVec 4) (l : BitVec 2) (y : BitVec 2) : Statement (.fmin t c d a b l y) := one rfl fun hq => by
  have hq : ((y != 3 : Bool)) = true := hq
  refine ⟨isOwner_wVec _ _ _ _ _ _ _ _ (by simp at hq; simp [hq]), ?_⟩
  rw [decode_wVec _ _ _ _ _ _ _ _ (by simp at hq; simp [hq])]
  rfl

theorem fminBcast (t : BitVec 4) (c : BitVec 4) (d : BitVec 4) (a : BitVec 4) (s : BSrc) : Statement (.fminBcast t c d a s) := bcast rfl fun l hs => by
  rw [decode_bcast, hs]
  rfl

theorem fmax (t : BitVec 4) (c : BitVec 4) (d : BitVec 4) (a : BitVec 4) (b : BitVec 4) (l : BitVec 2) (y : BitVec 2) : Statement (.fmax t c d a b l y) := one rfl fun hq => by
  have hq : ((y != 3 : Bool)) = true := hq
  refine ⟨isOwner_wVec _ _ _ _ _ _ _ _ (by simp at hq; simp [hq]), ?_⟩
  rw [decode_wVec _ _ _ _ _ _ _ _ (by simp at hq; simp [hq])]
  rfl

theorem fmaxBcast (t : BitVec 4) (c : BitVec 4) (d : BitVec 4) (a : BitVec 4) (s : BSrc) : Statement (.fmaxBcast t c d a s) := bcast rfl fun l hs => by
  rw [decode_bcast, hs]
  rfl

theorem fabs (t : BitVec 4) (c : BitVec 4) (d : BitVec 4) (a : BitVec 4) (l : BitVec 2) (y : BitVec 2) : Statement (.fabs t c d a l y) := one rfl fun hq => by
  have hq : ((y != 3 : Bool)) = true := hq
  refine ⟨isOwner_wVec _ _ _ _ _ _ _ _ (by simp at hq; simp [hq]), ?_⟩
  rw [decode_wVec _ _ _ _ _ _ _ _ (by simp at hq; simp [hq])]
  exact accept_ok _ rfl rfl

theorem fneg (t : BitVec 4) (c : BitVec 4) (d : BitVec 4) (a : BitVec 4) (l : BitVec 2) (y : BitVec 2) : Statement (.fneg t c d a l y) := one rfl fun hq => by
  have hq : ((y != 3 : Bool)) = true := hq
  refine ⟨isOwner_wVec _ _ _ _ _ _ _ _ (by simp at hq; simp [hq]), ?_⟩
  rw [decode_wVec _ _ _ _ _ _ _ _ (by simp at hq; simp [hq])]
  exact accept_ok _ rfl rfl

theorem frcp (t : BitVec 4) (c : BitVec 4) (d : BitVec 4) (a : BitVec 4) (l : BitVec 2) (y : BitVec 2) : Statement (.frcp t c d a l y) := one rfl fun hq => by
  have hq : ((y != 3 : Bool)) = true := hq
  refine ⟨isOwner_wVec _ _ _ _ _ _ _ _ (by simp at hq; simp [hq]), ?_⟩
  rw [decode_wVec _ _ _ _ _ _ _ _ (by simp at hq; simp [hq])]
  exact accept_ok _ rfl rfl

theorem frsq (t : BitVec 4) (c : BitVec 4) (d : BitVec 4) (a : BitVec 4) (l : BitVec 2) (y : BitVec 2) : Statement (.frsq t c d a l y) := one rfl fun hq => by
  have hq : ((y != 3 : Bool)) = true := hq
  refine ⟨isOwner_wVec _ _ _ _ _ _ _ _ (by simp at hq; simp [hq]), ?_⟩
  rw [decode_wVec _ _ _ _ _ _ _ _ (by simp at hq; simp [hq])]
  exact accept_ok _ rfl rfl

theorem fexp2 (t : BitVec 4) (c : BitVec 4) (d : BitVec 4) (a : BitVec 4) (l : BitVec 2) (y : BitVec 2) : Statement (.fexp2 t c d a l y) := one rfl fun hq => by
  have hq : ((y != 3 : Bool)) = true := hq
  refine ⟨isOwner_wVec _ _ _ _ _ _ _ _ (by simp at hq; simp [hq]), ?_⟩
  rw [decode_wVec _ _ _ _ _ _ _ _ (by simp at hq; simp [hq])]
  exact accept_ok _ rfl rfl

theorem flog2 (t : BitVec 4) (c : BitVec 4) (d : BitVec 4) (a : BitVec 4) (l : BitVec 2) (y : BitVec 2) : Statement (.flog2 t c d a l y) := one rfl fun hq => by
  have hq : ((y != 3 : Bool)) = true := hq
  refine ⟨isOwner_wVec _ _ _ _ _ _ _ _ (by simp at hq; simp [hq]), ?_⟩
  rw [decode_wVec _ _ _ _ _ _ _ _ (by simp at hq; simp [hq])]
  exact accept_ok _ rfl rfl

theorem fcmp (t : BitVec 4) (c : BitVec 4) (d : BitVec 4) (a : BitVec 4) (b : BitVec 4) (l : BitVec 2) (y : BitVec 2) : Statement (.fcmp t c d a b l y) := one rfl fun hq => by
  have hq : ((d < 12 && y != 3 : Bool)) = true := hq
  refine ⟨isOwner_wVec _ _ _ _ _ _ _ _ (by simp at hq; simp [hq]), ?_⟩
  rw [decode_wVec _ _ _ _ _ _ _ _ (by simp at hq; simp [hq])]
  exact accept_ok _ (by simp at hq ⊢; bv_omega) rfl

theorem fclass (t : BitVec 4) (c : BitVec 4) (d : BitVec 4) (a : BitVec 4) (l : BitVec 2) (y : BitVec 2) : Statement (.fclass t c d a l y) := one rfl fun hq => by
  have hq : ((y != 3 : Bool)) = true := hq
  refine ⟨isOwner_wVec _ _ _ _ _ _ _ _ (by simp at hq; simp [hq]), ?_⟩
  rw [decode_wVec _ _ _ _ _ _ _ _ (by simp at hq; simp [hq])]
  exact accept_ok _ rfl rfl

theorem vcvt (t : BitVec 4) (c : BitVec 4) (d : BitVec 4) (a : BitVec 4) (b : BitVec 4) (l : BitVec 2) : Statement (.vcvt t c d a b l) := one rfl fun hq => by
  have hq : ((b < 13 : Bool)) = true := hq
  refine ⟨isOwner_wVec _ _ _ _ _ _ _ _ rfl, ?_⟩
  rw [decode_wVec _ _ _ _ _ _ _ _ rfl]
  exact accept_ok _ (by simp at hq ⊢; bv_omega) rfl

theorem vscale (t : BitVec 4) (c : BitVec 4) (d : BitVec 4) (a : BitVec 4) (b : BitVec 4) (l : BitVec 2) (y : BitVec 2) : Statement (.vscale t c d a b l y) := one rfl fun hq => by
  have hq : ((y != 3 : Bool)) = true := hq
  refine ⟨isOwner_wVec _ _ _ _ _ _ _ _ (by simp at hq; simp [hq]), ?_⟩
  rw [decode_wVec _ _ _ _ _ _ _ _ (by simp at hq; simp [hq])]
  rfl

theorem vqpack (t : BitVec 4) (c : BitVec 4) (d : BitVec 4) (a : BitVec 4) (b : BitVec 4) (l : BitVec 2) : Statement (.vqpack t c d a b l) := one rfl fun hq => by
  have hq : ((b < 3 : Bool)) = true := hq
  refine ⟨isOwner_wVec _ _ _ _ _ _ _ _ rfl, ?_⟩
  rw [decode_wVec _ _ _ _ _ _ _ _ rfl]
  exact accept_ok _ (by simp at hq ⊢; bv_omega) rfl

theorem vqunpk (t : BitVec 4) (c : BitVec 4) (d : BitVec 4) (a : BitVec 4) (b : BitVec 4) (l : BitVec 2) : Statement (.vqunpk t c d a b l) := one rfl fun hq => by
  have hq : ((b < 3 : Bool)) = true := hq
  refine ⟨isOwner_wVec _ _ _ _ _ _ _ _ rfl, ?_⟩
  rw [decode_wVec _ _ _ _ _ _ _ _ rfl]
  exact accept_ok _ (by simp at hq ⊢; bv_omega) rfl

theorem vsel (t : BitVec 4) (c : BitVec 4) (d : BitVec 4) (a : BitVec 4) (b : BitVec 4) (l : BitVec 2) : Statement (.vsel t c d a b l) := one rfl fun hq => by
  have hq : ((b < 12 : Bool)) = true := hq
  refine ⟨isOwner_wVec _ _ _ _ _ _ _ _ rfl, ?_⟩
  rw [decode_wVec _ _ _ _ _ _ _ _ rfl]
  exact accept_ok _ (by simp at hq ⊢; bv_omega) rfl

theorem vperm (t : BitVec 4) (c : BitVec 4) (d : BitVec 4) (a : BitVec 4) (b : BitVec 4) (l : BitVec 2) (y : BitVec 2) : Statement (.vperm t c d a b l y) := one rfl fun hq => by
  have hq : ((y != 3 : Bool)) = true := hq
  refine ⟨isOwner_wVec _ _ _ _ _ _ _ _ (by simp at hq; simp [hq]), ?_⟩
  rw [decode_wVec _ _ _ _ _ _ _ _ (by simp at hq; simp [hq])]
  rfl

theorem vbcasts (t : BitVec 4) (c : BitVec 4) (d : BitVec 4) (a : BitVec 4) (b : BitVec 4) (l : BitVec 2) : Statement (.vbcasts t c d a b l) := one rfl fun hq => by
  refine ⟨isOwner_wVec _ _ _ _ _ _ _ _ rfl, ?_⟩
  rw [decode_wVec _ _ _ _ _ _ _ _ rfl]
  exact accept_ok _ rfl rfl

theorem vredadd (t : BitVec 4) (c : BitVec 4) (d : BitVec 4) (a : BitVec 4) (b : BitVec 4) (l : BitVec 2) (y : BitVec 2) : Statement (.vredadd t c d a b l y) := one rfl fun hq => by
  have hq : ((b < 2 && y < 2 : Bool)) = true := hq
  refine ⟨isOwner_wVec _ _ _ _ _ _ _ _ (lt2_ne3 (by simp only [Bool.and_eq_true, decide_eq_true_eq] at hq; exact hq.2)), ?_⟩
  rw [decode_wVec _ _ _ _ _ _ _ _ (lt2_ne3 (by simp only [Bool.and_eq_true, decide_eq_true_eq] at hq; exact hq.2))]
  exact accept_ok _ (by simp at hq ⊢; bv_omega) rfl

theorem vredmax (t : BitVec 4) (c : BitVec 4) (d : BitVec 4) (a : BitVec 4) (b : BitVec 4) (l : BitVec 2) (y : BitVec 2) : Statement (.vredmax t c d a b l y) := one rfl fun hq => by
  have hq : ((b < 2 && y < 2 : Bool)) = true := hq
  refine ⟨isOwner_wVec _ _ _ _ _ _ _ _ (lt2_ne3 (by simp only [Bool.and_eq_true, decide_eq_true_eq] at hq; exact hq.2)), ?_⟩
  rw [decode_wVec _ _ _ _ _ _ _ _ (lt2_ne3 (by simp only [Bool.and_eq_true, decide_eq_true_eq] at hq; exact hq.2))]
  exact accept_ok _ (by simp at hq ⊢; bv_omega) rfl

theorem vshf (t : BitVec 4) (c : BitVec 4) (d : BitVec 4) (a : BitVec 4) (b : BitVec 2) (l : BitVec 2) : Statement (.vshf t c d a b l) := one rfl fun hq => by
  refine ⟨isOwner_wVec _ _ _ _ _ _ _ _ rfl, ?_⟩
  rw [decode_wVec _ _ _ _ _ _ _ _ rfl]
  show accept false ((0 : BitVec 2) != 0 || fld (0#2 ++ b) 2 2 != 0) (.vshf t c d a (fld (0#2 ++ b) 0 2) l) = _
  simp (disch := omega) only [fld_lo, fld_hi, Nat.reduceSub, fld_all]
  exact accept_ok _ rfl rfl

theorem vxtr (t : BitVec 4) (c : BitVec 4) (a : BitVec 4) (b : BitVec 4) (l : BitVec 2) : Statement (.vxtr t c a b l) := one rfl fun hq => by
  refine ⟨isOwner_wVec _ _ _ _ _ _ _ _ rfl, ?_⟩
  rw [decode_wVec _ _ _ _ _ _ _ _ rfl]
  exact accept_ok _ rfl rfl

theorem plog (t : BitVec 4) (c : BitVec 4) (d : BitVec 4) (a : BitVec 4) (b : BitVec 4) (l : BitVec 2) : Statement (.plog t c d a b l) := one rfl fun hq => by
  have hq : ((d < 12 && a < 12 && b < 12 : Bool)) = true := hq
  refine ⟨isOwner_wVec _ _ _ _ _ _ _ _ rfl, ?_⟩
  rw [decode_wVec _ _ _ _ _ _ _ _ rfl]
  exact accept_ok _ (by simp at hq ⊢; bv_omega) rfl

theorem pset (t : BitVec 4) (c : BitVec 4) (d : BitVec 4) (a : BitVec 4) (b : BitVec 4) (l : BitVec 2) : Statement (.pset t c d a b l) := one rfl fun hq => by
  have hq : ((d < 12 && a < 4 && (a > 1 || b == 0) : Bool)) = true := hq
  refine ⟨isOwner_wVec _ _ _ _ _ _ _ _ rfl, ?_⟩
  rw [decode_wVec _ _ _ _ _ _ _ _ rfl]
  exact accept_ok _ (by simp at hq ⊢; bv_omega) (by simp at hq ⊢; bv_omega)

theorem ptst (t : BitVec 4) (c : BitVec 4) (a : BitVec 4) : Statement (.ptst t c a) := one rfl fun hq => by
  have hq : ((a < 12 : Bool)) = true := hq
  refine ⟨isOwner_wVec _ _ _ _ _ _ _ _ rfl, ?_⟩
  rw [decode_wVec _ _ _ _ _ _ _ _ rfl]
  exact accept_ok _ (by simp at hq ⊢; bv_omega) rfl

theorem tld (t : BitVec 4) (c : BitVec 4) (d : BitVec 4) (a : BitVec 4) (b : BitVec 4) (l : BitVec 2) : Statement (.tld t c d a b l) := one rfl fun hq => by
  refine ⟨isOwner_wVec _ _ _ _ _ _ _ _ rfl, ?_⟩
  rw [decode_wVec _ _ _ _ _ _ _ _ rfl]
  exact accept_ok _ rfl rfl

theorem tst (t : BitVec 4) (c : BitVec 4) (d : BitVec 4) (a : BitVec 4) (b : BitVec 4) (l : BitVec 2) : Statement (.tst t c d a b l) := one rfl fun hq => by
  refine ⟨isOwner_wVec _ _ _ _ _ _ _ _ rfl, ?_⟩
  rw [decode_wVec _ _ _ _ _ _ _ _ rfl]
  exact accept_ok _ rfl rfl

theorem tldx (t : BitVec 4) (c : BitVec 4) (d : BitVec 4) (a : BitVec 4) (b : BitVec 4) (l : BitVec 2) (y : BitVec 2) : Statement (.tldx t c d a b l y) := one rfl fun hq => by
  have hq : ((y != 3 : Bool)) = true := hq
  refine ⟨isOwner_wVec _ _ _ _ _ _ _ _ (by simp at hq; simp [hq]), ?_⟩
  rw [decode_wVec _ _ _ _ _ _ _ _ (by simp at hq; simp [hq])]
  rfl

theorem tstx (t : BitVec 4) (c : BitVec 4) (d : BitVec 4) (a : BitVec 4) (b : BitVec 4) (l : BitVec 2) (y : BitVec 2) : Statement (.tstx t c d a b l y) := one rfl fun hq => by
  have hq : ((y != 3 : Bool)) = true := hq
  refine ⟨isOwner_wVec _ _ _ _ _ _ _ _ (by simp at hq; simp [hq]), ?_⟩
  rw [decode_wVec _ _ _ _ _ _ _ _ (by simp at hq; simp [hq])]
  rfl

theorem gld (t : BitVec 4) (c : BitVec 4) (d : BitVec 4) (a : BitVec 4) (b : BitVec 4) (y : BitVec 2) : Statement (.gld t c d a b y) := one rfl fun hq => by
  have hq : ((y != 3 : Bool)) = true := hq
  refine ⟨isOwner_wVec _ _ _ _ _ _ _ _ (by simp at hq; simp [hq]), ?_⟩
  rw [decode_wVec _ _ _ _ _ _ _ _ (by simp at hq; simp [hq])]
  exact accept_ok _ rfl rfl

theorem gst (t : BitVec 4) (c : BitVec 4) (d : BitVec 4) (a : BitVec 4) (b : BitVec 4) (y : BitVec 2) : Statement (.gst t c d a b y) := one rfl fun hq => by
  have hq : ((y != 3 : Bool)) = true := hq
  refine ⟨isOwner_wVec _ _ _ _ _ _ _ _ (by simp at hq; simp [hq]), ?_⟩
  rw [decode_wVec _ _ _ _ _ _ _ _ (by simp at hq; simp [hq])]
  exact accept_ok _ rfl rfl

theorem gldp (t : BitVec 4) (c : BitVec 4) (d : BitVec 4) (a : BitVec 4) (b : BitVec 4) (y : BitVec 2) : Statement (.gldp t c d a b y) := one rfl fun hq => by
  have hq : ((y != 3 : Bool)) = true := hq
  refine ⟨isOwner_wVec _ _ _ _ _ _ _ _ (by simp at hq; simp [hq]), ?_⟩
  rw [decode_wVec _ _ _ _ _ _ _ _ (by simp at hq; simp [hq])]
  exact accept_ok _ rfl rfl

theorem gamoAdd (t : BitVec 4) (c : BitVec 4) (d : BitVec 4) (a : BitVec 4) (b : BitVec 4) (y : BitVec 2) : Statement (.gamoAdd t c d a b y) := one rfl fun hq => by
  have hq : ((y < 2 : Bool)) = true := hq
  refine ⟨isOwner_wVec _ _ _ _ _ _ _ _ (lt2_ne3 (by simpa using hq)), ?_⟩
  rw [decode_wVec _ _ _ _ _ _ _ _ (lt2_ne3 (by simpa using hq))]
  exact accept_ok _ (by simp at hq ⊢; bv_omega) rfl

theorem gamoMin (t : BitVec 4) (c : BitVec 4) (d : BitVec 4) (a : BitVec 4) (b : BitVec 4) : Statement (.gamoMin t c d a b) := one rfl fun hq => by
  refine ⟨isOwner_wVec _ _ _ _ _ _ _ _ rfl, ?_⟩
  rw [decode_wVec _ _ _ _ _ _ _ _ rfl]
  exact accept_ok _ rfl rfl

theorem gamoMax (t : BitVec 4) (c : BitVec 4) (d : BitVec 4) (a : BitVec 4) (b : BitVec 4) : Statement (.gamoMax t c d a b) := one rfl fun hq => by
  refine ⟨isOwner_wVec _ _ _ _ _ _ _ _ rfl, ?_⟩
  rw [decode_wVec _ _ _ _ _ _ _ _ rfl]
  exact accept_ok _ rfl rfl

theorem gamoSwap (t : BitVec 4) (c : BitVec 4) (d : BitVec 4) (a : BitVec 4) (b : BitVec 4) : Statement (.gamoSwap t c d a b) := one rfl fun hq => by
  refine ⟨isOwner_wVec _ _ _ _ _ _ _ _ rfl, ?_⟩
  rw [decode_wVec _ _ _ _ _ _ _ _ rfl]
  exact accept_ok _ rfl rfl

theorem vnop (t : BitVec 4) (c : BitVec 4) : Statement (.vnop t c) := one rfl fun hq => by
  refine ⟨isOwner_wVec _ _ _ _ _ _ _ _ rfl, ?_⟩
  rw [decode_wVec _ _ _ _ _ _ _ _ rfl]
  exact accept_ok _ rfl rfl

theorem vfence (t : BitVec 4) (c : BitVec 4) : Statement (.vfence t c) := one rfl fun hq => by
  refine ⟨isOwner_wVec _ _ _ _ _ _ _ _ rfl, ?_⟩
  rw [decode_wVec _ _ _ _ _ _ _ _ rfl]
  exact accept_ok _ rfl rfl

theorem tcfg (t : BitVec 4) (x : BitVec 1) (g : BitVec 3) (h : BitVec 4) (k : BitVec 2) : Statement (.tcfg t x g h k) := one rfl fun hq => by
  have hq : ((h < 4 : Bool)) = true := hq
  rw [decode_wDot]
  refine ⟨by exact isOwner_wDot .., ?_⟩
  show accept (fld (h ++ k ++ 0#11 : BitVec 17) 13 4 > 3) (fld (h ++ k ++ 0#11 : BitVec 17) 0 11 != 0) (.tcfg t x g (fld (h ++ k ++ 0#11 : BitVec 17) 13 4) (fld (h ++ k ++ 0#11 : BitVec 17) 11 2)) = _
  simp (disch := omega) only [fld_lo, fld_hi, Nat.reduceSub, fld_all]
  exact accept_ok _ (by simp at hq ⊢; bv_omega) rfl

theorem tzero (t : BitVec 4) (x : BitVec 1) (g : BitVec 3) (a : BitVec 4) : Statement (.tzero t x g a) := one rfl fun hq => by
  rw [decode_wDot]
  refine ⟨by exact isOwner_wDot .., ?_⟩
  show accept false (fld (a ++ 0#13 : BitVec 17) 0 13 != 0) (.tzero t x g (fld (a ++ 0#13 : BitVec 17) 13 4)) = _
  simp (disch := omega) only [fld_lo, fld_hi, Nat.reduceSub, fld_all]
  exact accept_ok _ rfl rfl

theorem dot (t : BitVec 4) (x : BitVec 1) (g : BitVec 3) (c : BitVec 4) (a : BitVec 6) (b : BitVec 6) (s : BitVec 1) : Statement (.dot t x g c a b s) := one rfl fun hq => by
  rw [decode_wDot]
  refine ⟨by exact isOwner_wDot .., ?_⟩
  show (Except.ok (Instr.dot t x g (fld (c ++ a ++ b ++ s : BitVec 17) 13 4) (fld (c ++ a ++ b ++ s : BitVec 17) 7 6) (fld (c ++ a ++ b ++ s : BitVec 17) 1 6) (fld (c ++ a ++ b ++ s : BitVec 17) 0 1)) : Except Reject Instr) = _
  simp (disch := omega) only [fld_lo, fld_hi, Nat.reduceSub, fld_all]

theorem dotc (t : BitVec 4) (x : BitVec 1) (g : BitVec 3) (c : BitVec 4) (a : BitVec 4) (z : BitVec 2) (b : BitVec 6) (s : BitVec 1) : Statement (.dotc t x g c a z b s) := one rfl fun hq => by
  rw [decode_wDot]
  refine ⟨by exact isOwner_wDot .., ?_⟩
  show (Except.ok (Instr.dotc t x g (fld (c ++ a ++ z ++ b ++ s : BitVec 17) 13 4) (fld (c ++ a ++ z ++ b ++ s : BitVec 17) 9 4) (fld (c ++ a ++ z ++ b ++ s : BitVec 17) 7 2) (fld (c ++ a ++ z ++ b ++ s : BitVec 17) 1 6) (fld (c ++ a ++ z ++ b ++ s : BitVec 17) 0 1)) : Except Reject Instr) = _
  simp (disch := omega) only [fld_lo, fld_hi, Nat.reduceSub, fld_all]

theorem sbppt (t : BitVec 4) (x : BitVec 1) (g : BitVec 3) (p : BitVec 2) (w : BitVec 6) (r : BitVec 4) : Statement (.sbppt t x g p w r) := one rfl fun hq => by
  rw [decode_wDot]
  refine ⟨by exact isOwner_wDot .., ?_⟩
  show accept false (fld (p ++ 0#2 ++ w ++ r ++ 0#3 : BitVec 17) 13 2 != 0 || fld (p ++ 0#2 ++ w ++ r ++ 0#3 : BitVec 17) 0 3 != 0) (.sbppt t x g (fld (p ++ 0#2 ++ w ++ r ++ 0#3 : BitVec 17) 15 2) (fld (p ++ 0#2 ++ w ++ r ++ 0#3 : BitVec 17) 7 6) (fld (p ++ 0#2 ++ w ++ r ++ 0#3 : BitVec 17) 3 4)) = _
  simp (disch := omega) only [fld_lo, fld_hi, Nat.reduceSub, fld_all]
  exact accept_ok _ rfl rfl

theorem sbpsc (t : BitVec 4) (x : BitVec 1) (g : BitVec 3) (p : BitVec 2) (a : BitVec 6) (s : BitVec 1) : Statement (.sbpsc t x g p a s) := one rfl fun hq => by
  rw [decode_wDot]
  refine ⟨by exact isOwner_wDot .., ?_⟩
  show accept false (fld (p ++ 0#2 ++ a ++ 0#6 ++ s : BitVec 17) 13 2 != 0 || fld (p ++ 0#2 ++ a ++ 0#6 ++ s : BitVec 17) 1 6 != 0) (.sbpsc t x g (fld (p ++ 0#2 ++ a ++ 0#6 ++ s : BitVec 17) 15 2) (fld (p ++ 0#2 ++ a ++ 0#6 ++ s : BitVec 17) 7 6) (fld (p ++ 0#2 ++ a ++ 0#6 ++ s : BitVec 17) 0 1)) = _
  simp (disch := omega) only [fld_lo, fld_hi, Nat.reduceSub, fld_all]
  exact accept_ok _ rfl rfl

theorem sbpma (t : BitVec 4) (x : BitVec 1) (g : BitVec 3) (c : BitVec 4) (p : BitVec 2) (r : BitVec 4) : Statement (.sbpma t x g c p r) := one rfl fun hq => by
  rw [decode_wDot]
  refine ⟨by exact isOwner_wDot .., ?_⟩
  show accept false (fld (c ++ p ++ r ++ 0#7 : BitVec 17) 0 7 != 0) (.sbpma t x g (fld (c ++ p ++ r ++ 0#7 : BitVec 17) 13 4) (fld (c ++ p ++ r ++ 0#7 : BitVec 17) 11 2) (fld (c ++ p ++ r ++ 0#7 : BitVec 17) 7 4)) = _
  simp (disch := omega) only [fld_lo, fld_hi, Nat.reduceSub, fld_all]
  exact accept_ok _ rfl rfl

theorem sbpd (t : BitVec 4) (x : BitVec 1) (g : BitVec 3) (c : BitVec 4) (w : BitVec 6) (a : BitVec 6) (s : BitVec 1) : Statement (.sbpd t x g c w a s) := one rfl fun hq => by
  rw [decode_wDot]
  refine ⟨by exact isOwner_wDot .., ?_⟩
  show (Except.ok (Instr.sbpd t x g (fld (c ++ w ++ a ++ s : BitVec 17) 13 4) (fld (c ++ w ++ a ++ s : BitVec 17) 7 6) (fld (c ++ w ++ a ++ s : BitVec 17) 1 6) (fld (c ++ w ++ a ++ s : BitVec 17) 0 1)) : Except Reject Instr) = _
  simp (disch := omega) only [fld_lo, fld_hi, Nat.reduceSub, fld_all]

theorem tout (t : BitVec 4) (x : BitVec 1) (g : BitVec 3) (c : BitVec 4) (a : BitVec 6) (f : BitVec 4) (e : BitVec 3) : Statement (.tout t x g c a f e) := one rfl fun hq => by
  have hq : ((fmtOut f && e < 4 : Bool)) = true := hq
  rw [decode_wDot]
  refine ⟨by exact isOwner_wDot .., ?_⟩
  show accept (!fmtOut (fld (c ++ a ++ f ++ e : BitVec 17) 3 4) || fld (c ++ a ++ f ++ e : BitVec 17) 0 3 > 3) false (.tout t x g (fld (c ++ a ++ f ++ e : BitVec 17) 13 4) (fld (c ++ a ++ f ++ e : BitVec 17) 7 6) (fld (c ++ a ++ f ++ e : BitVec 17) 3 4) (fld (c ++ a ++ f ++ e : BitVec 17) 0 3)) = _
  simp (disch := omega) only [fld_lo, fld_hi, Nat.reduceSub, fld_all]
  exact accept_ok _ (by simp at hq ⊢; exact ⟨hq.1, by bv_omega⟩) rfl

theorem tin (t : BitVec 4) (x : BitVec 1) (g : BitVec 3) (c : BitVec 4) (a : BitVec 6) (f : BitVec 4) : Statement (.tin t x g c a f) := one rfl fun hq => by
  have hq : ((fmtOut f : Bool)) = true := hq
  rw [decode_wDot]
  refine ⟨by exact isOwner_wDot .., ?_⟩
  show accept (!fmtOut (fld (c ++ a ++ f ++ 0#3 : BitVec 17) 3 4)) (fld (c ++ a ++ f ++ 0#3 : BitVec 17) 0 3 != 0) (.tin t x g (fld (c ++ a ++ f ++ 0#3 : BitVec 17) 13 4) (fld (c ++ a ++ f ++ 0#3 : BitVec 17) 7 6) (fld (c ++ a ++ f ++ 0#3 : BitVec 17) 3 4)) = _
  simp (disch := omega) only [fld_lo, fld_hi, Nat.reduceSub, fld_all]
  exact accept_ok _ (by simp at hq ⊢; bv_omega) rfl

theorem fmtw (t : BitVec 4) (x : BitVec 1) (g : BitVec 3) (n : BitVec 4) (a : BitVec 4) (b : BitVec 4) (o : BitVec 4) (c : BitVec 1) : Statement (.fmtw t x g n a b o c) := one rfl fun hq => by
  have hq : ((fmtIn a && fmtIn b && fmtOut o : Bool)) = true := hq
  rw [decode_wDot]
  refine ⟨by exact isOwner_wDot .., ?_⟩
  show accept (!fmtIn (fld (n ++ a ++ b ++ o ++ c : BitVec 17) 9 4) || !fmtIn (fld (n ++ a ++ b ++ o ++ c : BitVec 17) 5 4) || !fmtOut (fld (n ++ a ++ b ++ o ++ c : BitVec 17) 1 4)) false (.fmtw t x g (fld (n ++ a ++ b ++ o ++ c : BitVec 17) 13 4) (fld (n ++ a ++ b ++ o ++ c : BitVec 17) 9 4) (fld (n ++ a ++ b ++ o ++ c : BitVec 17) 5 4) (fld (n ++ a ++ b ++ o ++ c : BitVec 17) 1 4) (fld (n ++ a ++ b ++ o ++ c : BitVec 17) 0 1)) = _
  simp (disch := omega) only [fld_lo, fld_hi, Nat.reduceSub, fld_all]
  exact accept_ok _ (by simp at hq; simp_all) rfl

theorem tdef (t : BitVec 4) (g : BitVec 3) (l : BitVec 6) (a : BitVec 4) : Statement (.tdef t g l a) := one rfl fun hq => by
  rw [isOwner_copy, decode_copy]
  refine ⟨rfl, ?_⟩
  show accept false (false || fld (l ++ a ++ 0#7 : BitVec 17) 0 7 != 0) (.tdef t g (fld (l ++ a ++ 0#7 : BitVec 17) 11 6) (fld (l ++ a ++ 0#7 : BitVec 17) 7 4)) = _
  simp (disch := omega) only [fld_lo, fld_hi, Nat.reduceSub, fld_all]
  exact accept_ok _ (rfl) rfl

theorem cpy (t : BitVec 4) (f : Option W32) (g : BitVec 3) (l : BitVec 6) (a : BitVec 4) (b : BitVec 4) (d : BitVec 1) (p : BitVec 2) : Statement (.cpy t f g l a b d p) := copy rfl rfl fun hq fo lw hc => by
  have hq : ((p != 3 && carriedClass f : Bool)) = true := hq
  rw [decode_copy]
  show acceptCarry ((fld (l ++ a ++ b ++ d ++ p : BitVec 17) 0 2) == 3) false (fo == 1) lw (fun f => .cpy t f g (fld (l ++ a ++ b ++ d ++ p : BitVec 17) 11 6) (fld (l ++ a ++ b ++ d ++ p : BitVec 17) 7 4) (fld (l ++ a ++ b ++ d ++ p : BitVec 17) 3 4) (fld (l ++ a ++ b ++ d ++ p : BitVec 17) 2 1) (fld (l ++ a ++ b ++ d ++ p : BitVec 17) 0 2)) = _
  simp (disch := omega) only [fld_lo, fld_hi, Nat.reduceSub, fld_all]
  rw [acceptCarry, hc]
  exact accept_ok _ (by simp at hq ⊢; simp_all) rfl

theorem cpyb (t : BitVec 4) (f : Option W32) (g : BitVec 3) (l : BitVec 6) (a : BitVec 4) (b : BitVec 4) (p : BitVec 2) : Statement (.cpyb t f g l a b p) := copy rfl rfl fun hq fo lw hc => by
  have hq : ((p != 3 && carriedClass f : Bool)) = true := hq
  rw [decode_copy]
  show acceptCarry ((fld (l ++ a ++ b ++ 0#1 ++ p : BitVec 17) 0 2) == 3) (fld (l ++ a ++ b ++ 0#1 ++ p : BitVec 17) 2 1 != 0) (fo == 1) lw (fun f => .cpyb t f g (fld (l ++ a ++ b ++ 0#1 ++ p : BitVec 17) 11 6) (fld (l ++ a ++ b ++ 0#1 ++ p : BitVec 17) 7 4) (fld (l ++ a ++ b ++ 0#1 ++ p : BitVec 17) 3 4) (fld (l ++ a ++ b ++ 0#1 ++ p : BitVec 17) 0 2)) = _
  simp (disch := omega) only [fld_lo, fld_hi, Nat.reduceSub, fld_all]
  rw [acceptCarry, hc]
  exact accept_ok _ (by simp at hq ⊢; simp_all) rfl

theorem cpyx (t : BitVec 4) (f : Option W32) (g : BitVec 3) (l : BitVec 6) (a : BitVec 4) (b : BitVec 4) : Statement (.cpyx t f g l a b) := copy rfl rfl fun hq fo lw hc => by
  have hq : ((carriedClass f : Bool)) = true := hq
  rw [decode_copy]
  show acceptCarry false (fld (l ++ a ++ b ++ 0#3 : BitVec 17) 0 3 != 0) (fo == 1) lw (fun f => .cpyx t f g (fld (l ++ a ++ b ++ 0#3 : BitVec 17) 11 6) (fld (l ++ a ++ b ++ 0#3 : BitVec 17) 7 4) (fld (l ++ a ++ b ++ 0#3 : BitVec 17) 3 4)) = _
  simp (disch := omega) only [fld_lo, fld_hi, Nat.reduceSub, fld_all]
  rw [acceptCarry, hc]
  exact accept_ok _ rfl rfl

theorem cpyr (t : BitVec 4) (f : Option W32) (g : BitVec 3) (l : BitVec 6) (a : BitVec 4) (b : BitVec 4) (d : BitVec 1) (p : BitVec 2) : Statement (.cpyr t f g l a b d p) := copy rfl rfl fun hq fo lw hc => by
  have hq : ((p != 3 && carriedClass f : Bool)) = true := hq
  rw [decode_copy]
  show acceptCarry ((fld (l ++ a ++ b ++ d ++ p : BitVec 17) 0 2) == 3) false (fo == 1) lw (fun f => .cpyr t f g (fld (l ++ a ++ b ++ d ++ p : BitVec 17) 11 6) (fld (l ++ a ++ b ++ d ++ p : BitVec 17) 7 4) (fld (l ++ a ++ b ++ d ++ p : BitVec 17) 3 4) (fld (l ++ a ++ b ++ d ++ p : BitVec 17) 2 1) (fld (l ++ a ++ b ++ d ++ p : BitVec 17) 0 2)) = _
  simp (disch := omega) only [fld_lo, fld_hi, Nat.reduceSub, fld_all]
  rw [acceptCarry, hc]
  exact accept_ok _ (by simp at hq ⊢; simp_all) rfl

theorem cpye (t : BitVec 4) (f : Option W32) (g : BitVec 3) (a : BitVec 4) (b : BitVec 4) (c : BitVec 4) (h : BitVec 2) (p : BitVec 2) (d : BitVec 1) : Statement (.cpye t f g a b c h p d) := copy rfl rfl fun hq fo lw hc => by
  have hq : ((p != 3 && carriedClass f : Bool)) = true := hq
  rw [decode_copy]
  show acceptCarry (fld (a ++ b ++ c ++ h ++ p ++ d : BitVec 17) 1 2 == 3) false (fo == 1) lw (fun f => .cpye t f g (fld (a ++ b ++ c ++ h ++ p ++ d : BitVec 17) 13 4) (fld (a ++ b ++ c ++ h ++ p ++ d : BitVec 17) 9 4) (fld (a ++ b ++ c ++ h ++ p ++ d : BitVec 17) 5 4) (fld (a ++ b ++ c ++ h ++ p ++ d : BitVec 17) 3 2) (fld (a ++ b ++ c ++ h ++ p ++ d : BitVec 17) 1 2) (fld (a ++ b ++ c ++ h ++ p ++ d : BitVec 17) 0 1)) = _
  simp (disch := omega) only [fld_lo, fld_hi, Nat.reduceSub, fld_all]
  rw [acceptCarry, hc]
  exact accept_ok _ (by simp at hq ⊢; simp_all) rfl

theorem trel (t : BitVec 4) (g : BitVec 3) (l : BitVec 6) : Statement (.trel t g l) := one rfl fun hq => by
  rw [isOwner_copy, decode_copy]
  refine ⟨rfl, ?_⟩
  show accept false (false || fld (l ++ 0#11 : BitVec 17) 0 11 != 0) (.trel t g (fld (l ++ 0#11 : BitVec 17) 11 6)) = _
  simp (disch := omega) only [fld_lo, fld_hi, Nat.reduceSub, fld_all]
  exact accept_ok _ (rfl) rfl

theorem qbind (t : BitVec 4) (g : BitVec 3) (q : BitVec 2) (a : BitVec 4) (b : BitVec 4) (c : BitVec 4) : Statement (.qbind t g q a b c) := one rfl fun hq => by
  rw [isOwner_copy, decode_copy]
  refine ⟨rfl, ?_⟩
  show accept false (false || fld (q ++ a ++ b ++ c ++ 0#3 : BitVec 17) 0 3 != 0) (.qbind t g (fld (q ++ a ++ b ++ c ++ 0#3 : BitVec 17) 15 2) (fld (q ++ a ++ b ++ c ++ 0#3 : BitVec 17) 11 4) (fld (q ++ a ++ b ++ c ++ 0#3 : BitVec 17) 7 4) (fld (q ++ a ++ b ++ c ++ 0#3 : BitVec 17) 3 4)) = _
  simp (disch := omega) only [fld_lo, fld_hi, Nat.reduceSub, fld_all]
  exact accept_ok _ (rfl) rfl

theorem qunb (t : BitVec 4) (g : BitVec 3) (q : BitVec 2) : Statement (.qunb t g q) := one rfl fun hq => by
  rw [isOwner_copy, decode_copy]
  refine ⟨rfl, ?_⟩
  show accept false (false || fld (q ++ 0#15 : BitVec 17) 0 15 != 0) (.qunb t g (fld (q ++ 0#15 : BitVec 17) 15 2)) = _
  simp (disch := omega) only [fld_lo, fld_hi, Nat.reduceSub, fld_all]
  exact accept_ok _ (rfl) rfl

theorem qfence (t : BitVec 4) (g : BitVec 3) (m : BitVec 4) (s : BitVec 3) : Statement (.qfence t g m s) := one rfl fun hq => by
  rw [isOwner_copy, decode_copy]
  refine ⟨rfl, ?_⟩
  show accept (fld (m ++ s ++ 0#10 : BitVec 17) 13 4 == 0 || fld (m ++ s ++ 0#10 : BitVec 17) 10 3 == 7) (false || fld (m ++ s ++ 0#10 : BitVec 17) 0 10 != 0) (.qfence t g (fld (m ++ s ++ 0#10 : BitVec 17) 13 4) (fld (m ++ s ++ 0#10 : BitVec 17) 10 3)) = _
  simp (disch := omega) only [fld_lo, fld_hi, Nat.reduceSub, fld_all]
  exact accept_ok _ (by have hq : (m != 0 && s != 7) = true := hq; simp at hq; simp [hq]) rfl

theorem vlogClaim (d : BitVec 5) : Statement (.vlogClaim d) := event rfl

theorem mbRead (d : BitVec 5) : Statement (.mbRead d) := event rfl

theorem engineStateWrite (i : BitVec 10) (s : BitVec 5) : Statement (.engineStateWrite i s) := event rfl

theorem cbaseWrite (s : BitVec 5) : Statement (.cbaseWrite s) := event rfl

theorem fqheadClaim (d : BitVec 5) : Statement (.fqheadClaim d) := event rfl

theorem fqCompleteResume (s : BitVec 5) : Statement (.fqCompleteResume s) := event rfl

theorem fqCompleteFault (s : BitVec 5) : Statement (.fqCompleteFault s) := event rfl

theorem fqCompleteKill (s : BitVec 5) : Statement (.fqCompleteKill s) := event rfl

theorem fqstatWrite (s : BitVec 5) : Statement (.fqstatWrite s) := event rfl

theorem registerWrite (i : BitVec 10) (s : BitVec 5) : Statement (.registerWrite i s) := event rfl

theorem creqAck (cell : Nat) (bank : Nat) : Statement (.creqAck cell bank) := event rfl

theorem uniso (same : Bool) : Statement (.uniso same) := event rfl

theorem controlBlockWrite (off : Nat) (v : BitVec 64) : Statement (.controlBlockWrite off v) := event rfl

theorem spillTransfer : Statement .spillTransfer := event rfl

theorem vIssue (gap : Nat) : Statement (.vIssue gap) := event rfl

theorem vPerformed : Statement .vPerformed := event rfl

theorem dPerformed : Statement .dPerformed := event rfl

theorem copyBegin : Statement .copyBegin := event rfl

theorem copyPerformed : Statement .copyPerformed := event rfl

theorem copyDataFault (k : DataFault) (landed : Nat) : Statement (.copyDataFault k landed) := event rfl

theorem commandDiscard (q : EngineQ) : Statement (.commandDiscard q) := event rfl

theorem guardResolutionVisible : Statement .guardResolutionVisible := event rfl

theorem loopbIteration (q : EngineQ) : Statement (.loopbIteration q) := event rfl

theorem streamGroupDecode (q : BitVec 2) : Statement (.streamGroupDecode q) := event rfl

theorem gather : Statement .gather := event rfl

theorem gatherPartnerTimeout : Statement .gatherPartnerTimeout := event rfl

theorem tokenWatchdog (q : EngineQ) : Statement (.tokenWatchdog q) := event rfl

theorem tkwWatchdog : Statement .tkwWatchdog := event rfl

theorem tileWaitWatchdog : Statement .tileWaitWatchdog := event rfl

theorem wfeTimeout : Statement .wfeTimeout := event rfl

theorem trapEntry : Statement .trapEntry := event rfl

theorem checkerMismatch : Statement .checkerMismatch := event rfl

theorem checkerTimeout : Statement .checkerTimeout := event rfl

theorem dPoisonConsumed : Statement .dPoisonConsumed := event rfl

theorem windowRollback : Statement .windowRollback := event rfl

theorem tileRefetch : Statement .tileRefetch := event rfl

theorem pageWalk (cluster : Nat) (part : Nat) (va : Nat) : Statement (.pageWalk cluster part va) := event rfl

theorem heldFaultPost (cluster : Nat) : Statement (.heldFaultPost cluster) := event rfl

theorem handlerSignal (part : Nat) : Statement (.handlerSignal part) := event rfl

theorem outboundDrain (die : Nat) (core : Nat) (n : Nat) : Statement (.outboundDrain die core n) := event rfl

theorem homeWriteMerge (home : Nat) : Statement (.homeWriteMerge home) := event rfl

theorem homeAtomic (n : Nat) : Statement (.homeAtomic n) := event rfl

theorem routerMerge (m : Nat) (n : Nat) : Statement (.routerMerge m n) := event rfl

theorem mergedReplySplit : Statement .mergedReplySplit := event rfl

theorem barrierArrival : Statement .barrierArrival := event rfl

theorem barwLimitExpiry : Statement .barwLimitExpiry := event rfl

theorem invalMarker : Statement .invalMarker := event rfl

theorem schedulerDecision (die : Nat) (part : Nat) : Statement (.schedulerDecision die part) := event rfl

theorem dispatchComplete : Statement .dispatchComplete := event rfl

theorem startReached (n : Nat) : Statement (.startReached n) := event rfl

theorem deadlineMiss (n : Nat) : Statement (.deadlineMiss n) := event rfl

theorem pressSave : Statement .pressSave := event rfl

theorem pressSaveDone : Statement .pressSaveDone := event rfl

theorem stressUpdate (die : Nat) (core : Nat) (bti : BitVec 16) (em : BitVec 16) : Statement (.stressUpdate die core bti em) := event rfl

theorem lifetimeRecordWrite : Statement .lifetimeRecordWrite := event rfl

theorem calendarSlot (channel : Nat) (slot : Nat) : Statement (.calendarSlot channel slot) := event rfl

theorem burstLand (corrected : Nat) (bad : List Nat) : Statement (.burstLand corrected bad) := event rfl

theorem hbmLinkCrcFail (n : Nat) : Statement (.hbmLinkCrcFail n) := event rfl

theorem channelRetrainDone (channel : Nat) (ok : Bool) : Statement (.channelRetrainDone channel ok) := event rfl

theorem refreshDue (cell : Nat) (bank : Nat) : Statement (.refreshDue cell bank) := event rfl

theorem refreshBurst (cell : Nat) (bank : Nat) (corrected : Nat) (bad : List Nat) : Statement (.refreshBurst cell bank corrected bad) := event rfl

theorem refreshGuard (cell : Nat) (bank : Nat) : Statement (.refreshGuard cell bank) := event rfl

theorem cellRemap (die : Nat) (core : Nat) (cell : Nat) : Statement (.cellRemap die core cell) := event rfl

theorem d2dFlitCrcFail : Statement .d2dFlitCrcFail := event rfl

theorem d2dRetrainDone (ok : Bool) : Statement (.d2dRetrainDone ok) := event rfl

theorem expanderPoisonResponse (n : Nat) : Statement (.expanderPoisonResponse n) := event rfl

theorem expanderTimeout (n : Nat) : Statement (.expanderTimeout n) := event rfl

theorem write (h : Header) (va len data : List Byte) : Statement (.write h va len data) := event rfl

theorem read (h : Header) (va len : List Byte) : Statement (.read h va len) := event rfl

theorem launch (h : Header) (va image : List Byte) : Statement (.launch h va image) := event rfl

theorem load (h : Header) (va len : List Byte) : Statement (.load h va len) := event rfl

theorem unload (h : Header) (handle : List Byte) : Statement (.unload h handle) := event rfl

theorem transportSignal (h : Header) (va : List Byte) : Statement (.transportSignal h va) := event rfl

theorem sequenceGapTimeout (session : Nat) : Statement (.sequenceGapTimeout session) := event rfl

theorem sessionOpen (session : Nat) (part : Nat) (chain : List Byte) : Statement (.sessionOpen session part chain) := event rfl

theorem partitionConfigure (c : PartConfig) : Statement (.partitionConfigure c) := event rfl

theorem partitionReset (part : Nat) : Statement (.partitionReset part) := event rfl

theorem warmReset : Statement .warmReset := event rfl

theorem coldReset (b : BootImage) : Statement (.coldReset b) := event rfl

theorem quote (nonce : List Byte) : Statement (.quote nonce) := event rfl

theorem governorStep (power : Nat) (tj : Nat) : Statement (.governorStep power tj) := event rfl

theorem thermalTrip : Statement .thermalTrip := event rfl

theorem remoteRequest (r : RemoteReq) : Statement (.remoteRequest r) := event rfl

theorem scaleupLinkCrcFail (link : Nat) : Statement (.scaleupLinkCrcFail link) := event rfl

theorem scaleupRetrainDone (link : Nat) (ok : Bool) : Statement (.scaleupRetrainDone link ok) := event rfl

theorem reachabilityChange (pkg : Nat) (up : Bool) : Statement (.reachabilityChange pkg up) := event rfl

theorem fabricArrivalMsg (dom : Nat) (pkg : Nat) (n : Nat) : Statement (.fabricArrivalMsg dom pkg n) := event rfl

theorem fabricReleaseMsg (dom : Nat) : Statement (.fabricReleaseMsg dom) := event rfl

theorem ptpMessage (grand : Nat) (offset : Int) : Statement (.ptpMessage grand offset) := event rfl

theorem holdover : Statement .holdover := event rfl

theorem loadValueReturn (n : Nat) : Statement (.loadValueReturn n) := event rfl

theorem powerFailure : Statement .powerFailure := event rfl

theorem switchFailure (sw : Nat) : Statement (.switchFailure sw) := event rfl

theorem preemptRequest : Statement .preemptRequest := event rfl

theorem measurementExtend (reg : Nat) (digest : List Byte) : Statement (.measurementExtend reg digest) := event rfl

end Sys2Proof.Laws.RoundTrip
end

