-- ==== Sys2Proof/Laws/State.lean ====
section
/-! SUPPORT. What the named updates of the state leave alone, one lemma per field: no later proof unfolds a record
update. -/

namespace Sys2Proof.Machine

variable (s : State) (st : Strand) (d : BitVec 5) (v : Word) (n : Nat)

/-! ### A word's end: `State.advance`, `State.writeRd` change the executing strand alone -/

@[simp] theorem State.advance_st : (s.advance n).st = s.st.advance n := rfl
@[simp] theorem State.advance_others : (s.advance n).others = s.others := rfl
@[simp] theorem State.advance_agenda : (s.advance n).agenda = s.agenda := rfl
@[simp] theorem State.advance_late : (s.advance n).late = s.late := rfl
@[simp] theorem State.advance_freeCtr : (s.advance n).freeCtr = s.freeCtr := rfl
@[simp] theorem State.advance_time : (s.advance n).time = s.time := rfl
@[simp] theorem State.advance_nextSid : (s.advance n).nextSid = s.nextSid := rfl
@[simp] theorem State.advance_mem : (s.advance n).mem = s.mem := rfl
@[simp] theorem State.advance_poison : (s.advance n).poison = s.poison := rfl
@[simp] theorem State.advance_rinds : (s.advance n).rinds = s.rinds := rfl
@[simp] theorem State.advance_vregs : (s.advance n).vregs = s.vregs := rfl
@[simp] theorem State.advance_preds : (s.advance n).preds = s.preds := rfl
@[simp] theorem State.advance_acc : (s.advance n).acc = s.acc := rfl
@[simp] theorem State.advance_accInt : (s.advance n).accInt = s.accInt := rfl
@[simp] theorem State.advance_pt : (s.advance n).pt = s.pt := rfl
@[simp] theorem State.advance_rs : (s.advance n).rs = s.rs := rfl
@[simp] theorem State.advance_span : (s.advance n).span = s.span := rfl
@[simp] theorem State.advance_banks : (s.advance n).banks = s.banks := rfl
@[simp] theorem State.advance_sync : (s.advance n).sync = s.sync := rfl
@[simp] theorem State.advance_syncUpd : (s.advance n).syncUpd = s.syncUpd := rfl
@[simp] theorem State.advance_outbound : (s.advance n).outbound = s.outbound := rfl
@[simp] theorem State.advance_homeq : (s.advance n).homeq = s.homeq := rfl
@[simp] theorem State.advance_net : (s.advance n).net = s.net := rfl
@[simp] theorem State.advance_replies : (s.advance n).replies = s.replies := rfl
@[simp] theorem State.advance_tlb : (s.advance n).tlb = s.tlb := rfl
@[simp] theorem State.advance_fq : (s.advance n).fq = s.fq := rfl
@[simp] theorem State.advance_held : (s.advance n).held = s.held := rfl
@[simp] theorem State.advance_resume : (s.advance n).resume = s.resume := rfl
@[simp] theorem State.advance_disarmed : (s.advance n).disarmed = s.disarmed := rfl
@[simp] theorem State.advance_fovf : (s.advance n).fovf = s.fovf := rfl
@[simp] theorem State.advance_domains : (s.advance n).domains = s.domains := rfl
@[simp] theorem State.advance_cores : (s.advance n).cores = s.cores := rfl
@[simp] theorem State.advance_partOf : (s.advance n).partOf = s.partOf := rfl
@[simp] theorem State.advance_parts : (s.advance n).parts = s.parts := rfl
@[simp] theorem State.advance_objects : (s.advance n).objects = s.objects := rfl
@[simp] theorem State.advance_unloads : (s.advance n).unloads = s.unloads := rfl
@[simp] theorem State.advance_recs : (s.advance n).recs = s.recs := rfl
@[simp] theorem State.advance_regions : (s.advance n).regions = s.regions := rfl
@[simp] theorem State.advance_images : (s.advance n).images = s.images := rfl
@[simp] theorem State.advance_bursts : (s.advance n).bursts = s.bursts := rfl
@[simp] theorem State.advance_chans : (s.advance n).chans = s.chans := rfl
@[simp] theorem State.advance_hbmCnt : (s.advance n).hbmCnt = s.hbmCnt := rfl
@[simp] theorem State.advance_rowCtr : (s.advance n).rowCtr = s.rowCtr := rfl
@[simp] theorem State.advance_openRow : (s.advance n).openRow = s.openRow := rfl
@[simp] theorem State.advance_lehr : (s.advance n).lehr = s.lehr := rfl
@[simp] theorem State.advance_cethr : (s.advance n).cethr = s.cethr := rfl
@[simp] theorem State.advance_errcnt : (s.advance n).errcnt = s.errcnt := rfl
@[simp] theorem State.advance_logs : (s.advance n).logs = s.logs := rfl
@[simp] theorem State.advance_hub : (s.advance n).hub = s.hub := rfl
@[simp] theorem State.advance_sessions : (s.advance n).sessions = s.sessions := rfl
@[simp] theorem State.advance_out : (s.advance n).out = s.out := rfl
@[simp] theorem State.writeRd_st : (s.writeRd d v n).st = (s.st.setRs d v).advance n := rfl
@[simp] theorem State.writeRd_others : (s.writeRd d v n).others = s.others := rfl
@[simp] theorem State.writeRd_agenda : (s.writeRd d v n).agenda = s.agenda := rfl
@[simp] theorem State.writeRd_late : (s.writeRd d v n).late = s.late := rfl
@[simp] theorem State.writeRd_freeCtr : (s.writeRd d v n).freeCtr = s.freeCtr := rfl
@[simp] theorem State.writeRd_time : (s.writeRd d v n).time = s.time := rfl
@[simp] theorem State.writeRd_nextSid : (s.writeRd d v n).nextSid = s.nextSid := rfl
@[simp] theorem State.writeRd_mem : (s.writeRd d v n).mem = s.mem := rfl
@[simp] theorem State.writeRd_poison : (s.writeRd d v n).poison = s.poison := rfl
@[simp] theorem State.writeRd_rinds : (s.writeRd d v n).rinds = s.rinds := rfl
@[simp] theorem State.writeRd_vregs : (s.writeRd d v n).vregs = s.vregs := rfl
@[simp] theorem State.writeRd_preds : (s.writeRd d v n).preds = s.preds := rfl
@[simp] theorem State.writeRd_acc : (s.writeRd d v n).acc = s.acc := rfl
@[simp] theorem State.writeRd_accInt : (s.writeRd d v n).accInt = s.accInt := rfl
@[simp] theorem State.writeRd_pt : (s.writeRd d v n).pt = s.pt := rfl
@[simp] theorem State.writeRd_rs : (s.writeRd d v n).rs = s.rs := rfl
@[simp] theorem State.writeRd_span : (s.writeRd d v n).span = s.span := rfl
@[simp] theorem State.writeRd_banks : (s.writeRd d v n).banks = s.banks := rfl
@[simp] theorem State.writeRd_sync : (s.writeRd d v n).sync = s.sync := rfl
@[simp] theorem State.writeRd_syncUpd : (s.writeRd d v n).syncUpd = s.syncUpd := rfl
@[simp] theorem State.writeRd_outbound : (s.writeRd d v n).outbound = s.outbound := rfl
@[simp] theorem State.writeRd_homeq : (s.writeRd d v n).homeq = s.homeq := rfl
@[simp] theorem State.writeRd_net : (s.writeRd d v n).net = s.net := rfl
@[simp] theorem State.writeRd_replies : (s.writeRd d v n).replies = s.replies := rfl
@[simp] theorem State.writeRd_tlb : (s.writeRd d v n).tlb = s.tlb := rfl
@[simp] theorem State.writeRd_fq : (s.writeRd d v n).fq = s.fq := rfl
@[simp] theorem State.writeRd_held : (s.writeRd d v n).held = s.held := rfl
@[simp] theorem State.writeRd_resume : (s.writeRd d v n).resume = s.resume := rfl
@[simp] theorem State.writeRd_disarmed : (s.writeRd d v n).disarmed = s.disarmed := rfl
@[simp] theorem State.writeRd_fovf : (s.writeRd d v n).fovf = s.fovf := rfl
@[simp] theorem State.writeRd_domains : (s.writeRd d v n).domains = s.domains := rfl
@[simp] theorem State.writeRd_cores : (s.writeRd d v n).cores = s.cores := rfl
@[simp] theorem State.writeRd_partOf : (s.writeRd d v n).partOf = s.partOf := rfl
@[simp] theorem State.writeRd_parts : (s.writeRd d v n).parts = s.parts := rfl
@[simp] theorem State.writeRd_objects : (s.writeRd d v n).objects = s.objects := rfl
@[simp] theorem State.writeRd_unloads : (s.writeRd d v n).unloads = s.unloads := rfl
@[simp] theorem State.writeRd_recs : (s.writeRd d v n).recs = s.recs := rfl
@[simp] theorem State.writeRd_regions : (s.writeRd d v n).regions = s.regions := rfl
@[simp] theorem State.writeRd_images : (s.writeRd d v n).images = s.images := rfl
@[simp] theorem State.writeRd_bursts : (s.writeRd d v n).bursts = s.bursts := rfl
@[simp] theorem State.writeRd_chans : (s.writeRd d v n).chans = s.chans := rfl
@[simp] theorem State.writeRd_hbmCnt : (s.writeRd d v n).hbmCnt = s.hbmCnt := rfl
@[simp] theorem State.writeRd_rowCtr : (s.writeRd d v n).rowCtr = s.rowCtr := rfl
@[simp] theorem State.writeRd_openRow : (s.writeRd d v n).openRow = s.openRow := rfl
@[simp] theorem State.writeRd_lehr : (s.writeRd d v n).lehr = s.lehr := rfl
@[simp] theorem State.writeRd_cethr : (s.writeRd d v n).cethr = s.cethr := rfl
@[simp] theorem State.writeRd_errcnt : (s.writeRd d v n).errcnt = s.errcnt := rfl
@[simp] theorem State.writeRd_logs : (s.writeRd d v n).logs = s.logs := rfl
@[simp] theorem State.writeRd_hub : (s.writeRd d v n).hub = s.hub := rfl
@[simp] theorem State.writeRd_sessions : (s.writeRd d v n).sessions = s.sessions := rfl
@[simp] theorem State.writeRd_out : (s.writeRd d v n).out = s.out := rfl

/-! ### System registers -/

@[simp] theorem Strand.setSys_sid : (st.setSys n v).sid = st.sid := rfl
@[simp] theorem Strand.setSys_live : (st.setSys n v).live = st.live := rfl
@[simp] theorem Strand.setSys_part : (st.setSys n v).part = st.part := rfl
@[simp] theorem Strand.setSys_recAddr : (st.setSys n v).recAddr = st.recAddr := rfl
@[simp] theorem Strand.setSys_die : (st.setSys n v).die = st.die := rfl
@[simp] theorem Strand.setSys_core : (st.setSys n v).core = st.core := rfl
@[simp] theorem Strand.setSys_field : (st.setSys n v).field = st.field := rfl
@[simp] theorem Strand.setSys_gang : (st.setSys n v).gang = st.gang := rfl
@[simp] theorem Strand.setSys_gidx : (st.setSys n v).gidx = st.gidx := rfl
@[simp] theorem Strand.setSys_forked : (st.setSys n v).forked = st.forked := rfl
@[simp] theorem Strand.setSys_atJoin : (st.setSys n v).atJoin = st.atJoin := rfl
@[simp] theorem Strand.setSys_pc : (st.setSys n v).pc = st.pc := rfl
@[simp] theorem Strand.setSys_afterCall : (st.setSys n v).afterCall = st.afterCall := rfl
@[simp] theorem Strand.setSys_sregs : (st.setSys n v).sregs = st.sregs := rfl
@[simp] theorem Strand.setSys_wp : (st.setSys n v).wp = st.wp := rfl
@[simp] theorem Strand.setSys_vwp : (st.setSys n v).vwp = st.vwp := rfl
@[simp] theorem Strand.setSys_resident : (st.setSys n v).resident = st.resident := rfl
@[simp] theorem Strand.setSys_vres : (st.setSys n v).vres = st.vres := rfl
@[simp] theorem Strand.setSys_sf : (st.setSys n v).sf = st.sf := rfl
@[simp] theorem Strand.setSys_vb : (st.setSys n v).vb = st.vb := rfl
@[simp] theorem Strand.setSys_spLen : (st.setSys n v).spLen = st.spLen := rfl
@[simp] theorem Strand.setSys_spBase : (st.setSys n v).spBase = st.spBase := rfl
@[simp] theorem Strand.setSys_jobs : (st.setSys n v).jobs = st.jobs := rfl
@[simp] theorem Strand.setSys_moved : (st.setSys n v).moved = st.moved := rfl
@[simp] theorem Strand.setSys_bank : (st.setSys n v).bank = st.bank := rfl
@[simp] theorem Strand.setSys_ext : (st.setSys n v).ext = st.ext := rfl
@[simp] theorem Strand.setSys_tok : (st.setSys n v).tok = st.tok := rfl
@[simp] theorem Strand.setSys_guards : (st.setSys n v).guards = st.guards := rfl
@[simp] theorem Strand.setSys_loops : (st.setSys n v).loops = st.loops := rfl
@[simp] theorem Strand.setSys_rep : (st.setSys n v).rep = st.rep := rfl
@[simp] theorem Strand.setSys_heldLoops : (st.setSys n v).heldLoops = st.heldLoops := rfl
@[simp] theorem Strand.setSys_vq : (st.setSys n v).vq = st.vq := rfl
@[simp] theorem Strand.setSys_dq : (st.setSys n v).dq = st.dq := rfl
@[simp] theorem Strand.setSys_cq : (st.setSys n v).cq = st.cq := rfl
@[simp] theorem Strand.setSys_loopDone : (st.setSys n v).loopDone = st.loopDone := rfl
@[simp] theorem Strand.setSys_loopSeq : (st.setSys n v).loopSeq = st.loopSeq := rfl
@[simp] theorem Strand.setSys_seq : (st.setSys n v).seq = st.seq := rfl
@[simp] theorem Strand.setSys_flights : (st.setSys n v).flights = st.flights := rfl
@[simp] theorem Strand.setSys_arrived : (st.setSys n v).arrived = st.arrived := rfl
@[simp] theorem Strand.setSys_vcyc : (st.setSys n v).vcyc = st.vcyc := rfl
@[simp] theorem Strand.setSys_cyc : (st.setSys n v).cyc = st.cyc := rfl
@[simp] theorem Strand.setSys_cyFrac : (st.setSys n v).cyFrac = st.cyFrac := rfl
@[simp] theorem Strand.setSys_pend : (st.setSys n v).pend = st.pend := rfl
@[simp] theorem Strand.setSys_tiles : (st.setSys n v).tiles = st.tiles := rfl
@[simp] theorem Strand.setSys_shape : (st.setSys n v).shape = st.shape := rfl
@[simp] theorem Strand.setSys_kstep : (st.setSys n v).kstep = st.kstep := rfl
@[simp] theorem Strand.setSys_qname : (st.setSys n v).qname = st.qname := rfl
@[simp] theorem Strand.setSys_qbinds : (st.setSys n v).qbinds = st.qbinds := rfl
@[simp] theorem Strand.setSys_streams : (st.setSys n v).streams = st.streams := rfl
@[simp] theorem Strand.setSys_win : (st.setSys n v).win = st.win := rfl
@[simp] theorem Strand.setSys_closer : (st.setSys n v).closer = st.closer := rfl
@[simp] theorem Strand.setSys_rollback : (st.setSys n v).rollback = st.rollback := rfl
@[simp] theorem Strand.setSys_reexec : (st.setSys n v).reexec = st.reexec := rfl
@[simp] theorem Strand.setSys_replay : (st.setSys n v).replay = st.replay := rfl
@[simp] theorem Strand.setSys_shadow : (st.setSys n v).shadow = st.shadow := rfl
@[simp] theorem Strand.setSys_park : (st.setSys n v).park = st.park := rfl
@[simp] theorem Strand.setSys_cheld : (st.setSys n v).cheld = st.cheld := rfl
@[simp] theorem Strand.setSys_ctr : (st.setSys n v).ctr = st.ctr := rfl
@[simp] theorem Strand.setSys_loads : (st.setSys n v).loads = st.loads := rfl
@[simp] theorem Strand.setSys_spawning : (st.setSys n v).spawning = st.spawning := rfl
@[simp] theorem Strand.setSys_relPend : (st.setSys n v).relPend = st.relPend := rfl
@[simp] theorem Strand.setSys_stall : (st.setSys n v).stall = st.stall := rfl
@[simp] theorem Strand.setSys_stallAt : (st.setSys n v).stallAt = st.stallAt := rfl
@[simp] theorem Strand.setSys_wake : (st.setSys n v).wake = st.wake := rfl
@[simp] theorem Strand.setSys_pendBit : (st.setSys n v).pendBit = st.pendBit := rfl
@[simp] theorem Strand.setSys_phase : (st.setSys n v).phase = st.phase := rfl
@[simp] theorem Strand.setSys_arriving : (st.setSys n v).arriving = st.arriving := rfl
@[simp] theorem Strand.setSys_ctxa : (st.setSys n v).ctxa = st.ctxa := rfl
@[simp] theorem Strand.setSys_deadline : (st.setSys n v).deadline = st.deadline := rfl
@[simp] theorem Strand.setSys_saveReq : (st.setSys n v).saveReq = st.saveReq := rfl
@[simp] theorem Strand.setSys_boundary : (st.setSys n v).boundary = st.boundary := rfl
@[simp] theorem Strand.setSys_saving : (st.setSys n v).saving = st.saving := rfl
@[simp] theorem Strand.setSys_trapped : (st.setSys n v).trapped = st.trapped := rfl
@[simp] theorem Strand.setSys_fresh : (st.setSys n v).fresh = st.fresh := rfl
@[simp] theorem Strand.setSys_freshAt : (st.setSys n v).freshAt = st.freshAt := rfl
@[simp] theorem Strand.setSys_vfrozen : (st.setSys n v).vfrozen = st.vfrozen := rfl

/-! ### Scalar registers: s0 discards -/

@[simp] theorem Strand.setRs_sid : (st.setRs d v).sid = st.sid := by unfold Strand.setRs; split <;> rfl
@[simp] theorem Strand.setRs_live : (st.setRs d v).live = st.live := by unfold Strand.setRs; split <;> rfl
@[simp] theorem Strand.setRs_part : (st.setRs d v).part = st.part := by unfold Strand.setRs; split <;> rfl
@[simp] theorem Strand.setRs_recAddr : (st.setRs d v).recAddr = st.recAddr := by unfold Strand.setRs; split <;> rfl
@[simp] theorem Strand.setRs_die : (st.setRs d v).die = st.die := by unfold Strand.setRs; split <;> rfl
@[simp] theorem Strand.setRs_core : (st.setRs d v).core = st.core := by unfold Strand.setRs; split <;> rfl
@[simp] theorem Strand.setRs_field : (st.setRs d v).field = st.field := by unfold Strand.setRs; split <;> rfl
@[simp] theorem Strand.setRs_gang : (st.setRs d v).gang = st.gang := by unfold Strand.setRs; split <;> rfl
@[simp] theorem Strand.setRs_gidx : (st.setRs d v).gidx = st.gidx := by unfold Strand.setRs; split <;> rfl
@[simp] theorem Strand.setRs_forked : (st.setRs d v).forked = st.forked := by unfold Strand.setRs; split <;> rfl
@[simp] theorem Strand.setRs_atJoin : (st.setRs d v).atJoin = st.atJoin := by unfold Strand.setRs; split <;> rfl
@[simp] theorem Strand.setRs_pc : (st.setRs d v).pc = st.pc := by unfold Strand.setRs; split <;> rfl
@[simp] theorem Strand.setRs_afterCall : (st.setRs d v).afterCall = st.afterCall := by unfold Strand.setRs; split <;> rfl
@[simp] theorem Strand.setRs_wp : (st.setRs d v).wp = st.wp := by unfold Strand.setRs; split <;> rfl
@[simp] theorem Strand.setRs_vwp : (st.setRs d v).vwp = st.vwp := by unfold Strand.setRs; split <;> rfl
@[simp] theorem Strand.setRs_resident : (st.setRs d v).resident = st.resident := by unfold Strand.setRs; split <;> rfl
@[simp] theorem Strand.setRs_vres : (st.setRs d v).vres = st.vres := by unfold Strand.setRs; split <;> rfl
@[simp] theorem Strand.setRs_sf : (st.setRs d v).sf = st.sf := by unfold Strand.setRs; split <;> rfl
@[simp] theorem Strand.setRs_vb : (st.setRs d v).vb = st.vb := by unfold Strand.setRs; split <;> rfl
@[simp] theorem Strand.setRs_spLen : (st.setRs d v).spLen = st.spLen := by unfold Strand.setRs; split <;> rfl
@[simp] theorem Strand.setRs_spBase : (st.setRs d v).spBase = st.spBase := by unfold Strand.setRs; split <;> rfl
@[simp] theorem Strand.setRs_jobs : (st.setRs d v).jobs = st.jobs := by unfold Strand.setRs; split <;> rfl
@[simp] theorem Strand.setRs_moved : (st.setRs d v).moved = st.moved := by unfold Strand.setRs; split <;> rfl
@[simp] theorem Strand.setRs_sys : (st.setRs d v).sys = st.sys := by unfold Strand.setRs; split <;> rfl
@[simp] theorem Strand.setRs_bank : (st.setRs d v).bank = st.bank := by unfold Strand.setRs; split <;> rfl
@[simp] theorem Strand.setRs_ext : (st.setRs d v).ext = st.ext := by unfold Strand.setRs; split <;> rfl
@[simp] theorem Strand.setRs_tok : (st.setRs d v).tok = st.tok := by unfold Strand.setRs; split <;> rfl
@[simp] theorem Strand.setRs_guards : (st.setRs d v).guards = st.guards := by unfold Strand.setRs; split <;> rfl
@[simp] theorem Strand.setRs_loops : (st.setRs d v).loops = st.loops := by unfold Strand.setRs; split <;> rfl
@[simp] theorem Strand.setRs_rep : (st.setRs d v).rep = st.rep := by unfold Strand.setRs; split <;> rfl
@[simp] theorem Strand.setRs_heldLoops : (st.setRs d v).heldLoops = st.heldLoops := by unfold Strand.setRs; split <;> rfl
@[simp] theorem Strand.setRs_vq : (st.setRs d v).vq = st.vq := by unfold Strand.setRs; split <;> rfl
@[simp] theorem Strand.setRs_dq : (st.setRs d v).dq = st.dq := by unfold Strand.setRs; split <;> rfl
@[simp] theorem Strand.setRs_cq : (st.setRs d v).cq = st.cq := by unfold Strand.setRs; split <;> rfl
@[simp] theorem Strand.setRs_loopDone : (st.setRs d v).loopDone = st.loopDone := by unfold Strand.setRs; split <;> rfl
@[simp] theorem Strand.setRs_loopSeq : (st.setRs d v).loopSeq = st.loopSeq := by unfold Strand.setRs; split <;> rfl
@[simp] theorem Strand.setRs_seq : (st.setRs d v).seq = st.seq := by unfold Strand.setRs; split <;> rfl
@[simp] theorem Strand.setRs_flights : (st.setRs d v).flights = st.flights := by unfold Strand.setRs; split <;> rfl
@[simp] theorem Strand.setRs_arrived : (st.setRs d v).arrived = st.arrived := by unfold Strand.setRs; split <;> rfl
@[simp] theorem Strand.setRs_vcyc : (st.setRs d v).vcyc = st.vcyc := by unfold Strand.setRs; split <;> rfl
@[simp] theorem Strand.setRs_cyc : (st.setRs d v).cyc = st.cyc := by unfold Strand.setRs; split <;> rfl
@[simp] theorem Strand.setRs_cyFrac : (st.setRs d v).cyFrac = st.cyFrac := by unfold Strand.setRs; split <;> rfl
@[simp] theorem Strand.setRs_pend : (st.setRs d v).pend = st.pend := by unfold Strand.setRs; split <;> rfl
@[simp] theorem Strand.setRs_tiles : (st.setRs d v).tiles = st.tiles := by unfold Strand.setRs; split <;> rfl
@[simp] theorem Strand.setRs_shape : (st.setRs d v).shape = st.shape := by unfold Strand.setRs; split <;> rfl
@[simp] theorem Strand.setRs_kstep : (st.setRs d v).kstep = st.kstep := by unfold Strand.setRs; split <;> rfl
@[simp] theorem Strand.setRs_qname : (st.setRs d v).qname = st.qname := by unfold Strand.setRs; split <;> rfl
@[simp] theorem Strand.setRs_qbinds : (st.setRs d v).qbinds = st.qbinds := by unfold Strand.setRs; split <;> rfl
@[simp] theorem Strand.setRs_streams : (st.setRs d v).streams = st.streams := by unfold Strand.setRs; split <;> rfl
@[simp] theorem Strand.setRs_win : (st.setRs d v).win = st.win := by unfold Strand.setRs; split <;> rfl
@[simp] theorem Strand.setRs_closer : (st.setRs d v).closer = st.closer := by unfold Strand.setRs; split <;> rfl
@[simp] theorem Strand.setRs_rollback : (st.setRs d v).rollback = st.rollback := by unfold Strand.setRs; split <;> rfl
@[simp] theorem Strand.setRs_reexec : (st.setRs d v).reexec = st.reexec := by unfold Strand.setRs; split <;> rfl
@[simp] theorem Strand.setRs_replay : (st.setRs d v).replay = st.replay := by unfold Strand.setRs; split <;> rfl
@[simp] theorem Strand.setRs_shadow : (st.setRs d v).shadow = st.shadow := by unfold Strand.setRs; split <;> rfl
@[simp] theorem Strand.setRs_park : (st.setRs d v).park = st.park := by unfold Strand.setRs; split <;> rfl
@[simp] theorem Strand.setRs_cheld : (st.setRs d v).cheld = st.cheld := by unfold Strand.setRs; split <;> rfl
@[simp] theorem Strand.setRs_ctr : (st.setRs d v).ctr = st.ctr := by unfold Strand.setRs; split <;> rfl
@[simp] theorem Strand.setRs_loads : (st.setRs d v).loads = st.loads := by unfold Strand.setRs; split <;> rfl
@[simp] theorem Strand.setRs_spawning : (st.setRs d v).spawning = st.spawning := by unfold Strand.setRs; split <;> rfl
@[simp] theorem Strand.setRs_relPend : (st.setRs d v).relPend = st.relPend := by unfold Strand.setRs; split <;> rfl
@[simp] theorem Strand.setRs_stall : (st.setRs d v).stall = st.stall := by unfold Strand.setRs; split <;> rfl
@[simp] theorem Strand.setRs_stallAt : (st.setRs d v).stallAt = st.stallAt := by unfold Strand.setRs; split <;> rfl
@[simp] theorem Strand.setRs_wake : (st.setRs d v).wake = st.wake := by unfold Strand.setRs; split <;> rfl
@[simp] theorem Strand.setRs_pendBit : (st.setRs d v).pendBit = st.pendBit := by unfold Strand.setRs; split <;> rfl
@[simp] theorem Strand.setRs_phase : (st.setRs d v).phase = st.phase := by unfold Strand.setRs; split <;> rfl
@[simp] theorem Strand.setRs_arriving : (st.setRs d v).arriving = st.arriving := by unfold Strand.setRs; split <;> rfl
@[simp] theorem Strand.setRs_ctxa : (st.setRs d v).ctxa = st.ctxa := by unfold Strand.setRs; split <;> rfl
@[simp] theorem Strand.setRs_deadline : (st.setRs d v).deadline = st.deadline := by unfold Strand.setRs; split <;> rfl
@[simp] theorem Strand.setRs_saveReq : (st.setRs d v).saveReq = st.saveReq := by unfold Strand.setRs; split <;> rfl
@[simp] theorem Strand.setRs_boundary : (st.setRs d v).boundary = st.boundary := by unfold Strand.setRs; split <;> rfl
@[simp] theorem Strand.setRs_saving : (st.setRs d v).saving = st.saving := by unfold Strand.setRs; split <;> rfl
@[simp] theorem Strand.setRs_trapped : (st.setRs d v).trapped = st.trapped := by unfold Strand.setRs; split <;> rfl
@[simp] theorem Strand.setRs_fresh : (st.setRs d v).fresh = st.fresh := by unfold Strand.setRs; split <;> rfl
@[simp] theorem Strand.setRs_freshAt : (st.setRs d v).freshAt = st.freshAt := by unfold Strand.setRs; split <;> rfl
@[simp] theorem Strand.setRs_vfrozen : (st.setRs d v).vfrozen = st.vfrozen := by unfold Strand.setRs; split <;> rfl

/-! ### The end of a unit and sequential flow -/

@[simp] theorem Strand.unitDone_sid : st.unitDone.sid = st.sid := rfl
@[simp] theorem Strand.unitDone_live : st.unitDone.live = st.live := rfl
@[simp] theorem Strand.unitDone_part : st.unitDone.part = st.part := rfl
@[simp] theorem Strand.unitDone_recAddr : st.unitDone.recAddr = st.recAddr := rfl
@[simp] theorem Strand.unitDone_die : st.unitDone.die = st.die := rfl
@[simp] theorem Strand.unitDone_core : st.unitDone.core = st.core := rfl
@[simp] theorem Strand.unitDone_field : st.unitDone.field = st.field := rfl
@[simp] theorem Strand.unitDone_gang : st.unitDone.gang = st.gang := rfl
@[simp] theorem Strand.unitDone_gidx : st.unitDone.gidx = st.gidx := rfl
@[simp] theorem Strand.unitDone_forked : st.unitDone.forked = st.forked := rfl
@[simp] theorem Strand.unitDone_atJoin : st.unitDone.atJoin = st.atJoin := rfl
@[simp] theorem Strand.unitDone_pc : st.unitDone.pc = st.pc := rfl
@[simp] theorem Strand.unitDone_afterCall : st.unitDone.afterCall = st.afterCall := rfl
@[simp] theorem Strand.unitDone_sregs : st.unitDone.sregs = st.sregs := rfl
@[simp] theorem Strand.unitDone_wp : st.unitDone.wp = st.wp := rfl
@[simp] theorem Strand.unitDone_vwp : st.unitDone.vwp = st.vwp := rfl
@[simp] theorem Strand.unitDone_resident : st.unitDone.resident = st.resident := rfl
@[simp] theorem Strand.unitDone_vres : st.unitDone.vres = st.vres := rfl
@[simp] theorem Strand.unitDone_sf : st.unitDone.sf = st.sf := rfl
@[simp] theorem Strand.unitDone_vb : st.unitDone.vb = st.vb := rfl
@[simp] theorem Strand.unitDone_spLen : st.unitDone.spLen = st.spLen := rfl
@[simp] theorem Strand.unitDone_spBase : st.unitDone.spBase = st.spBase := rfl
@[simp] theorem Strand.unitDone_sys : st.unitDone.sys = st.sys := rfl
@[simp] theorem Strand.unitDone_bank : st.unitDone.bank = st.bank := rfl
@[simp] theorem Strand.unitDone_ext : st.unitDone.ext = st.ext := rfl
@[simp] theorem Strand.unitDone_tok : st.unitDone.tok = st.tok := rfl
@[simp] theorem Strand.unitDone_guards : st.unitDone.guards = st.guards := rfl
@[simp] theorem Strand.unitDone_loops : st.unitDone.loops = st.loops := rfl
@[simp] theorem Strand.unitDone_rep : st.unitDone.rep = st.rep := rfl
@[simp] theorem Strand.unitDone_heldLoops : st.unitDone.heldLoops = st.heldLoops := rfl
@[simp] theorem Strand.unitDone_vq : st.unitDone.vq = st.vq := rfl
@[simp] theorem Strand.unitDone_dq : st.unitDone.dq = st.dq := rfl
@[simp] theorem Strand.unitDone_cq : st.unitDone.cq = st.cq := rfl
@[simp] theorem Strand.unitDone_loopDone : st.unitDone.loopDone = st.loopDone := rfl
@[simp] theorem Strand.unitDone_loopSeq : st.unitDone.loopSeq = st.loopSeq := rfl
@[simp] theorem Strand.unitDone_seq : st.unitDone.seq = st.seq := rfl
@[simp] theorem Strand.unitDone_flights : st.unitDone.flights = st.flights := rfl
@[simp] theorem Strand.unitDone_arrived : st.unitDone.arrived = st.arrived := rfl
@[simp] theorem Strand.unitDone_vcyc : st.unitDone.vcyc = st.vcyc := rfl
@[simp] theorem Strand.unitDone_cyc : st.unitDone.cyc = st.cyc := rfl
@[simp] theorem Strand.unitDone_cyFrac : st.unitDone.cyFrac = st.cyFrac := rfl
@[simp] theorem Strand.unitDone_pend : st.unitDone.pend = st.pend := rfl
@[simp] theorem Strand.unitDone_tiles : st.unitDone.tiles = st.tiles := rfl
@[simp] theorem Strand.unitDone_shape : st.unitDone.shape = st.shape := rfl
@[simp] theorem Strand.unitDone_kstep : st.unitDone.kstep = st.kstep := rfl
@[simp] theorem Strand.unitDone_qname : st.unitDone.qname = st.qname := rfl
@[simp] theorem Strand.unitDone_qbinds : st.unitDone.qbinds = st.qbinds := rfl
@[simp] theorem Strand.unitDone_streams : st.unitDone.streams = st.streams := rfl
@[simp] theorem Strand.unitDone_closer : st.unitDone.closer = st.closer := rfl
@[simp] theorem Strand.unitDone_rollback : st.unitDone.rollback = st.rollback := rfl
@[simp] theorem Strand.unitDone_replay : st.unitDone.replay = st.replay := rfl
@[simp] theorem Strand.unitDone_shadow : st.unitDone.shadow = st.shadow := rfl
@[simp] theorem Strand.unitDone_park : st.unitDone.park = st.park := rfl
@[simp] theorem Strand.unitDone_cheld : st.unitDone.cheld = st.cheld := rfl
@[simp] theorem Strand.unitDone_ctr : st.unitDone.ctr = st.ctr := rfl
@[simp] theorem Strand.unitDone_loads : st.unitDone.loads = st.loads := rfl
@[simp] theorem Strand.unitDone_spawning : st.unitDone.spawning = st.spawning := rfl
@[simp] theorem Strand.unitDone_relPend : st.unitDone.relPend = st.relPend := rfl
@[simp] theorem Strand.unitDone_stallAt : st.unitDone.stallAt = st.stallAt := rfl
@[simp] theorem Strand.unitDone_wake : st.unitDone.wake = st.wake := rfl
@[simp] theorem Strand.unitDone_pendBit : st.unitDone.pendBit = st.pendBit := rfl
@[simp] theorem Strand.unitDone_phase : st.unitDone.phase = st.phase := rfl
@[simp] theorem Strand.unitDone_arriving : st.unitDone.arriving = st.arriving := rfl
@[simp] theorem Strand.unitDone_ctxa : st.unitDone.ctxa = st.ctxa := rfl
@[simp] theorem Strand.unitDone_deadline : st.unitDone.deadline = st.deadline := rfl
@[simp] theorem Strand.unitDone_saveReq : st.unitDone.saveReq = st.saveReq := rfl
@[simp] theorem Strand.unitDone_saving : st.unitDone.saving = st.saving := rfl
@[simp] theorem Strand.unitDone_trapped : st.unitDone.trapped = st.trapped := rfl
@[simp] theorem Strand.unitDone_fresh : st.unitDone.fresh = st.fresh := rfl
@[simp] theorem Strand.unitDone_freshAt : st.unitDone.freshAt = st.freshAt := rfl
@[simp] theorem Strand.unitDone_vfrozen : st.unitDone.vfrozen = st.vfrozen := rfl
@[simp] theorem Strand.unitDone_jobs : st.unitDone.jobs = [] := rfl
@[simp] theorem Strand.unitDone_stall : st.unitDone.stall = none := rfl
@[simp] theorem Strand.flow_sid : (st.flow n).sid = st.sid := rfl
@[simp] theorem Strand.flow_live : (st.flow n).live = st.live := rfl
@[simp] theorem Strand.flow_part : (st.flow n).part = st.part := rfl
@[simp] theorem Strand.flow_recAddr : (st.flow n).recAddr = st.recAddr := rfl
@[simp] theorem Strand.flow_die : (st.flow n).die = st.die := rfl
@[simp] theorem Strand.flow_core : (st.flow n).core = st.core := rfl
@[simp] theorem Strand.flow_field : (st.flow n).field = st.field := rfl
@[simp] theorem Strand.flow_gang : (st.flow n).gang = st.gang := rfl
@[simp] theorem Strand.flow_gidx : (st.flow n).gidx = st.gidx := rfl
@[simp] theorem Strand.flow_forked : (st.flow n).forked = st.forked := rfl
@[simp] theorem Strand.flow_atJoin : (st.flow n).atJoin = st.atJoin := rfl
@[simp] theorem Strand.flow_sregs : (st.flow n).sregs = st.sregs := rfl
@[simp] theorem Strand.flow_wp : (st.flow n).wp = st.wp := rfl
@[simp] theorem Strand.flow_vwp : (st.flow n).vwp = st.vwp := rfl
@[simp] theorem Strand.flow_resident : (st.flow n).resident = st.resident := rfl
@[simp] theorem Strand.flow_vres : (st.flow n).vres = st.vres := rfl
@[simp] theorem Strand.flow_sf : (st.flow n).sf = st.sf := rfl
@[simp] theorem Strand.flow_vb : (st.flow n).vb = st.vb := rfl
@[simp] theorem Strand.flow_spLen : (st.flow n).spLen = st.spLen := rfl
@[simp] theorem Strand.flow_spBase : (st.flow n).spBase = st.spBase := rfl
@[simp] theorem Strand.flow_jobs : (st.flow n).jobs = st.jobs := rfl
@[simp] theorem Strand.flow_moved : (st.flow n).moved = st.moved := rfl
@[simp] theorem Strand.flow_sys : (st.flow n).sys = st.sys := rfl
@[simp] theorem Strand.flow_bank : (st.flow n).bank = st.bank := rfl
@[simp] theorem Strand.flow_ext : (st.flow n).ext = st.ext := rfl
@[simp] theorem Strand.flow_tok : (st.flow n).tok = st.tok := rfl
@[simp] theorem Strand.flow_guards : (st.flow n).guards = st.guards := rfl
@[simp] theorem Strand.flow_rep : (st.flow n).rep = st.rep := rfl
@[simp] theorem Strand.flow_heldLoops : (st.flow n).heldLoops = st.heldLoops := rfl
@[simp] theorem Strand.flow_vq : (st.flow n).vq = st.vq := rfl
@[simp] theorem Strand.flow_dq : (st.flow n).dq = st.dq := rfl
@[simp] theorem Strand.flow_cq : (st.flow n).cq = st.cq := rfl
@[simp] theorem Strand.flow_loopDone : (st.flow n).loopDone = st.loopDone := rfl
@[simp] theorem Strand.flow_loopSeq : (st.flow n).loopSeq = st.loopSeq := rfl
@[simp] theorem Strand.flow_seq : (st.flow n).seq = st.seq := rfl
@[simp] theorem Strand.flow_flights : (st.flow n).flights = st.flights := rfl
@[simp] theorem Strand.flow_arrived : (st.flow n).arrived = st.arrived := rfl
@[simp] theorem Strand.flow_vcyc : (st.flow n).vcyc = st.vcyc := rfl
@[simp] theorem Strand.flow_cyc : (st.flow n).cyc = st.cyc := rfl
@[simp] theorem Strand.flow_cyFrac : (st.flow n).cyFrac = st.cyFrac := rfl
@[simp] theorem Strand.flow_pend : (st.flow n).pend = st.pend := rfl
@[simp] theorem Strand.flow_tiles : (st.flow n).tiles = st.tiles := rfl
@[simp] theorem Strand.flow_shape : (st.flow n).shape = st.shape := rfl
@[simp] theorem Strand.flow_kstep : (st.flow n).kstep = st.kstep := rfl
@[simp] theorem Strand.flow_qname : (st.flow n).qname = st.qname := rfl
@[simp] theorem Strand.flow_qbinds : (st.flow n).qbinds = st.qbinds := rfl
@[simp] theorem Strand.flow_streams : (st.flow n).streams = st.streams := rfl
@[simp] theorem Strand.flow_win : (st.flow n).win = st.win := rfl
@[simp] theorem Strand.flow_closer : (st.flow n).closer = st.closer := rfl
@[simp] theorem Strand.flow_rollback : (st.flow n).rollback = st.rollback := rfl
@[simp] theorem Strand.flow_reexec : (st.flow n).reexec = st.reexec := rfl
@[simp] theorem Strand.flow_replay : (st.flow n).replay = st.replay := rfl
@[simp] theorem Strand.flow_shadow : (st.flow n).shadow = st.shadow := rfl
@[simp] theorem Strand.flow_park : (st.flow n).park = st.park := rfl
@[simp] theorem Strand.flow_cheld : (st.flow n).cheld = st.cheld := rfl
@[simp] theorem Strand.flow_ctr : (st.flow n).ctr = st.ctr := rfl
@[simp] theorem Strand.flow_loads : (st.flow n).loads = st.loads := rfl
@[simp] theorem Strand.flow_spawning : (st.flow n).spawning = st.spawning := rfl
@[simp] theorem Strand.flow_relPend : (st.flow n).relPend = st.relPend := rfl
@[simp] theorem Strand.flow_stall : (st.flow n).stall = st.stall := rfl
@[simp] theorem Strand.flow_stallAt : (st.flow n).stallAt = st.stallAt := rfl
@[simp] theorem Strand.flow_wake : (st.flow n).wake = st.wake := rfl
@[simp] theorem Strand.flow_pendBit : (st.flow n).pendBit = st.pendBit := rfl
@[simp] theorem Strand.flow_phase : (st.flow n).phase = st.phase := rfl
@[simp] theorem Strand.flow_arriving : (st.flow n).arriving = st.arriving := rfl
@[simp] theorem Strand.flow_ctxa : (st.flow n).ctxa = st.ctxa := rfl
@[simp] theorem Strand.flow_deadline : (st.flow n).deadline = st.deadline := rfl
@[simp] theorem Strand.flow_saveReq : (st.flow n).saveReq = st.saveReq := rfl
@[simp] theorem Strand.flow_boundary : (st.flow n).boundary = st.boundary := rfl
@[simp] theorem Strand.flow_saving : (st.flow n).saving = st.saving := rfl
@[simp] theorem Strand.flow_trapped : (st.flow n).trapped = st.trapped := rfl
@[simp] theorem Strand.flow_fresh : (st.flow n).fresh = st.fresh := rfl
@[simp] theorem Strand.flow_freshAt : (st.flow n).freshAt = st.freshAt := rfl
@[simp] theorem Strand.flow_vfrozen : (st.flow n).vfrozen = st.vfrozen := rfl
/-- Under REP with an issue left the next issue follows; else the word's flow. -/
theorem Strand.advance_eq : st.advance n =
    if st.rep.left > 1 then
      { st.unitDone with rep := { st.rep with left := st.rep.left - 1, made := st.rep.made + 1 }, afterCall := none }
    else Strand.flow { st.unitDone with rep := RepState.none } n := rfl

@[simp] theorem Strand.advance_sid : (st.advance n).sid = st.sid := by rw [Strand.advance_eq]; split <;> rfl
@[simp] theorem Strand.advance_live : (st.advance n).live = st.live := by rw [Strand.advance_eq]; split <;> rfl
@[simp] theorem Strand.advance_part : (st.advance n).part = st.part := by rw [Strand.advance_eq]; split <;> rfl
@[simp] theorem Strand.advance_recAddr : (st.advance n).recAddr = st.recAddr := by rw [Strand.advance_eq]; split <;> rfl
@[simp] theorem Strand.advance_die : (st.advance n).die = st.die := by rw [Strand.advance_eq]; split <;> rfl
@[simp] theorem Strand.advance_core : (st.advance n).core = st.core := by rw [Strand.advance_eq]; split <;> rfl
@[simp] theorem Strand.advance_field : (st.advance n).field = st.field := by rw [Strand.advance_eq]; split <;> rfl
@[simp] theorem Strand.advance_gang : (st.advance n).gang = st.gang := by rw [Strand.advance_eq]; split <;> rfl
@[simp] theorem Strand.advance_gidx : (st.advance n).gidx = st.gidx := by rw [Strand.advance_eq]; split <;> rfl
@[simp] theorem Strand.advance_forked : (st.advance n).forked = st.forked := by rw [Strand.advance_eq]; split <;> rfl
@[simp] theorem Strand.advance_atJoin : (st.advance n).atJoin = st.atJoin := by rw [Strand.advance_eq]; split <;> rfl
@[simp] theorem Strand.advance_sregs : (st.advance n).sregs = st.sregs := by rw [Strand.advance_eq]; split <;> rfl
@[simp] theorem Strand.advance_wp : (st.advance n).wp = st.wp := by rw [Strand.advance_eq]; split <;> rfl
@[simp] theorem Strand.advance_vwp : (st.advance n).vwp = st.vwp := by rw [Strand.advance_eq]; split <;> rfl
@[simp] theorem Strand.advance_resident : (st.advance n).resident = st.resident := by rw [Strand.advance_eq]; split <;> rfl
@[simp] theorem Strand.advance_vres : (st.advance n).vres = st.vres := by rw [Strand.advance_eq]; split <;> rfl
@[simp] theorem Strand.advance_sf : (st.advance n).sf = st.sf := by rw [Strand.advance_eq]; split <;> rfl
@[simp] theorem Strand.advance_vb : (st.advance n).vb = st.vb := by rw [Strand.advance_eq]; split <;> rfl
@[simp] theorem Strand.advance_spLen : (st.advance n).spLen = st.spLen := by rw [Strand.advance_eq]; split <;> rfl
@[simp] theorem Strand.advance_spBase : (st.advance n).spBase = st.spBase := by rw [Strand.advance_eq]; split <;> rfl
@[simp] theorem Strand.advance_sys : (st.advance n).sys = st.sys := by rw [Strand.advance_eq]; split <;> rfl
@[simp] theorem Strand.advance_bank : (st.advance n).bank = st.bank := by rw [Strand.advance_eq]; split <;> rfl
@[simp] theorem Strand.advance_ext : (st.advance n).ext = st.ext := by rw [Strand.advance_eq]; split <;> rfl
@[simp] theorem Strand.advance_tok : (st.advance n).tok = st.tok := by rw [Strand.advance_eq]; split <;> rfl
@[simp] theorem Strand.advance_guards : (st.advance n).guards = st.guards := by rw [Strand.advance_eq]; split <;> rfl
@[simp] theorem Strand.advance_heldLoops : (st.advance n).heldLoops = st.heldLoops := by rw [Strand.advance_eq]; split <;> rfl
@[simp] theorem Strand.advance_vq : (st.advance n).vq = st.vq := by rw [Strand.advance_eq]; split <;> rfl
@[simp] theorem Strand.advance_dq : (st.advance n).dq = st.dq := by rw [Strand.advance_eq]; split <;> rfl
@[simp] theorem Strand.advance_cq : (st.advance n).cq = st.cq := by rw [Strand.advance_eq]; split <;> rfl
@[simp] theorem Strand.advance_loopDone : (st.advance n).loopDone = st.loopDone := by rw [Strand.advance_eq]; split <;> rfl
@[simp] theorem Strand.advance_loopSeq : (st.advance n).loopSeq = st.loopSeq := by rw [Strand.advance_eq]; split <;> rfl
@[simp] theorem Strand.advance_seq : (st.advance n).seq = st.seq := by rw [Strand.advance_eq]; split <;> rfl
@[simp] theorem Strand.advance_flights : (st.advance n).flights = st.flights := by rw [Strand.advance_eq]; split <;> rfl
@[simp] theorem Strand.advance_arrived : (st.advance n).arrived = st.arrived := by rw [Strand.advance_eq]; split <;> rfl
@[simp] theorem Strand.advance_vcyc : (st.advance n).vcyc = st.vcyc := by rw [Strand.advance_eq]; split <;> rfl
@[simp] theorem Strand.advance_cyc : (st.advance n).cyc = st.cyc := by rw [Strand.advance_eq]; split <;> rfl
@[simp] theorem Strand.advance_cyFrac : (st.advance n).cyFrac = st.cyFrac := by rw [Strand.advance_eq]; split <;> rfl
@[simp] theorem Strand.advance_pend : (st.advance n).pend = st.pend := by rw [Strand.advance_eq]; split <;> rfl
@[simp] theorem Strand.advance_tiles : (st.advance n).tiles = st.tiles := by rw [Strand.advance_eq]; split <;> rfl
@[simp] theorem Strand.advance_shape : (st.advance n).shape = st.shape := by rw [Strand.advance_eq]; split <;> rfl
@[simp] theorem Strand.advance_kstep : (st.advance n).kstep = st.kstep := by rw [Strand.advance_eq]; split <;> rfl
@[simp] theorem Strand.advance_qname : (st.advance n).qname = st.qname := by rw [Strand.advance_eq]; split <;> rfl
@[simp] theorem Strand.advance_qbinds : (st.advance n).qbinds = st.qbinds := by rw [Strand.advance_eq]; split <;> rfl
@[simp] theorem Strand.advance_streams : (st.advance n).streams = st.streams := by rw [Strand.advance_eq]; split <;> rfl
@[simp] theorem Strand.advance_closer : (st.advance n).closer = st.closer := by rw [Strand.advance_eq]; split <;> rfl
@[simp] theorem Strand.advance_rollback : (st.advance n).rollback = st.rollback := by rw [Strand.advance_eq]; split <;> rfl
@[simp] theorem Strand.advance_replay : (st.advance n).replay = st.replay := by rw [Strand.advance_eq]; split <;> rfl
@[simp] theorem Strand.advance_shadow : (st.advance n).shadow = st.shadow := by rw [Strand.advance_eq]; split <;> rfl
@[simp] theorem Strand.advance_park : (st.advance n).park = st.park := by rw [Strand.advance_eq]; split <;> rfl
@[simp] theorem Strand.advance_cheld : (st.advance n).cheld = st.cheld := by rw [Strand.advance_eq]; split <;> rfl
@[simp] theorem Strand.advance_ctr : (st.advance n).ctr = st.ctr := by rw [Strand.advance_eq]; split <;> rfl
@[simp] theorem Strand.advance_loads : (st.advance n).loads = st.loads := by rw [Strand.advance_eq]; split <;> rfl
@[simp] theorem Strand.advance_spawning : (st.advance n).spawning = st.spawning := by rw [Strand.advance_eq]; split <;> rfl
@[simp] theorem Strand.advance_relPend : (st.advance n).relPend = st.relPend := by rw [Strand.advance_eq]; split <;> rfl
@[simp] theorem Strand.advance_stallAt : (st.advance n).stallAt = st.stallAt := by rw [Strand.advance_eq]; split <;> rfl
@[simp] theorem Strand.advance_wake : (st.advance n).wake = st.wake := by rw [Strand.advance_eq]; split <;> rfl
@[simp] theorem Strand.advance_pendBit : (st.advance n).pendBit = st.pendBit := by rw [Strand.advance_eq]; split <;> rfl
@[simp] theorem Strand.advance_phase : (st.advance n).phase = st.phase := by rw [Strand.advance_eq]; split <;> rfl
@[simp] theorem Strand.advance_arriving : (st.advance n).arriving = st.arriving := by rw [Strand.advance_eq]; split <;> rfl
@[simp] theorem Strand.advance_ctxa : (st.advance n).ctxa = st.ctxa := by rw [Strand.advance_eq]; split <;> rfl
@[simp] theorem Strand.advance_deadline : (st.advance n).deadline = st.deadline := by rw [Strand.advance_eq]; split <;> rfl
@[simp] theorem Strand.advance_saveReq : (st.advance n).saveReq = st.saveReq := by rw [Strand.advance_eq]; split <;> rfl
@[simp] theorem Strand.advance_saving : (st.advance n).saving = st.saving := by rw [Strand.advance_eq]; split <;> rfl
@[simp] theorem Strand.advance_trapped : (st.advance n).trapped = st.trapped := by rw [Strand.advance_eq]; split <;> rfl
@[simp] theorem Strand.advance_fresh : (st.advance n).fresh = st.fresh := by rw [Strand.advance_eq]; split <;> rfl
@[simp] theorem Strand.advance_freshAt : (st.advance n).freshAt = st.freshAt := by rw [Strand.advance_eq]; split <;> rfl
@[simp] theorem Strand.advance_vfrozen : (st.advance n).vfrozen = st.vfrozen := by rw [Strand.advance_eq]; split <;> rfl
@[simp] theorem Strand.advance_jobs : (st.advance n).jobs = [] := by rw [Strand.advance_eq]; split <;> rfl
@[simp] theorem Strand.advance_moved : (st.advance n).moved = 0 := by rw [Strand.advance_eq]; split <;> rfl
@[simp] theorem Strand.advance_boundary : (st.advance n).boundary = false := by rw [Strand.advance_eq]; split <;> rfl
@[simp] theorem Strand.advance_stall : (st.advance n).stall = none := by rw [Strand.advance_eq]; split <;> rfl

end Sys2Proof.Machine
end

