-- ==== Sys2Proof/Laws/Word.lean ====
section
/-! SUPPORT. What the end of a word does to the executing strand, and how a word that writes a register is shown to. -/

namespace Sys2Proof.Machine

variable {s t : State} {i : Instr} {st : Strand} {d : BitVec 5} {v : Word} {n : Nat}

/-- The end of a word changes the sequencer's place in the text alone. -/
theorem Strand.movedOn_advance (st : Strand) (n : Nat) : st.movedOn (st.advance n) := by
  rw [Strand.movedOn, Strand.advance_eq]
  split <;> rfl

theorem endTest_cons_ne {pc : Word} {l : LoopLevel} {ls : List LoopLevel} (h : pc ≠ l.start + word (4 * l.len)) :
    endTest pc (l :: ls) = (l :: ls, pc) := by
  simp [endTest, h]

/-- Away from a loop's end, and outside REP, PC moves by the word's bytes. -/
theorem Strand.passed_advance (st : Strand) (n : Nat) : st.passed (st.advance n) n := by
  intro hr hl
  rw [Strand.advance_eq, if_neg (by omega)]
  have h : endTest (st.pc + word n) st.loops = (st.loops, st.pc + word n) := by
    cases hs : st.loops with
    | nil => rfl
    | cons l ls => exact endTest_cons_ne (hl l (by simp [hs]))
  simp [Strand.flow, h]

/-- A register write: the one physical place, and nothing for s0. -/
theorem Strand.get_setRs (st : Strand) (d : BitVec 5) (v : Word) (p : Nat) : SMap.get 0 (st.setRs d v).sregs p =
    if d ≠ 0 ∧ p = st.phys d.toNat then v else SMap.get 0 st.sregs p := by
  unfold Strand.setRs
  by_cases hd : d = 0
  · rw [if_pos (by simp [hd]), if_neg (by simp [hd])]
  · rw [if_neg (by simpa using hd)]
    simp only [SMap.get_set, ne_eq, hd, not_false_eq_true, true_and]

/-- A word whose meaning only flows on from a changed strand completes. -/
theorem Completes.of_advance (h : exec i s = .next (State.advance { s with st := st } n)) (hp : st.pc = s.st.pc)
    (hl : st.loops = s.st.loops) (hr : st.rep = s.st.rep) : Completes s i st n := by
  refine ⟨_, h, rfl, Strand.movedOn_advance st n, ?_⟩
  have := Strand.passed_advance st n
  intro h1 h2
  rw [← hp, ← hl]
  exact this (by rw [hr]; exact h1) (by rw [hl, hp]; exact h2)

/-- A word whose meaning is a register write with the flow past n bytes writes rd. -/
theorem WritesRd.of_exec (h : exec i s = .next (s.writeRd d v n)) : WritesRd s i d v n := by
  refine ⟨(s.st.setRs d v).sregs, Completes.of_advance ?_ rfl rfl rfl, ?_⟩
  · rw [h]
    unfold State.writeRd Strand.setRs
    split <;> rfl
  · exact Strand.get_setRs s.st d v

end Sys2Proof.Machine
end

