-- ==== Sys2Proof/Tests/Slice0.lean ====
section
/-! SUPPORT. The model's own tests: terms that are ill-formed, words written out from the encodings of chapter 2, single
steps on small states with the values the manual gives, and for every statement with hypotheses states that meet them. -/

namespace Sys2Proof.Tests

open Sys2Proof Sys2Proof.Machine

set_option Elab.async false

/-! ### Ill-formed terms (R38-R51) -/

/-- For each check of `Instr.wf` a term that fails it: lengths and counts that must not be zero, reserved values of SZ, SC, KIND, cmp,
TY, OUT, op[i], reserved predicate and format codes, the all-zero word, and a carried word of another class. -/
theorem test_ill_formed_scalar : ([.loopb 1 0 0 0 0, .loops 1 0, .add 0 0 0, .ld 1 2 7 0, .st 1 2 4 0, .amoAdd 1 2 3 7 0, .amoAnd 1 2 3 7 0,
    .amoOr 1 2 3 7 0, .amoXor 1 2 3 7 0, .amoMin 1 2 3 7 0, .amoMax 1 2 3 7 0, .amoMinn 1 2 3 7 0, .amoMaxn 1 2 3 7 0, .amoSwap 1 2 3 7 0,
    .amoCas 1 2 3 7 0, .amoFadd32 1 2 3 7 0, .amoAddw 1 2 3 7 0, .amoCasw 1 2 3 7 0, .amoSwapw 1 2 3 7 0, .gset 0 1 2 0, .gset 1 1 2 7,
    .gset 1 1 2 6, .gsetUnres 0, .tkp 6 1, .tkp 0 0, .tkp 0 16, .tkw 6 1, .tkw 0 0, .tkw 0 16, .fence 3 0, .fence 0 7,
    .enter 3] : List Instr).all (fun i => !i.wf) = true := by decide

theorem test_ill_formed_vector : ([.vadd 0 0 0 1 2 0 3, .vsub 0 0 0 1 2 0 3, .vmul 0 0 0 1 2 0 3, .vmulh 0 0 0 1 2 0 3, .vmulhn 0 0 0 1 2 0 3,
    .vmad 0 0 0 1 2 0 3, .vadds 0 0 0 1 2 0 3, .vsubs 0 0 0 1 2 0 3, .vaddsn 0 0 0 1 2 0 3, .vsubsn 0 0 0 1 2 0 3, .vmin 0 0 0 1 2 0 3,
    .vmax 0 0 0 1 2 0 3, .vminn 0 0 0 1 2 0 3, .vmaxn 0 0 0 1 2 0 3, .vabs 0 0 0 1 0 3, .vand 0 0 0 1 2 0 3, .vor 0 0 0 1 2 0 3,
    .vxor 0 0 0 1 2 0 3, .vandn 0 0 0 1 2 0 3, .vshl 0 0 0 1 2 0 3, .vshr 0 0 0 1 2 0 3, .vsra 0 0 0 1 2 0 3, .vclz 0 0 0 1 0 3,
    .vpopc 0 0 0 1 0 3, .vcmp 0 0 12 1 2 0 0, .vcmp 0 0 0 1 2 0 3, .vcmpn 0 0 12 1 2 0 0, .vcmpn 0 0 0 1 2 0 3, .fadd 0 0 0 1 2 0 3,
    .fsub 0 0 0 1 2 0 3, .fmul 0 0 0 1 2 0 3, .ffma 0 0 0 1 2 0 3, .ffms 0 0 0 1 2 0 3, .fmin 0 0 0 1 2 0 3, .fmax 0 0 0 1 2 0 3,
    .fabs 0 0 0 1 0 3, .fneg 0 0 0 1 0 3, .frcp 0 0 0 1 0 3, .frsq 0 0 0 1 0 3, .fexp2 0 0 0 1 0 3, .flog2 0 0 0 1 0 3, .fcmp 0 0 12 1 2 0 0,
    .fcmp 0 0 0 1 2 0 3, .fclass 0 0 0 1 0 3] : List Instr).all (fun i => !i.wf) = true := by decide

theorem test_ill_formed_engines : ([.vcvt 0 0 0 1 13 0, .vscale 0 0 0 1 2 0 3, .vqpack 0 0 0 1 3 0, .vqunpk 0 0 0 1 3 0, .vsel 0 0 0 1 12 0,
    .vperm 0 0 0 1 2 0 3, .vredadd 0 0 0 1 2 0 0, .vredadd 0 0 0 1 0 0 2, .vredmax 0 0 0 1 2 0 0, .vredmax 0 0 0 1 0 0 2, .plog 0 0 12 0 0 0,
    .plog 0 0 0 12 0 0, .plog 0 0 0 0 12 0, .pset 0 0 12 0 0 0, .pset 0 0 0 4 0 0, .pset 0 0 0 1 1 0, .ptst 0 0 12, .tldx 0 0 0 0 0 0 3,
    .tstx 0 0 0 0 0 0 3, .gld 0 0 0 0 0 3, .gst 0 0 0 0 0 3, .gldp 0 0 0 0 0 3, .gamoAdd 0 0 0 0 0 2, .tcfg 0 0 0 4 0,
    .tout 0 0 0 0 0 9 0, .tout 0 0 0 0 0 0 4, .tin 0 0 0 0 0 11, .fmtw 0 0 0 0 10 0 0 0, .fmtw 0 0 0 0 0 10 0 0, .fmtw 0 0 0 0 0 0 9 0,
    .cpy 0 none 0 1 2 3 0 3, .cpy 0 (some 0) 0 1 2 3 0 0, .cpyb 0 none 0 1 2 3 3, .cpyb 0 (some 0) 0 1 2 3 0, .cpyx 0 (some 0) 0 1 2 3,
    .cpyr 0 none 0 1 2 3 0 3, .cpyr 0 (some 0) 0 1 2 3 0 0, .cpye 0 none 0 1 2 3 0 3 0, .cpye 0 (some 0) 0 1 2 3 0 0 0, .qfence 0 0 0 0,
    .qfence 0 0 1 7] : List Instr).all (fun i => !i.wf) = true := by decide

/-- The words the same rules reject, by name (R34, R38, R47). -/
theorem test_rejected : (decode 0 0 = .error .illegal ∧ decode 0x18000003 0 = .error .illegal ∧ decode 0x15FFFC00 0 = .error .illegal ∧
    decode 0x11080002 0 = .error .reservedBits ∧ decode 0x1A000000 0 = .error .illegal) := by decide

/-! ### Words from the encodings -/

/-- Each word, with the word after it, decodes to the instruction beside it. -/
def decodesAll (l : List (W32 × W32 × Instr)) : Bool := l.all fun p =>
  match decode p.1 p.2.1 with
  | .ok i => decide (i = p.2.2)
  | .error _ => false

/-- LIT, LITN and LITH are sop 18 with C = 0, 1 and 2 (R82); FO = 1 (bit 25) makes CPY carry the D word after it (R50). -/
theorem test_decode_literals : decodesAll [
    (0x12880000, 0x80000000, .lit 17 0x80000000), (0x12900001, 0x89ABCDEF, .litn 18 0x89ABCDEF),
    (0x12900002, 0x01234567, .lith 18 0x01234567), (0xFE42F1C6, 0x82844000, .cpy 15 (some 0x82844000) 1 30 3 8 1 2)] = true := by decide

theorem test_decode_scalar_arithmetic_1 : decodesAll [
  (0x20300008, 0x00000000, .lui 3 8), (0x22A0000F, 0x00000000, .fli 10 15), (0x25100016, 0x00000000, .addpc 17 22),
    (0x26000018, 0x00000000, .j 24), (0x2800001F, 0x00000000, .call 31), (0x2A000B35, 0x00000000, .rep 2 3 0 53),
    (0x2CD0BC41, 0x00000000, .loopb 13 2 7 4 65), (0x00A67C00, 0x00000000, .add 20 25 30),
    (0x00D80A01, 0x00000000, .sub 27 0 5), (0x0011D802, 0x00000000, .mul 2 7 12),
    (0x004BA603, 0x00000000, .mulh 9 14 19), (0x00857404, 0x00000000, .mulhn 16 21 26),
    (0x00BF0205, 0x00000000, .div 23 28 1), (0x00F0D006, 0x00000000, .divn 30 3 8),
    (0x002A9E07, 0x00000000, .rem 5 10 15), (0x00646C08, 0x00000000, .remn 12 17 22),
    (0x009E3A09, 0x00000000, .and 19 24 29), (0x00D7C80A, 0x00000000, .or 26 31 4),
    (0x0009960B, 0x00000000, .xor 1 6 11), (0x0043640C, 0x00000000, .andn 8 13 18),
    (0x007D320D, 0x00000000, .shl 15 20 25), (0x00B6C00E, 0x00000000, .shr 22 27 0),
    (0x00E88E0F, 0x00000000, .sra 29 2 7), (0x00225C10, 0x00000000, .min 4 9 14)] = true := by decide

theorem test_decode_scalar_arithmetic_2 : decodesAll [
  (0x005C2A11, 0x00000000, .minn 11 16 21), (0x0095F812, 0x00000000, .max 18 23 28),
    (0x00CF8613, 0x00000000, .maxn 25 30 3), (0x00015414, 0x00000000, .seq 0 5 10),
    (0x003B2215, 0x00000000, .slt 7 12 17), (0x0074F016, 0x00000000, .sltn 14 19 24),
    (0x00AE8017, 0x00000000, .clz 21 26), (0x00E04018, 0x00000000, .ctz 28 1), (0x001A0019, 0x00000000, .popc 3 8),
    (0x0053E81A, 0x00000000, .addw 10 15 20), (0x008DB61B, 0x00000000, .subw 17 22 27),
    (0x00C7441C, 0x00000000, .mulw 24 29 2), (0x01F90109, 0x00000000, .addi 31 4 265),
    (0x0232C110, 0x00000000, .andi 6 11 272), (0x036C8117, 0x00000000, .ori 13 18 279),
    (0x04A6411E, 0x00000000, .xori 20 25 286), (0x05D80025, 0x00000000, .shli 27 0 37),
    (0x0511D02C, 0x00000000, .shri 2 7 44), (0x054BA033, 0x00000000, .srai 9 14 51),
    (0x0685413A, 0x00000000, .slti 16 21 314), (0x07BF0141, 0x00000000, .sltni 23 28 321)] = true := by decide

theorem test_decode_memory_atomics : decodesAll [
  (0x08F0C14D, 0x00000000, .ld 30 3 0 333), (0x092A9954, 0x00000000, .st 5 10 3 340),
    (0x0A646C0C, 0x00000000, .amoAdd 12 17 22 3 0), (0x0A9E3A2B, 0x00000000, .amoAnd 19 24 29 2 3),
    (0x0AD7C846, 0x00000000, .amoOr 26 31 4 1 2), (0x0A099661, 0x00000000, .amoXor 1 6 11 0 1),
    (0x0A436480, 0x00000000, .amoMin 8 13 18 0 0), (0x0A7D32BB, 0x00000000, .amoMax 15 20 25 6 3),
    (0x0AB6C0D6, 0x00000000, .amoMinn 22 27 0 5 2), (0x0AE88EF1, 0x00000000, .amoMaxn 29 2 7 4 1),
    (0x0A225D0C, 0x00000000, .amoSwap 4 9 14 3 0), (0x0A5C2B2B, 0x00000000, .amoCas 11 16 21 2 3),
    (0x0A95F946, 0x00000000, .amoFadd32 18 23 28 1 2), (0x0ACF8761, 0x00000000, .amoAddw 25 30 3 0 1),
    (0x0A015580, 0x00000000, .amoCasw 0 5 10 0 0), (0x0A3B23BB, 0x00000000, .amoSwapw 7 12 17 6 3)] = true := by decide

theorem test_decode_control_system_1 : decodesAll [
  (0x0B74C1B8, 0x00000000, .beq 14 19 440), (0x0CAE81BF, 0x00000000, .bne 21 26 447),
    (0x0DE041C6, 0x00000000, .blt 28 1 454), (0x0E1A01CD, 0x00000000, .bge 3 8 461),
    (0x0F53C1D4, 0x00000000, .bltn 10 15 468), (0x108D81DB, 0x00000000, .bgen 17 22 475),
    (0x11060000, 0x00000000, .jr 24), (0x1107C001, 0x00000000, .callr 31), (0x11000002, 0x00000000, .ret),
    (0x13A4AF00, 0x00000000, .gset 5 18 23 4), (0x13C001C0, 0x00000000, .gsetUnres 6),
    (0x14A3C000, 0x00000000, .tkp 5 15), (0x14A3C001, 0x00000000, .tkw 5 15), (0x15000209, 0x00000000, .trap 521),
    (0x15000400, 0x00000000, .eretResume), (0x15280A2A, 0x00000000, .srd 5 554),
    (0x15030E31, 0x00000000, .swr 12 561), (0x15001016, 0x00000000, .fence 2 6), (0x15001400, 0x00000000, .nop),
    (0x15005800, 0x00000000, .refdDefer 1), (0x15059C00, 0x00000000, .inval 22), (0x15002000, 0x00000000, .wfe),
    (0x16010000, 0x00000000, .fork 4), (0x16000400, 0x00000000, .join)] = true := by decide

theorem test_decode_control_system_2 : decodesAll [
  (0x16000802, 0x00000000, .syncs 2), (0x16000C01, 0x00000000, .syncw 1), (0x16001000, 0x00000000, .syncc 0),
    (0x16381400, 0x00000000, .fid 7), (0x1774C000, 0x00000000, .spawn 14 19), (0x17054400, 0x00000000, .signal 21),
    (0x17000800, 0x00000000, .tend), (0x17000C00, 0x00000000, .bar), (0x1753D000, 0x00000000, .barw 10 15),
    (0x17001400, 0x00000000, .bara), (0x17001800, 0x00000000, .yield), (0x17F81C00, 0x00000000, .wear 31),
    (0x18000002, 0x00000000, .enter 2), (0x196800D2, 0x00000000, .cb 13 210), (0x1AA002D9, 0x00000000, .loops 20 729)] = true := by decide

theorem test_decode_vector_integer_1 : decodesAll [
  (0x6C005AF1, 0x00000000, .vadd 11 0 5 10 15 0 1),
    (0x49C0C1C3, 0xC0DE0042, .vaddBcast 2 7 12 1 (.literal 0xC0DE0042)),
    (0x678138D8, 0x00000000, .vsub 9 14 3 8 13 2 0), (0x4141AF57, 0x00000000, .vsubBcast 0 5 10 15 (.const 21)),
    (0x5F0216B1, 0x00000000, .vmul 7 12 1 6 11 0 1), (0x78C28D97, 0x00000000, .vmulBcast 14 3 8 13 (.scalar 5)),
    (0x5683F498, 0x00000000, .vmulh 5 10 15 4 9 2 0),
    (0x70436BC3, 0xC0DE0042, .vmulhBcast 12 1 6 11 (.literal 0xC0DE0042)),
    (0x4E04D271, 0x00000000, .vmulhn 3 8 13 2 7 0 1), (0x6BC44957, 0x00000000, .vmulhnBcast 10 15 4 9 (.const 21)),
    (0x4585B058, 0x00000000, .vmad 1 6 11 0 5 2 0), (0x63452797, 0x00000000, .vmadBcast 8 13 2 7 (.scalar 5)),
    (0x7D069E31, 0x00000000, .vadds 15 4 9 14 3 0 1),
    (0x5AC605C3, 0xC0DE0042, .vaddsBcast 6 11 0 5 (.literal 0xC0DE0042)),
    (0x74877C18, 0x00000000, .vsubs 13 2 7 12 1 2 0), (0x5247E357, 0x00000000, .vsubsBcast 4 9 14 3 (.const 21)),
    (0x6C085AF1, 0x00000000, .vaddsn 11 0 5 10 15 0 1), (0x49C8C197, 0x00000000, .vaddsnBcast 2 7 12 1 (.scalar 5)),
    (0x678938D8, 0x00000000, .vsubsn 9 14 3 8 13 2 0),
    (0x4149AFC3, 0xC0DE0042, .vsubsnBcast 0 5 10 15 (.literal 0xC0DE0042)),
    (0x5F0A16B1, 0x00000000, .vmin 7 12 1 6 11 0 1), (0x78CA8D57, 0x00000000, .vminBcast 14 3 8 13 (.const 21)),
    (0x568BF498, 0x00000000, .vmax 5 10 15 4 9 2 0), (0x704B6B97, 0x00000000, .vmaxBcast 12 1 6 11 (.scalar 5))] = true := by decide

theorem test_decode_vector_integer_2 : decodesAll [
  (0x4E0CD271, 0x00000000, .vminn 3 8 13 2 7 0 1),
    (0x6BCC49C3, 0xC0DE0042, .vminnBcast 10 15 4 9 (.literal 0xC0DE0042)),
    (0x458DB058, 0x00000000, .vmaxn 1 6 11 0 5 2 0), (0x634D2757, 0x00000000, .vmaxnBcast 8 13 2 7 (.const 21)),
    (0x7D0E9E0C, 0x00000000, .vabs 15 4 9 14 3 0), (0x5ACF05AC, 0x00000000, .vand 6 11 0 5 10 3 0),
    (0x748F7C97, 0x00000000, .vandBcast 13 2 7 12 (.scalar 5)), (0x5250E386, 0x00000000, .vor 4 9 14 3 8 1 2),
    (0x6C105AC3, 0xC0DE0042, .vorBcast 11 0 5 10 (.literal 0xC0DE0042)),
    (0x49D1C16C, 0x00000000, .vxor 2 7 12 1 6 3 0), (0x67913857, 0x00000000, .vxorBcast 9 14 3 8 (.const 21)),
    (0x4152AF46, 0x00000000, .vandn 0 5 10 15 4 1 2), (0x5F121697, 0x00000000, .vandnBcast 7 12 1 6 (.scalar 5)),
    (0x78D38D2C, 0x00000000, .vshl 14 3 8 13 2 3 0),
    (0x5693F4C3, 0xC0DE0042, .vshlBcast 5 10 15 4 (.literal 0xC0DE0042)),
    (0x70546B06, 0x00000000, .vshr 12 1 6 11 0 1 2), (0x4E14D257, 0x00000000, .vshrBcast 3 8 13 2 (.const 21)),
    (0x6BD549EC, 0x00000000, .vsra 10 15 4 9 14 3 0), (0x4595B097, 0x00000000, .vsraBcast 1 6 11 0 (.scalar 5)),
    (0x63562701, 0x00000000, .vclz 8 13 2 7 0 1), (0x7D179E0C, 0x00000000, .vpopc 15 4 9 14 3 0),
    (0x5AD805AC, 0x00000000, .vcmp 6 11 0 5 10 3 0), (0x74997C18, 0x00000000, .vcmpn 13 2 7 12 1 2 0),
    (0x525AE386, 0x00000000, .fadd 4 9 14 3 8 1 2)] = true := by decide

theorem test_decode_vector_integer_3 : decodesAll [
  (0x6C1A5AC3, 0xC0DE0042, .faddBcast 11 0 5 10 (.literal 0xC0DE0042))] = true := by decide

theorem test_decode_vector_float : decodesAll [
  (0x49DBC16C, 0x00000000, .fsub 2 7 12 1 6 3 0), (0x679B3857, 0x00000000, .fsubBcast 9 14 3 8 (.const 21)),
    (0x415CAF46, 0x00000000, .fmul 0 5 10 15 4 1 2), (0x5F1C1697, 0x00000000, .fmulBcast 7 12 1 6 (.scalar 5)),
    (0x78DD8D2C, 0x00000000, .ffma 14 3 8 13 2 3 0),
    (0x569DF4C3, 0xC0DE0042, .ffmaBcast 5 10 15 4 (.literal 0xC0DE0042)),
    (0x705E6B06, 0x00000000, .ffms 12 1 6 11 0 1 2), (0x4E1ED257, 0x00000000, .ffmsBcast 3 8 13 2 (.const 21)),
    (0x6BDF49EC, 0x00000000, .fmin 10 15 4 9 14 3 0), (0x459FB097, 0x00000000, .fminBcast 1 6 11 0 (.scalar 5)),
    (0x636027C6, 0x00000000, .fmax 8 13 2 7 12 1 2),
    (0x7D209EC3, 0xC0DE0042, .fmaxBcast 15 4 9 14 (.literal 0xC0DE0042)),
    (0x5AE10508, 0x00000000, .fabs 6 11 0 5 2 0), (0x74A27C06, 0x00000000, .fneg 13 2 7 12 1 2),
    (0x5263E301, 0x00000000, .frcp 4 9 14 3 0 1), (0x6C245A0C, 0x00000000, .frsq 11 0 5 10 3 0),
    (0x49E5C108, 0x00000000, .fexp2 2 7 12 1 2 0), (0x67A63806, 0x00000000, .flog2 9 14 3 8 1 2),
    (0x4167AF46, 0x00000000, .fcmp 0 5 10 15 4 1 2), (0x5F28160C, 0x00000000, .fclass 7 12 1 6 3 0),
    (0x78E98D2C, 0x00000000, .vcvt 14 3 8 13 2 3), (0x56AAF498, 0x00000000, .vscale 5 10 15 4 9 2 0),
    (0x706B6B04, 0x00000000, .vqpack 12 1 6 11 0 1)] = true := by decide

theorem test_decode_vector_other : decodesAll [
  (0x4E2CD210, 0x00000000, .vqunpk 3 8 13 2 1 0), (0x6BED492C, 0x00000000, .vsel 10 15 4 9 2 3),
    (0x45AEB058, 0x00000000, .vperm 1 6 11 0 5 2 0), (0x636F27C4, 0x00000000, .vbcasts 8 13 2 7 12 1),
    (0x7D309E11, 0x00000000, .vredadd 15 4 9 14 1 0 1), (0x5AF1050C, 0x00000000, .vredmax 6 11 0 5 0 3 0),
    (0x74B27C18, 0x00000000, .vshf 13 2 7 12 1 2), (0x52730E30, 0x00000000, .vxtr 4 9 14 3 0),
    (0x6C345A30, 0x00000000, .plog 11 0 5 10 3 0), (0x49F5026C, 0x00000000, .pset 2 7 0 2 6 3),
    (0x67B60300, 0x00000000, .ptst 9 14 3), (0x4177AF44, 0x00000000, .tld 0 5 10 15 4 1),
    (0x5F3816B0, 0x00000000, .tst 7 12 1 6 11 0), (0x78F98D2C, 0x00000000, .tldx 14 3 8 13 2 3 0),
    (0x56BAF498, 0x00000000, .tstx 5 10 15 4 9 2 0), (0x707B6B0D, 0x00000000, .gld 12 1 6 11 0 1),
    (0x4E3CD27C, 0x00000000, .gst 3 8 13 2 7 0), (0x6BFD49EC, 0x00000000, .gldp 10 15 4 9 14 0),
    (0x45BEB050, 0x00000000, .gamoAdd 1 6 11 0 5 0), (0x637E27C4, 0x00000000, .gamoMin 8 13 2 7 12),
    (0x7D3E9E38, 0x00000000, .gamoMax 15 4 9 14 3), (0x5AFE05AC, 0x00000000, .gamoSwap 6 11 0 5 10),
    (0x74BF0000, 0x00000000, .vnop 13 2), (0x527F0100, 0x00000000, .vfence 4 9)] = true := by decide

theorem test_decode_dot : decodesAll [
  (0xAD405800, 0x00000000, .tcfg 11 0 5 2 3), (0x8B022000, 0x00000000, .tzero 2 1 4 1),
    (0xA4C50EC5, 0x00000000, .dot 9 0 3 8 29 34 1), (0x8287E8DD, 0x00000000, .dotc 0 1 2 15 4 1 46 1),
    (0x9C491580, 0x00000000, .sbppt 7 0 1 2 43 0), (0xBA0A9901, 0x00000000, .sbpsc 14 1 0 1 50 1),
    (0x95CC8F00, 0x00000000, .sbpma 5 0 7 4 1 14), (0xB38F600A, 0x00000000, .sbpd 12 1 6 11 0 5 0),
    (0x8D5043D3, 0x00000000, .tout 3 0 5 2 7 10 3), (0xAB132740, 0x00000000, .tin 10 1 4 9 14 8),
    (0x84D412F4, 0x00000000, .fmtw 1 0 3 0 9 7 10 0)] = true := by decide

theorem test_decode_copy : decodesAll [
  (0xE1409380, 0x00000000, .tdef 8 5 18 7), (0xFC42F1C6, 0x00000000, .cpy 15 none 1 30 3 8 1 2),
    (0xD8052D78, 0x00000000, .cpyb 6 none 0 37 10 15 0), (0xF5C760B0, 0x00000000, .cpyx 13 none 7 44 1 6),
    (0xD1899C68, 0x00000000, .cpyr 4 none 6 51 8 13 0 0), (0xED4B5E8D, 0x00000000, .cpye 11 none 5 10 15 4 1 2 1),
    (0xC9CDE000, 0x00000000, .trel 2 7 60), (0xE58FC690, 0x00000000, .qbind 9 6 3 8 13 2),
    (0xC1510000, 0x00000000, .qunb 0 5 2), (0xDD133800, 0x00000000, .qfence 7 4 9 6)] = true := by decide


/-! ### Small states -/

/-- A one-field task of partition 0 on field 0 of core 0, at the first word of its text. -/
def strand0 : Strand :=
  { Strand.idle with
    live := true, sid := 1, recAddr := word (15 * 2 ^ 60 + 0x20000), pc := word (15 * 2 ^ 60 + 0x10000), spLen := 99 }

def base : State := { State.reset with st := strand0, objects := [placeObject 0], nextSid := 2 }

/-- The text begins with these words. -/
def withText (ws : List W32) : State := { base with mem := Memory.putAll [] placeText (ws.map bytesOfWord).flatten }

/-- A scalar register holds a value. -/
def withReg (s : State) (n : BitVec 5) (v : Word) : State := { s with st := s.st.setRs n v }

def privileged (s : State) : State := { s with st := s.st.setSys 0x001 1 }

def inHandler (s : State) : State := { s with st := s.st.setSys 0x001 3 }

/-- The address of a text word. -/
def textVA (k : Nat) : Word := word (15 * 2 ^ 60 + 0x10000 + 4 * k)

/-- The state an instruction leaves. -/
def after (i : Instr) (s : State) : State :=
  match exec i s with
  | .next t => t
  | _ => s

/-- The text with one word marked as a literal. -/
def marked (s : State) (k : Nat) : State := { s with objects := [{ placeObject 0 with lits := [k] }] }

/-- A leaf of page kind k, writable, over HBM frame 2 (address 0x20000). -/
def leafOf (k : Nat) : Word := word (hbmPA 0x20000 + k * 2 ^ 3 + 3)

/-- Page 2 of partition 0 mapped by a cached leaf. -/
def withPage (s : State) (l : Word) : State := { s with tlb := [(0, [⟨0, 2, false, l, false⟩])] }

/-! ### Encoding, arithmetic, control flow -/

theorem witness_decode_of_encode : Instr.encodable (.add 31 0 31) = true ∧ Instr.encodable (.cpy 0 (some 0x82844000) 0 0 0 0 0 0) = true := by decide

/-- A strand at an ADD word, in an agenda that gives its sequencer the next turn. -/
def atAdd : State := { withText [0x00184005] with agenda := [⟨1, .sequencer⟩] }

theorem witness_step_runs_decoded : let u := State.tick { atAdd with agenda := [] } 1
    u.st.live = true ∧ u.st.park = none ∧ u.st.loads = [] ∧ u.st.jobs = [] ∧ u.st.pend = [] ∧ u.st.rollback = none ∧
    u.textAt u.st.part u.st.pc = some (placeObject 0, 0) ∧ decode (u.textWord (placeObject 0) 0) (u.textWord (placeObject 0) 1) = .ok (.div 3 1 0) := by
  decide

theorem test_step_runs : (match step { withReg (withText [0x00104200]) 1 7 with agenda := [⟨1, .sequencer⟩] } with
    | .next t => decide (t.st.rs 2 = 14 ∧ t.st.pc = textVA 1)
    | _ => false) = true := by decide

theorem witness_first_issue : Instr.wf (.vadd 1 2 3 4 5 0 2) = true ∧ stepInstr 0 1 2 3 (.vadd 1 2 3 4 5 0 2) = .vadd 1 2 3 4 5 0 2 := by decide

/-- One place for each way a word flows on: REP, an empty stack, a body's middle, its end with an iteration left, its end. -/
theorem witness_flow : let s := base
    let r : State := { s with st := { s.st with rep := ⟨2, 0, 0, 0, 0⟩ } }
    let l (k n : Nat) : State := { s with st := { s.st with loops := [⟨textVA 0, k, n⟩] } }
    1 < r.st.rep.left ∧ s.st.rep.left ≤ 1 ∧ s.st.loops = [] ∧ s.st.pc + 4 ≠ textVA 0 + word (4 * 2) ∧ s.st.pc + 4 = textVA 0 + word (4 * 1) ∧
    (after (.addi 1 0 1) r).st.pc = textVA 0 ∧ (after (.addi 1 0 1) (l 2 1)).st.pc = textVA 1 ∧
    (after (.addi 1 0 1) (l 1 1)).st.pc = textVA 0 ∧ (after (.addi 1 0 1) (l 1 0)).st.pc = textVA 1 := by decide

/-- Targets that are misaligned, outside the text, a literal, and text. -/
theorem witness_targets : (textVA 0 + 2).toNat % 4 ≠ 0 ∧ base.textAt 0 (textVA 16384) = none ∧ base.textAt 0 (textVA 15) ≠ none ∧
    (marked base 15).textAt 0 (textVA 15) = some ({ placeObject 0 with lits := [15] }, 15) ∧ base.textAt 0 (textVA 15) = some (placeObject 0, 15) ∧
    (after (.jr 1) (withReg base 1 (textVA 15))).st.pc = textVA 15 := by decide

theorem witness_branch : let s := withReg (withReg base 1 5) 2 5
    s.st.rs 1 = s.st.rs 2 ∧ (after (.beq 1 2 15) s).st.pc = textVA 15 ∧ (after (.bne 1 2 15) s).st.pc = textVA 1 := by decide

/-- An ENTER at the target, room in the region, none where fifteen frames are resident and the region is one unit long, and a frame
to be spilled first. -/
theorem witness_call : let s := withText [0x28000002, 0, 0x18000002]
    let full : State := { s with st := { s.st with resident := 15, spLen := 0 } }
    s.textAt 0 (textVA 2) = some (placeObject 0, 2) ∧ s.textWord (placeObject 0) 2 = 0x18000002 ∧
    (s.textWord (placeObject 0) 1).extractLsb' 24 8 ≠ 24 ∧ decode 0x18000002 0 = .ok (.enter 2) ∧ s.st.resident ≠ 15 ∧ s.st.vres + 2 ≤ 31 ∧
    FrameFits s.st ∧ SpillFits s.st 2 ∧ s.spillFault (callFrame s.st) = none ∧ s.spillFault (s.st.enterJobs 2) = none ∧ s.st.linkBusy = false ∧
    ¬ FrameFits full.st ∧ (after (.call 2) s).st.pc = textVA 2 ∧ (after (.call 2) s).st.rs 9 = textVA 1 ∧ (after (.call 2) s).st.wp = 15 ∧
    (let deep (n : Nat) : State := { s with st := { s.st with resident := 15, moved := n } }
     FrameFits (deep 0).st ∧ SpillFits (deep 1).st 2 ∧ (after (.call 2) (deep 0)).st.jobs = [.frameOut 30 0] ∧
       (after (.call 2) (deep 1)).st.pc = textVA 2 ∧ (after (.call 2) (deep 1)).st.sf = 1) := by
  unfold FrameFits SpillFits
  decide

/-- ENTER behind a call, with all blocks resident, and elsewhere. -/
theorem witness_enter : let s : State := { base with st := { strand0 with afterCall := some (textVA 0), vres := 29 } }
    base.st.afterCall = none ∧ s.st.vres + 2 ≤ 31 ∧ (after (.enter 2) s).st.vwp = 8 ∧ (after (.enter 2) s).st.rs 9 = 2 := by decide

theorem witness_ret : let r (f : Strand → Strand) : State := { base with st := f ((strand0.setRs 9 (textVA 3 + 2))) }
    let two := r fun t => { t with resident := 2, wp := 0 }
    let spilled (n : Nat) := r fun t => { t with sf := 1, moved := n }
    base.textAt 0 ((withReg base 9 3).st.rs 9 &&& ~~~3) = none ∧ two.textAt 0 (two.st.rs 9 &&& ~~~3) = some (placeObject 0, 3) ∧
    two.st.leaveJobs 2 = [] ∧ 1 < two.st.resident ∧ (spilled 0).st.resident = 1 ∧ (spilled 0).st.sf ≠ 0 ∧
    (spilled 0).spillFault [.frameIn 225 0] = none ∧ (after .ret two).st.pc = textVA 3 ∧ (after .ret two).st.wp = 225 ∧
    (after .ret (spilled 0)).st.jobs = [.frameIn 225 0] ∧ (after .ret (spilled 1)).st.pc = textVA 3 ∧ (after .ret (spilled 1)).st.sf = 0 := by decide

/-- LOOPS at the depth limit, before a literal, with a REP as the body's last word, with a count, and with none. -/
theorem witness_loops : let s := withReg (withText [0x1A044002, 0, 0x2A000000, 0]) 1 3
    let deep : State := { s with st := { s.st with loops := List.replicate 4 ⟨0, 1, 0⟩ } }
    4 ≤ deep.st.loops.length ∧ (marked s 3).textAt 0 (textVA 3) = some ({ placeObject 0 with lits := [3] }, 3) ∧
    isRepWord (s.textWord (placeObject 0) 2) = true ∧ isRepWord (s.textWord (placeObject 0) 3) = false ∧ s.st.loops.length < 4 ∧
    (s.st.rs 1).toNat % 2 ^ 32 ≠ 0 ∧ (after (.loops 1 3) s).st.loops = [⟨textVA 1, 3, 2⟩] ∧
    (after (.loops 2 3) s).st.pc = textVA 4 := by decide

/-- REP at the end of the text, before a literal, before a word it does not permit, one it steps wrongly, one it repeats, and one of
a permitted form that is ill-formed: that one faults in its own turn. -/
theorem witness_rep : let s (w : W32) := withText [0x2A000000, w]
    base.textAt 0 (textVA 16384) = none ∧ (marked base 1).textAt 0 (textVA 1) = some ({ placeObject 0 with lits := [1] }, 1) ∧
    (s 0).textAt 0 (textVA 1) = some (placeObject 0, 1) ∧
    repForm ((s 0x26000000).textWord (placeObject 0) 1) = none ∧ repForm ((s 0x01084001).textWord (placeObject 0) 1) = some (true, true, false) ∧
    repForm ((s 0x00084200).textWord (placeObject 0) 1) = some (true, true, true) ∧
    (after (.rep 1 0 1 63) (s 0x00084200)).st.rep = ⟨64, 0, 1, 0, 1⟩ ∧
    (let t := after (.rep 0 0 0 1) (s 0x40360010)
     t.st.pc = textVA 1 ∧ t.fetch 0 t.st.pc = .error (0x02, 0)) := by decide

/-! ### Guards, tokens, traps, system words -/

/-- A V command that computes nothing, past its waits, with a captured generation. -/
def nopCmd (g : Option GuardRef) : Cmd :=
  ⟨.v ⟨.nop, 0, 0, 0, .none, .none, .none, 0, 0, 0⟩, textVA 0, 0, g, 0, false, 0, ⟨0, 0, 0, 0⟩, 0, 0, 64, true, false, false, false, false⟩

/-- V commands that hold generations 0 to n of slot 2, of which n is the current one. -/
def heldGens (n : Nat) : State :=
  { base with st := { strand0 with
      guards := strand0.guards.set 2 ⟨.no, n, [], true⟩,
      vq := { Queue.empty with items := (List.range (n + 1)).map fun k => .cmd { nopCmd (some ⟨2, k⟩) with seq := k } } } }

theorem witness_guards : (base.st.guardSlot 2).st ≠ .unresolved ∧ base.st.heldCurrent 2 = false ∧ base.st.guards.length = 8 ∧
    ((after (.gsetUnres 2) base).st.guardSlot 2).st = .unresolved ∧ (heldGens 7).st.heldOlder 2 = 7 ∧ (heldGens 7).st.heldCurrent 2 = true ∧
    (heldGens 6).st.heldOlder 2 = 6 := by decide

theorem witness_guard_judged : (base.st.guardSlot 2).gid = 0 ∧ ((after (.gsetUnres 2) base).st.guardSlot 2).gid = 1 ∧
    (after .guardResolutionVisible (after (.gset 2 0 0 0) base)).st.judge (some ⟨2, 1⟩) = some true ∧
    (after .guardResolutionVisible (after (.gset 2 0 0 1) base)).st.judge (some ⟨2, 1⟩) = some false ∧
    (after .guardResolutionVisible (after (.gsetUnres 2) base)).st.judge (some ⟨2, 1⟩) = none := by decide

/-- A counter at both ends of its range; a wait that has lasted the interval. -/
theorem witness_tokens : strand0.vq = Queue.empty ∧ strand0.dq = Queue.empty ∧ strand0.cq = Queue.empty ∧ strand0.flights = [] ∧
    base.st.headsFirst = strand0 ∧ base.st.reexec = none ∧ (5 : BitVec 3) < 6 ∧ base.st.tok.get (tokOf 5) + (15 : BitVec 5).toNat ≤ 15 ∧
    15 < base.st.tok.get (tokOf 0) + (16 : BitVec 5).toNat ∧ base.st.tok.get (tokOf 5) < (1 : BitVec 5).toNat ∧
    (0 : BitVec 5).toNat ≤ base.st.tok.get (tokOf 5) ∧ (after (.tkp 5 15) base).st.tok.get (tokOf 5) = 15 ∧
    (let s : State := { base with st := { strand0 with stall := some (.token (tokOf 5)), cyc := Config.watchdog } }
     s.st.live = true ∧ s.st.park = none ∧ s.st.stallAt + Config.watchdog ≤ s.st.cyc ∧ (after .tkwWatchdog s).st.sysv 0x042 = 5 ∧
       (after .tkwWatchdog s).st.sysv 0x040 = 0x0E) := by decide

theorem witness_trap_entry : base.st.intrap = false ∧ base.st.resident < 15 ∧ base.st.jobs = [] ∧ base.st.rep.left ≤ 1 ∧ base.st.loops = [] ∧
    (0x16 : Nat) ≠ 0x05 ∧ (0x16 : Nat) ≠ 0x0D ∧ (inHandler base).st.intrap = true ∧
    (let full : State := { base with st := { strand0 with resident := 15, spLen := 0 } }
     full.st.intrap = false ∧ full.st.resident = 15 ∧ 64 * (full.st.spLen + 1) < 120 * (full.st.sf + 1) + 256 * full.st.vb) := by decide

theorem test_trap : let t := after (.trap 1023) base
    t.st.sysv 0x040 = 0x3FF00014 ∧ t.st.sysv 0x041 = textVA 0 ∧ t.st.sysv 0x043 = textVA 1 ∧ t.st.status = 3 ∧ t.st.pc = word (15 * 2 ^ 60) ∧ t.st.wp = 15 := by
  decide

/-- A handler that returns under each ACTION, the V queue stopped with a command at its head. -/
theorem witness_eret : let h (action : Nat) : State := { base with st := { (inHandler base).st.setSys 0x040 (word (action * 2 ^ 34 + 2 ^ 32)) with
      resident := 2, vq := ⟨some (nopCmd none), [], true, []⟩ } }
    base.st.intrap = false ∧ (h 1).st.intrap = true ∧ 1 < (h 1).st.resident ∧ ((h 1).st.sysv 0x040).toNat / 2 ^ 34 % 4 ≠ 2 ∧
    ((h 2).st.sysv 0x040).toNat / 2 ^ 34 % 4 = 2 ∧ srcQueue (((h 1).st.sysv 0x040).toNat / 2 ^ 32 % 4) = some .V ∧
    (after .eretDiscard (h 1)).st.vq.cur.map (·.dropped) = some true ∧ (after .eretResume (h 0)).st.vq.cur.map (·.dropped) = some false ∧
    (after .eretEnd (h 2)).st = Strand.idle := by decide

theorem witness_srd : sysAccess 0x00E = none ∧ sysAccess 0x048 = some .p ∧ base.st.priv = false ∧ sysAccess 0x00A = some .ro ∧
    base.st.live = true ∧ base.st.mbPending = false ∧
    ({ strand0 with vq := { Queue.empty with items := [.cmd { nopCmd none with pay := .v ⟨.xtr, 0, 0, 0, .none, .reg 0, .none, 0, 0, 0⟩ }] } } : Strand).mbPending = true := by
  decide

theorem witness_swr : sysAccess 0x00E = none ∧ sysAccess 0x000 = some .ro ∧ sysAccess 0x051 = some .p ∧ (privileged base).st.priv = true ∧
    (0x1F07 &&& ~~~0x1F07 : Word) = 0 ∧ (0x2000 &&& ~~~0x1F07 : Word) ≠ 0 ∧ base.st.queuesEmpty = true ∧ (heldGens 0).st.queuesEmpty = false ∧
    (0xFFFFFF : Word).toNat < 2 ^ 24 ∧ (after (.swr 1 0x001) (withReg base 1 0x1F04)).st.status = 0x1F04 ∧
    (after (.swr 1 0x008) (privileged (withReg base 1 0x123456))).st.tok = ⟨6, 5, 4, 3, 2, 1⟩ := by decide

/-- Two loads on their way, one of kind S and one of kind U. -/
def pending (kind : Nat) : PendLoad := ⟨16, 0x20000, word (15 * 2 ^ 60 + 0x20000), textVA 0, kind, 8, true, false, false, none, 0, false, 0, 0⟩

/-- A write of the strand in the outbound buffer. -/
def buffered : LineWrite := ⟨0x20000, [(0x20000, 1)], 1, 1, textVA 0, [], 0, 0⟩

theorem witness_fence : base.st.loads = [] ∧ base.releaseBlocked base.st [0, 1, 2] = false ∧ base.releaseBlocked base.st [0, 1] = false ∧
    (pending 0).kind ≠ 2 ∧ (let s : State := { base with outbound := [(0, [buffered])] }
      s.releaseBlocked s.st [0, 1] = true ∧ s.releaseBlocked s.st [0, 1, 2] = true) ∧
    ({ base with st := { strand0 with loads := [pending 0] } } : State).st.loads ≠ [] := by decide

/-- WFE with nothing changed, a counter changed, and at its limit. -/
theorem witness_wfe : let w (n : Nat) : State := { base with st := { strand0 with stall := some (.wfe 0), cyc := n } }
    base.st.stall = none ∧ base.syncBits base.st = 0 ∧ (w 0).st.cyc < 0 + 4096 ∧ 0 + 4096 ≤ (w 4096).st.cyc ∧ (w 0).st.pend = [] ∧ (w 0).st.saveReq = false ∧
    (w 0).st.wake = false ∧ ((w 0).putSync 1 true).st.wake = true ∧ (after .wfe ((w 0).putSync 1 true)).st.pc = textVA 1 ∧
    (after .wfe (w 4095)).st.pc = textVA 0 ∧ (after .wfe (w 4096)).st.pc = textVA 1 ∧ (after .wfeTimeout (w 4096)).st.pc = textVA 1 := by decide

theorem witness_refd : let s (v : Word) := privileged (withReg base 1 v)
    base.st.priv = false ∧ (s 0x300000000).st.priv = true ∧ ((s 0x300000000).st.rs 1).toNat / 2 ^ 32 % 4 = 3 ∧
    ((s 0x10000).st.rs 1).toNat / 2 ^ 16 % 2 ^ 16 ≠ 0 ∧ ((s 0x200008001).st.rs 1).toNat / 2 ^ 32 < 3 ∧ 0 ∈ base.st.grid ∧
    (s 0x8001).bankAtGuard 0 ((s 0x8001).bankAt 0 15) = false ∧ ((after (.refdDefer 1) (s 0x8001)).bankAt 0 15).deferred = true ∧
    ((after (.refdRefreshNow 1) (s 0x200008001)).bankAt 0 15).running = true ∧
    ((after (.refdRelease 1) (s 0x100008001)).bankAt 0 0).deferred = false := by decide +kernel

theorem witness_inval : let s := withPage (privileged (withReg base 1 (word (15 * 2 ^ 60 + 0x2FFFF)))) (leafOf 1)
    base.st.priv = false ∧ s.st.priv = true ∧ (s.st.rs 1).toNat / 2 ^ 60 = 15 ∧ (s.st.rs 1).toNat / 2 ^ 55 % 2 ^ 5 = 0 ∧ s.st.stall = none ∧
    s.others = [] ∧ s.st.loads = [] ∧ s.releaseBlocked s.st [0, 1, 2] = false ∧ s.st.cq = Queue.empty ∧ (0 : Word).toNat / 2 ^ 60 ≠ 15 ∧
    (after (.inval 1) s).tlb = [] := by decide

/-! ### Memory and atomics -/

theorem queue_ok {s : State} (h : Nat) (q : s.homeq = []) : HomeQueueOk s h := by
  intro e he
  rw [State.homeQ, q] at he
  exact (List.not_mem_nil he).elim

/-- A tower address of the strand's own cells. -/
def tower (off : Nat) : Word := word (14 * 2 ^ 60 + off)

/-- Page 2 of the partition, kind k. -/
def pageVA (off : Nat) : Word := word (15 * 2 ^ 60 + 0x20000 + off)

def paged (k : Nat) : State := withPage base (leafOf k)

def onControl : State := withPage base (word (255 * 2 ^ 48 + 3 * 2 ^ 45 + 2 ^ 6 * 4 + 2 * 2 ^ 3 + 3))

def loading (l : PendLoad) : State := { base with st := { strand0 with loads := [l] } }

/-- A load: inside and outside the space, misaligned, on an absent page, on a control page, on a tower, behind an overlapping load, on
poison, and in another package. -/
theorem witness_loads : (((14 * 2 ^ 60 : Word).toNat % 2 ^ 60 : Nat) : Int) + (0x7FF : BitVec 11).toInt < 0 ∧
    (2 ^ 60 : Int) ≤ ((word (15 * 2 ^ 60 + (2 ^ 60 - 1))).toNat % 2 ^ 60 : Nat) + (1 : BitVec 11).toInt ∧ base.st.reexec = none ∧
    (tower 3).toNat % 2 ^ 60 % 2 ≠ 0 ∧ base.check base.st base.st.anchor (tower (2 ^ 21)) 8 .load = .fault 0x05 2 ∧
    base.check base.st base.st.anchor (pageVA 0) 8 .load = .absent 0 ∧ base.check base.st base.st.anchor (tower (2 ^ 21 - 8)) 8 .load = .ok (towerPA 0 (2 ^ 21 - 8)) 1 false false ∧
    (paged 2).check base.st 0 (pageVA 8) 8 .load = .ok (hbmPA 0x20008) 2 false false ∧
    (loading (pending 1)).accessWait (loading (pending 1)).st 0x20000 8 1 = some .interlock ∧
    base.accessWait base.st (towerPA 0 0) 8 1 = none ∧ paIsControl (255 * 2 ^ 48 + 3 * 2 ^ 45) = true ∧
    onControl.check base.st 0 (pageVA 8) 8 .load = .ok (255 * 2 ^ 48 + 3 * 2 ^ 45 + 8) 2 false false ∧
    ({ base with poison := [(towerPA 0 8, true)] } : State).firstPoison 0 (towerPA 0 8) 8 = some (towerPA 0 8) ∧
    base.firstPoison 0 (towerPA 0 8) 8 = none ∧ base.st.win = none ∧ paPackage 0x20000 ≠ 255 := by decide +kernel

theorem witness_near : NearHome (towerPA 0 8) := by unfold NearHome; decide

/-- LD.b sign-extends, LD.bn does not. -/
theorem test_load : let s : State := { withReg base 1 (tower 8) with mem := [(towerPA 0 9, 0x80)] }
    (after (.ld 2 1 0 1) s).st.rs 2 = 0xFFFFFFFFFFFFFF80 ∧ (after (.ld 2 1 4 1) s).st.rs 2 = 0x80 := by decide +kernel

/-- A store to a tower, to a page of kind U outside the core, to an S page, to a page that may not be written. -/
theorem witness_stores : base.check base.st base.st.anchor (tower 8) 8 .store = .ok (towerPA 0 8) 1 false false ∧ towerPA 0 8 % 8 = 0 ∧
    homeInCore 0 (towerPA 0 8) = true ∧ (paged 1).check base.st 0 (pageVA 8) 8 .store = .ok (hbmPA 0x20008) 1 false false ∧
    homeInCore 0 (hbmPA 0x20000) = false ∧ (paged 0).check base.st 0 (pageVA 8) 8 .store = .ok (hbmPA 0x20008) 0 false false ∧
    (base.outQ base.st.coreIdx).length < 64 ∧ (base.homeQ (homeOf (hbmPA 0x20008))).length < 64 ∧
    (withPage base (leafOf 1 - 2)).check base.st 0 (pageVA 8) 8 .store = .fault 0x05 2 := by decide +kernel

/-- A halfword store to a tower stands at its home; to a U page it stands in the outbound buffer. -/
theorem test_store : let s := withReg (withReg base 1 (tower 8)) 2 0xABCD
    (after (.st 2 1 1 2) s).homeByte (towerPA 0 10) = 0xCD ∧ (after (.st 2 1 1 2) s).homeByte (towerPA 0 11) = 0xAB ∧
    (let t := after (.st 2 1 1 2) (withReg (withReg (paged 1) 1 (pageVA 8)) 2 0xABCD)
     t.homeByte (hbmPA 0x2000A) = 0 ∧ t.coreByte 0 (hbmPA 0x2000A) = 0xCD ∧ t.coreByte 1 (hbmPA 0x2000A) = 0) := by decide +kernel

theorem witness_atomics : (∀ p, towerPA 0 8 ≤ p → p < towerPA 0 8 + 8 → base.homePoison p = false) ∧ HomeQueueOk base (homeOf (towerPA 0 8)) ∧
    base.amoWait base.st (towerPA 0 8) 8 1 6 3 = none ∧
    (loading (pending 1)).amoWait (loading (pending 1)).st 0x20000 4 1 0 0 = some .interlock ∧ base.late = [] ∧
    base.check base.st base.st.anchor (tower 8) 8 .atomic = .ok (towerPA 0 8) 1 false false ∧
    onControl.amoWait base.st (255 * 2 ^ 48 + 3 * 2 ^ 45 + 8) 8 2 0 0 = none :=
  ⟨fun p h1 h2 => by
    have h : ∀ n, n < 8 → base.homePoison (towerPA 0 8 + n) = false := by decide +kernel
    have e : p = towerPA 0 8 + (p - towerPA 0 8) := by omega
    rw [e]
    exact h _ (by omega), queue_ok _ rfl, by decide, by decide, rfl, by decide, by decide⟩

/-- AMO.ADDW returns the old word sign-extended and stores the sum; a CAS whose compare fails writes nothing. -/
theorem test_amo : let s : State := { withReg (withReg base 1 (tower 8)) 2 1 with mem := [(towerPA 0 11, 0x80)] }
    (after (.amoAddw 3 1 2 0 0) s).st.rs 3 = 0xFFFFFFFF80000000 ∧ (after (.amoAddw 3 1 2 0 0) s).homeByte (towerPA 0 8) = 1 ∧
    (after (.amoCas 3 1 2 0 0) s).st.rs 3 = 0x80000000 ∧ (after (.amoCas 3 1 2 0 0) s).mem = s.mem := by decide +kernel

/-- A request to add one to a tower doubleword, and one to a package that cannot be reached. -/
def request (pa : Nat) : AtomReq := ⟨0, pa, tower 8, 0, 3, 1, [⟨1, 16, none, textVA 0, 1, 0⟩], 0⟩

def requested : State := { loading { pending 1 with pa := towerPA 0 8, amo := true, held := true } with net := [request (towerPA 0 8), request (towerPA 0 8)] }

theorem witness_requests : requested.sameSource (request (towerPA 0 8)) (request (towerPA 0 8)) = true ∧ requested.net[1]? = some (request (towerPA 0 8)) ∧
    (after (.homeAtomic 1) requested).replies = [] ∧ requested.net[0]? = some (request (towerPA 0 8)) ∧ requested.reachable (towerPA 0 8) = true ∧
    requested.reachable (200 * 2 ^ 48) = false ∧ towerPA 0 8 % amoSize 0 = 0 ∧ requested.amoPoison 0 (towerPA 0 8) = none ∧
    amoNew 0 (word (homeValue requested (towerPA 0 8) 8)) 1 0 = some 1 ∧ amoMerges 0 = true ∧ (request 0).parts.length + (request 0).parts.length ≤ 16 ∧
    amoNew 0 1 1 0 = some 2 ∧ ((after (.routerMerge 0 1) requested).net.map (·.operand)) = [2] ∧
    (let t := after (.homeAtomic 0) requested
     t.replies.map (·.old) = [0] ∧ t.homeByte (towerPA 0 8) = 1 ∧ (after .mergedReplySplit t).st.loads = [] ∧
       (after .mergedReplySplit t).st.pc = textVA 1) := by decide +kernel

theorem witness_writes_home : buffered.ok ∧ ({ base with outbound := [(0, [buffered])] } : State).outQ (coreIndex 0 0) = [buffered] ∧
    (base.homeQ (homeOf 0x20000)).length < 64 ∧ (pending 1).amo = false ∧ base.reachable (towerPA 0 8) = true ∧ base.st.win = none ∧
    HomeQueueOk ({ base with homeq := [(32768, [{ buffered with line := hbmPA 0, bytes := [(hbmPA 1, 7)] }])] } : State) 32768 := by
  refine ⟨⟨by decide, by decide⟩, by decide, by decide, rfl, by decide, rfl, ?_⟩
  intro e he
  have h : e = { buffered with line := hbmPA 0, bytes := [(hbmPA 1, 7)] } := List.mem_singleton.1 he
  subst h
  exact ⟨by decide, by decide, by decide, by decide⟩

/-- An outbound entry reaches its home, and the merge moves it to the array; a load that returns behind writes its register. -/
theorem test_memory_events : let s : State := { base with outbound := [(0, [{ buffered with line := hbmPA 0, bytes := [(hbmPA 1, 7)] }])] }
    (let t := after (.outboundDrain 0 0 0) s
     t.outbound = [] ∧ t.homeByte (hbmPA 1) = 7 ∧ t.mem = [] ∧ (after (.homeWriteMerge 32768) t).mem = [(hbmPA 1, 7)]) ∧
    (let l := loading { pending 1 with pa := towerPA 0 8, size := 1 }
     SMap.get 0 (after (.loadValueReturn 0) { l with mem := [(towerPA 0 8, 0xFF)] }).st.sregs 16 = 0xFFFFFFFFFFFFFFFF) := by decide +kernel

/-! ### Fields, tasks, barriers -/

/-- A gang of two on fields 0 and 1. -/
def gang2 : State := { base with st := { strand0 with gang := 1 } }

/-- Its two strands, the lead executing. -/
def forked2 (joined : Bool) : State :=
  { base with
    st := { strand0 with gang := 1, forked := true },
    others := [{ strand0 with gang := 1, forked := true, sid := 2, gidx := 1, field := 1, atJoin := joined }] }

theorem witness_fork_join : base.st.gang = 0 ∧ base.textAt 0 (base.st.pc + BitVec.ofInt 64 (((2 : Word).extractLsb' 0 16).toInt * 4)) = some (placeObject 0, 2) ∧
    base.textAt 0 (textVA 16384) = none ∧ (marked base 2).textAt 0 (textVA 2) = some ({ placeObject 0 with lits := [2] }, 2) ∧
    gang2.st.gang ≠ 0 ∧ gang2.st.forked = false ∧ gang2.st.drained = true ∧ (heldGens 0).st.drained = false ∧ gang2.st.loads = [] ∧
    (forked2 true).st.drained = true ∧ (forked2 true).st.gidx = 0 ∧ gangFields 1 = 2 ∧
    (let t := after (.fork 1) (withReg gang2 1 0x00050002)
     t.st.pc = textVA 2 ∧ t.others.map (·.pc) = [textVA 5] ∧ t.others.map (·.field) = [1]) ∧
    (after .join (forked2 false)).st.stall = some .join ∧ (after .join (forked2 true)).st.pc = textVA 1 ∧ (after .join (forked2 true)).others = [] := by decide +kernel

theorem witness_sync : 2 * gangFields base.st.gang ≤ (2 : BitVec 3).toNat ∧ (1 : BitVec 3).toNat < 2 * gangFields base.st.gang ∧ base.st.loads = [] ∧
    (SMap.get 0 base.sync base.st.coreIdx).getLsbD 1 = false ∧ (after (.syncs 1) base).sync = [(0, 2)] ∧
    (SMap.get 0 ({ base with sync := [(0, 2)] } : State).sync base.st.coreIdx).getLsbD 1 = true ∧
    (after (.syncc 1) { base with sync := [(0, 3)] }).sync = [(0, 1)] := by decide

/-- A partition with core 0, an S page for records, and register 1 at a record whose DEP is n. -/
def atRecord (n : Nat) : State :=
  { withReg (withPage base (leafOf 0)) 1 (pageVA 0) with partOf := [(0, 16)], mem := if n = 0 then [] else [(hbmPA 0x20024, BitVec.ofNat 8 n)] }

theorem witness_records : (atRecord 0).recordAddr strand0 (pageVA 1) = .fault 0x04 ∧ base.recordAddr strand0 (pageVA 0) = .absent 0 ∧
    (atRecord 0).recordAddr strand0 (pageVA 0) = .found (hbmPA 0x20000) ∧ (atRecord 0).recPoison (hbmPA 0x20000) spawnWords = none ∧
    ({ atRecord 0 with poison := [(hbmPA 0x20020, true)] } : State).recPoison (hbmPA 0x20000) [4] = some (hbmPA 0x20020) ∧
    (atRecord 0).issuedOpen strand0 0 = false ∧ (loading (pending 1)).issuedOpen (loading (pending 1)).st 0 = true ∧
    (atRecord 0).liveRecords 0 0 < 4096 ∧ (atRecord 0).badRecord 0 0 (hbmPA 0x20000) = false ∧ base.badRecord 0 0 (hbmPA 0x20000) = true ∧
    hbmPA 0x20000 % 128 = 0 ∧ 2 ≤ ((atRecord 2).recWord (hbmPA 0x20000) 4).toNat / 2 ^ 32 := by decide +kernel

/-- SPAWN answers 0 and 1; SIGNAL takes one from DEP. -/
theorem test_spawn : (after (.spawn 2 1) (atRecord 0)).st.rs 2 = 0 ∧ (after (.spawn 2 1) (atRecord 0)).recs.map (·.state) = [2] ∧
    (after (.spawn 2 1) (atRecord 1)).st.rs 2 = 1 ∧ (after (.spawn 2 1) (atRecord 1)).recs.map (·.state) = [1] ∧
    ((after (.signal 1) (atRecord 2)).recWord (hbmPA 0x20000) 4).toNat / 2 ^ 32 = 1 := by decide +kernel

theorem witness_tend : (forked2 false).st.forked = true ∧ base.st.forked = false ∧ base.st.drained = true ∧ (heldGens 0).st.drained = false ∧
    base.issuedOpen base.st base.time = false ∧ (loading (pending 1)).issuedOpen (loading (pending 1)).st 0 = true ∧ base.st.ctxa = 0 ∧
    base.yieldsTo = false ∧ (after .tend base).st = Strand.idle := by decide

/-- A domain of two members at the core, one of them this strand, with n arrivals and phase p. -/
def inDomain (n p : Nat) (f : Strand → Strand) : State :=
  { base with
    st := f (strand0.setSys 0x004 (word (2 * 2 ^ 32 + 7 * 2 ^ 8 + 1))),
    domains := [⟨1, 7, 0, 2, [1, 2], 0, n, p, false, [], 0⟩] }

theorem witness_barriers : base.barrierFault = true ∧ domMembers base.st.dom = 0 ∧ (inDomain 0 0 id).barrierFault = false ∧
    (inDomain 0 0 id).domainOf (inDomain 0 0 id).st = some ⟨1, 7, 0, 2, [1, 2], 0, 0, 0, false, [], 0⟩ ∧ (inDomain 0 0 id).st.pendBit = false ∧
    (let arrived (p : Nat) := inDomain 1 p fun t => { t with pendBit := true }
     let limit (n : Nat) := inDomain 1 0 fun t => { t with pendBit := true, stall := some (.barrier (some n)) }
     (arrived 1).barrierFault = false ∧ (arrived 1).st.phase < 1 ∧ (arrived 0).st.arriving = none ∧
       (after .bar (arrived 1)).st.pc = textVA 1 ∧ (after .bar (arrived 0)).st.stall = some (.barrier none) ∧
       0 ≤ (limit 0).now ∧ (limit 1).now < 1 ∧ (after (.barw 2 1) (limit 0)).st.rs 2 = 1 ∧ (after .barwLimitExpiry (limit 1)).st.pc = textVA 0) ∧
    (after .bara (inDomain 0 0 id)).domains.map (·.arrived) = [1] ∧ (after .bara (inDomain 1 0 id)).domains.map (·.phase) = [1] ∧
    (inDomain 0 0 fun t => { t with arriving := some (0, 0) }).issuedOpen strand0 0 = false ∧ base.st.enqueuedOpen 0 = false ∧ (heldGens 0).st.enqueuedOpen 1 = true ∧
    (let late := inDomain 0 0 fun t => { t with arriving := some (0, 0), loads := [pending 1] }
     late.issuedOpen late.st 0 = true) ∧
    (after .barrierArrival (inDomain 0 0 fun t => { t with arriving := some (0, 0) })).domains.map (·.arrived) = [1] := by decide +kernel

/-! ### Engine words, queue heads, engines -/

/-- A command at the head of a queue, past its waits. -/
def headCmd (p : Payload) : Cmd := { nopCmd none with pay := p }

def atV (v : VCmd) : State := { base with st := { strand0 with vq := ⟨some (headCmd (.v v)), [], false, []⟩ } }

def atD (op : DOp) : State := { base with st := { strand0 with dq := ⟨some (headCmd (.d op)), [], false, []⟩ } }

def atC (op : COp) : State := { base with st := { strand0 with cq := ⟨some (headCmd (.c op none)), [], false, []⟩ } }

theorem witness_engine_words : base.st.reexec = none ∧ base.st.room .V 1 = true ∧ base.st.room .D 1 = true ∧ base.st.room .C 1 = true ∧
    (heldGens 255).st.room .V 1 = false ∧ (after (.vadd 0 0 1 2 3 0 0) (heldGens 255)).st.stall = some .queueFull ∧ base.st.openWindow.room .D 1 = true ∧
    base.st.openWindow.room .C 1 = true ∧ base.st.rep.made = 0 ∧ Instr.wf (.dot 0 1 0 3 1 2 0) = true ∧
    dotWord (.dot 0 1 0 3 1 2 0) = some ⟨.D, .d (.dot 3 1 2 0), 0, 0, true, 4⟩ ∧ decode 0x82844000 0 = .ok (.dot 0 1 2 2 0 0 0) ∧
    decode 0x80844000 0 = .ok (.dot 0 0 2 2 0 0 0) ∧ dotWord (.dot 0 0 2 2 0 0 0) = some ⟨.D, .d (.dot 2 0 0 0), 0, 2, false, 4⟩ := by decide +kernel

/-- A word enqueued behind its queue, with the guard generation of the enqueue. -/
theorem test_engine_word : ((after (.tzero 5 0 3 9) base).st.dq.items = [.cmd ⟨.d (.tzero 9), textVA 0, 5, some ⟨3, 0⟩, 0, false, 0, ⟨0, 0, 0, 0⟩, 0, 0, 64, false, false, false, false, false⟩]) ∧
    ((after (.dot 0 1 0 3 1 2 0) base).st.win.isSome = true) ∧ (after (.qbind 0 0 2 1 2 3) base).st.qname = [false, false, true, false] ∧
    (after (.cpy 0 (some 0x80844000) 0 1 2 3 0 0) base).st.pc = textVA 2 := by decide +kernel

/-- Bodies that hold a word LOOPB does not permit, with a count of zero, and with one iteration more to come. -/
theorem witness_loopb : let s (w : W32) := withReg (withText [0x2C000000, w]) 1 2
    (s 0).outerBody (textVA 1) 1 1 0 false = .error (1, textVA 1) ∧ (s 0x4000C120).fetch 0 (textVA 1) = .ok (.vadd 0 0 12 1 2 0 0) ∧
    ((s 0x4000C120).outerBody (textVA 1) 1 1 0 false).toOption.isSome = true ∧ ((s 0).st.rs 1).toNat % 2 ^ 32 ≠ 0 ∧
    ((s 0).st.rs 2).toNat % 2 ^ 32 = 0 ∧ (s 0x4000C120).st.room .V 1 = true ∧
    (after (.loopb 1 0 0 0 1) (s 0x4000C120)).st.vq.items.length = 1 ∧ (after (.loopb 2 0 0 0 1) (s 0x4000C120)).st.vq.items = [] := by decide +kernel

/-- A share whose iteration is done; a head that lacks a token for the interval; a command to be discarded. -/
theorem witness_queue_heads : let o (n : Nat) : Outer := ⟨3, [.cmd (nopCmd none)], [], 2, n, 0⟩
    let share (n : Nat) : State := { base with st := { strand0 with vq := { Queue.empty with items := [.outer (o n)] } } }
    let lacks : State := { base with st := { strand0 with cyc := Config.watchdog + 5, dq := ⟨some { nopCmd none with pay := .d (.tzero 1), tok := 8, waited := false, since := 5 }, [], false, []⟩ } }
    let gone : State := { base with st := { strand0 with dq := ⟨some { nopCmd none with pay := .d (.tzero 1), dropped := true }, [], false, []⟩ } }
    (share 0).st.live = true ∧ (share 0).st.vq.cur = none ∧ (o 0).todo = [] ∧ (o 0).iter + 1 < (o 0).count ∧ (o 1).count ≤ (o 1).iter + 1 ∧
    (after (.loopbIteration .V) (share 0)).st.vq.items.length = 1 ∧ (after (.loopbIteration .V) (share 1)).st.vq.items = [] ∧
    (match (lacks.st.stage .D).2 with | .lacks _ => true | _ => false) = true ∧ (lacks.st.stage .D).1.cyc = Config.watchdog + 5 ∧ (5 : Nat) ≠ 2 ^ 64 ∧
    (lacks.st.stage .D).1.dq.cur.map (·.since) = some 5 ∧ ((after (.tokenWatchdog .D) lacks).st.pend.map (·.code)) = [0x0E] ∧
    (gone.st.dq.cur.map (·.dropped)) = some true ∧ gone.st.queueOff .D = false ∧ gone.st.win = none ∧ gone.st.replay = [] ∧
    (after (.commandDiscard .D) gone).st.dq.cur = none ∧
    (let v : State := { base with st := { strand0 with vq := ⟨some { nopCmd none with dropped := true }, [], false, []⟩ } }
     (v.st.vq.cur.map (·.dropped)) = some true ∧ v.st.queueOff .V = false ∧ (after (.commandDiscard .V) v).st.vcyc = 1) := by decide +kernel

/-- MULH of the most negative bytes, and of their broadcast, at an undisturbed V head. -/
theorem witness_lanes : let v : VCmd := ⟨.mulh, 0, 0, 0, .vec 5, .reg 3, .bcast 0x7F, 0, 0, 0⟩
    (atV v).st.queueOff .V = false ∧ (atV v).st.fencedOff .V (headCmd (.v v)) = false ∧ (atV v).st.flights = [] ∧ (atV v).st.cq = Queue.empty ∧
    (laneInt 8 .mulh 0 0 0).isSome = true ∧ (laneInt 16 .mulh 0 0 0).isSome = true ∧ (laneInt 32 .mulh 0 0 0).isSome = true ∧
    (let t := after (.vIssue 0) { atV v with vregs := [(vKey 0 3, 0x80)] }
     t.elem 0 5 0 8 0 = 0xC0 ∧ t.st.vq.cur = none) := by decide +kernel

/-- A V result on its way with a flag and a mailbox value; one that met poison, with a V command issued since. -/
theorem witness_results : let f : Flight := ⟨nopCmd none, .none, [], 0, false, false, 0x11, some 9, 0, false, none, 0, none, [], []⟩
    let s : State := { base with st := { strand0 with flights := [f] } }
    s.st.live = true ∧ s.st.park = none ∧ f.landed = false ∧ (after .vPerformed s).st.status = 0x1100 ∧ (after .vPerformed s).st.sysv 0x005 = 9 ∧
    (let p : State := { base with st := { strand0 with flights := [{ f with poison := some (textVA 9), later := 1 }] } }
     (after .vPerformed p).st.vq.stopped = true ∧ (after .vPerformed p).st.pend = [⟨0x0C, 1, 1, textVA 0, textVA 9, 0, 0, ⟨0, 0, 0, 0⟩, false⟩]) := by decide +kernel

/-- Two READY INT8 tiles and the format-table entry that names INT8, INT8 and INT32. -/
def dotState (op : DOp) : State :=
  { atD op with st := { ((atD op).st.setSys 0x020 (3 * 2 ^ 9 + 3 * 2 ^ 5 + 1)) with
      tiles := [(1, ⟨.ready, 0, 8, 0, 3, none⟩), (2, ⟨.ready, 8, 8, 0, 3, none⟩)] } }

theorem witness_dot : (dotState (.dot 0 1 2 0)).st.queueOff .D = false ∧ (dotState (.dot 0 1 2 0)).st.win = none ∧
    (dotState (.dot 0 1 2 0)).st.sysv 0x020 = 3 * 2 ^ 9 + 3 * 2 ^ 5 + 1 ∧ (dotState (.dot 0 1 2 0)).st.shape = 0 ∧
    ((dotState (.dot 0 1 2 0)).st.tile 1).tag = 3 ∧ 16 * (dotState (.dot 0 1 2 0)).st.kstep ≤ 64 * ((dotState (.dot 0 1 2 0)).st.tile 1).len ∧
    (dotState (.dot 0 1 2 0)).homePoison (towerPA 0 1023) = false ∧ (after .dPerformed (atD (.fmtw 15 0xFF))).st.sysv 0x02F = 0xFF ∧
    (after .dPerformed (atD (.tcfg 3 1))).st.kstep = 64 ∧ (after .dPerformed (atD (.tzero 15))).st.dq.cur = none := by decide +kernel

/-- A D head that waits for a tile still empty, for the interval; one that meets poison. -/
theorem witness_dot_stops : let s : State := dotState (.dot 0 1 2 0)
    let w : State := { s with st := { s.st with cyc := Config.watchdog, dq := ⟨some { headCmd (.d (.dot 0 1 2 0)) with on := 2 }, [], false, []⟩,
                                                 tiles := [(1, ⟨.ready, 0, 8, 0, 3, none⟩), (2, ⟨.filling, 8, 8, 0, 3, none⟩)] } }
    let p : State := { s with poison := [(towerPA 0 0, true)] }
    (match (w.st.stage .D).2 with | .perform c => decide (c.on = 2 ∧ State.dCheck { w with st := (w.st.stage .D).1 } (.dot 0 1 2 0) c = .wait 2) | _ => false) = true ∧
    ((after .tileWaitWatchdog w).st.pend.map (·.code)) = [0x12] ∧
    State.tilePoison { p with st := (p.st.stage .D).1 } (.dot 0 1 2 0) (headCmd (.d (.dot 0 1 2 0))) = some (1, 0) ∧
    (after .dPoisonConsumed p).st = Strand.idle ∧ State.tilePoison s (.dot 0 1 2 0) (headCmd (.d (.dot 0 1 2 0))) = none := by decide +kernel

/-- TREL of a tile defined and of one never defined, TDEF with a reserved tag, QBIND and QUNB, a marker. -/
theorem witness_copy_queue : (atC (.trel 1)).st.queueOff .C = false ∧ (atC (.trel 1)).st.fencedOff .C (headCmd (.c (.trel 1) none)) = false ∧
    (atC (.trel 1)).st.win = none ∧ (atC (.trel 1)).st.cheld = none ∧ ((atC (.trel 1)).st.tile 1).len = 0 ∧ tdefFault (11 * 2 ^ 33) = some (0x01, 0) ∧
    tdefFault (10 * 2 ^ 33 + (2 ^ 15 - 1)) = none ∧ tdefFault (2 ^ 15 + (2 ^ 15 - 1)) = some (0x05, 2 ^ 21 + 64) ∧
    qbindFault (14 * 2 ^ 60) 0x10001 0 = none ∧ (atC (.qunb 3 0)).st.pendingPops (headCmd (.c (.qunb 3 0) none)) 3 = false ∧
    (after .copyBegin (atC (.tdef 63 (2 ^ 15)))).st.tiles = [(63, ⟨.empty, 0, 2, 0, 0, none⟩)] ∧
    ((after .copyBegin (atC (.trel 1))).st.pend.map (·.code)) = [0x12] ∧ (after .invalMarker (atC (.marker 0 2))).st.cq.cur = none ∧
    ((after .copyBegin (atC (.qbind 2 1 (14 * 2 ^ 60) 0x10001 0))).st.streams.map (·.1)) = [2] := by decide +kernel

/-- A range of a tower below the ECC words is open where no task holds a region. -/
theorem tower_open {s : State} {cell off n : Nat} (h : s.regions = []) (hn : off + n ≤ 0x1E0000) : TowerOpen s cell off n := by
  intro j m _ hj
  unfold State.firstBarred State.reclaimedIn State.heldHit
  rw [h, decide_eq_false (by omega), decide_eq_false (by omega)]
  rfl

/-- A begun CPY of tile 1, of seventeen lines in the given state. -/
def copying (st : TState) (op : COp) : State :=
  { base with
    st := { strand0 with
      tiles := [(1, ⟨st, 0, 17, 0, 3, none⟩)],
      cq := ⟨some { headCmd (.c op none) with begun := true }, [], false, []⟩ },
    mem := [(towerPA 0 0, 0xA5), (towerPA 0 4096, 0x5A), (towerPA 0 4224, 0x3C)] }

/-- Two rows of 4 bytes, two lines apart, from the towers; one row to the towers, released; and one that expands a ZB block. -/
def rowsCopy : COp := .cpy 1 (tower 4096) 0x200020004 false 0

def drainCopy : COp := .cpy 1 (tower 4096) (2 ^ 60 + 0x10004) true 0

def zbCopy : COp := .cpy 1 (tower 4096) (2 ^ 48 + 0x10400) false 0

/-- Bytes from an extent of one HBM page, under a rind policy. -/
def farCopy (len policy : Nat) : COp := .cpy 1 (word (2 * 2 ^ 60)) (word (0x10000 + len)) false policy

def farCopying (len policy : Nat) : State :=
  { copying .filling (farCopy len policy) with
    st := { (copying .filling (farCopy len policy)).st with ext := [(2, ⟨1, true, false, 2, 0, false, hbmPA 0x20000, [leafOf 2], 0⟩)] } }

theorem extent_place (s : State) (cell off m : Nat) : s.copyPlace cell false false ⟨2, off, m⟩ = s.copyPlace 0 false false ⟨2, off, m⟩ := by
  simp only [State.copyPlace, show ((2 : Nat) == 14) = false from rfl, show ((2 : Nat) == 15) = false from rfl, Bool.false_eq_true, if_false]

theorem extent_open {s : State} {n pa : Nat} (h : ∀ j < n, ∀ m < n + 1, 0 < m → j + m ≤ n → paIsHbm (pa + j) = true ∧
    s.copyPlace 0 false false ⟨2, 0 + j, m⟩ = .ok (pa + j) 2 false false 0) : HbmOpen s 2 0 n pa := by
  intro cell j m hm hj
  have e := h j (by omega) m (by omega) hm hj
  exact ⟨e.1, 2, false, false, (extent_place s cell (0 + j) m).trans e.2⟩

theorem hbm_open : HbmOpen (farCopying 65 1) 2 0 65 (hbmPA 0x20000) := extent_open (by decide +kernel)

/-- A CPYB whose mask names the strand's own column alone, since `n`. -/
def gathering (n : Nat) : State :=
  let s := atC (.cpyb 1 (pageVA 0) (2 ^ 48 + 0x10040) 0)
  withPage { s with st := { s.st with tiles := [(1, ⟨.empty, 0, 1, 0, 3, none⟩)], cyc := n } } (leafOf 2)

/-- What CopyAt asks of a state whose copy has just begun. -/
theorem copy_at {s : State} {op : COp} (h : (s.st.begunCopy = some ({ headCmd (.c op none) with begun := true }, op) ∧ s.st.live = true ∧
    s.st.win = none ∧ s.st.replay = [] ∧ s.st.shadow = [] ∧ s.st.arrived = [] ∧ s.outbound = [] ∧ s.homeq = [])) :
    CopyAt s { headCmd (.c op none) with begun := true } op :=
  ⟨h.1, rfl, rfl, h.2⟩

/-- The three copies of the towers, and one from HBM; every cell of the grid is open to them. -/
theorem witness_copies : CopyAt (copying .filling rowsCopy) { headCmd (.c rowsCopy none) with begun := true } rowsCopy ∧
    CopyAt (copying .draining drainCopy) { headCmd (.c drainCopy none) with begun := true } drainCopy ∧
    CopyAt (copying .filling zbCopy) { headCmd (.c zbCopy none) with begun := true } zbCopy ∧
    CopyAt (farCopying 65 1) { headCmd (.c (farCopy 65 1) none) with begun := true } (farCopy 65 1) ∧
    (∀ st op cell off n, off + n ≤ 0x1E0000 → TowerOpen (copying st op) cell off n) ∧
    (∀ cell ∈ base.st.grid, cell < 32768) ∧ (copying .filling rowsCopy).bursts = [] ∧ base.hub.d2dDown = false ∧
    Memory.wf (copying .filling rowsCopy).mem = true ∧
    2 ^ 0 * zbLength ((List.range 32).map fun i => (copying .filling zbCopy).homeByte (towerPA ((copying .filling zbCopy).st.cell 0) (4096 + i))) < 1024 := by
  refine ⟨copy_at (by decide +kernel), copy_at (by decide +kernel), copy_at (by decide +kernel), copy_at (by decide +kernel), fun st op cell off n h => tower_open rfl h, ?_⟩
  decide +kernel

/-- Both rows of the first copy land in the tile; the drain lands in the tower and empties the tile. -/
theorem test_copies : (let t := after .copyPerformed (copying .filling rowsCopy)
     t.homeByte (towerPA 0 0) = 0x5A ∧ t.homeByte (towerPA 0 4) = 0x3C ∧ (t.st.tile 1).st = .ready ∧ t.st.cq.cur = none) ∧
    (let t := after .copyPerformed (copying .draining drainCopy)
     t.homeByte (towerPA 0 4096) = 0xA5 ∧ t.homeByte (towerPA 0 4224) = 0x3C ∧ (t.st.tile 1).st = .empty) := by decide +kernel

/-- Code and address of each fault that waits. -/
def faults (s : State) : List (Nat × Word) := s.st.pend.map fun p => (p.code, p.trec2)

/-- A home's error at the second line, a wrong rind in the last block, a block of no ratio that does not compress. -/
theorem test_copy_faults : faults (after (.copyDataFault .error 1) (farCopying 65 1)) = [(0x05, word (2 * 2 ^ 60 + 64))] ∧
    faults (after (.copyDataFault .rind 1) (farCopying 65 1)) = [(0x0D, word (2 * 2 ^ 60))] ∧
    faults (after (.copyDataFault .expansion 0) (copying .filling zbCopy)) = [(0x0A, tower 4096)] := by decide +kernel

theorem witness_gather : base.st.offers = none ∧ (let s := gathering 0
    let c := headCmd (.c (.cpyb 1 (pageVA 0) (2 ^ 48 + 0x10040) 0) none)
    HeadAt s.st .C c false ∧ s.st.cheld = none ∧ s.resume = [] ∧ s.st.win = none ∧ s.others = [] ∧
    (∀ j < 16, ((2 ^ 48 + 0x10040 : Word).getLsbD (48 + j) = true ↔ j = s.st.core / 16)) ∧ s.st.core < 256 ∧ s.sOpen s.st = false ∧
    (match s.copyCheck (.cpyb 1 (pageVA 0) (2 ^ 48 + 0x10040) 0) with | .begins p => !s.touchesS p false | _ => false) = true ∧
    ((after .gather s).st.cq.cur.map (·.begun)) = some true) ∧ 0 + Config.watchdog ≤ (gathering Config.watchdog).st.cyc ∧
    ((after .gatherPartnerTimeout (gathering Config.watchdog)).st.pend.map (·.code)) = [0x15] := by
  unfold HeadAt
  decide +kernel

theorem witness_stream : let r := streamOf 1 (14 * 2 ^ 60) 0x10002 0
    let s : State := { base with st := { strand0 with streams := [(2, r)] } }
    s.st.streams.lookup 2 = some r ∧ r.bound = true ∧ r.fifo.length < 8 ∧ r.next < r.total ∧ s.sOpen s.st = false ∧ r.xform = 0 ∧
    (∀ i < 16, s.reclaimedIn (s.st.cell i) (r.base + patternAt r.pat r.next) 64 = false ∧
      s.heldHit s.st (s.st.cell i) (r.base + patternAt r.pat r.next) 64 = false) ∧
    ((after (.streamGroupDecode 2) s).st.streams.map fun e => (e.2.next, e.2.fifo.length)) = [(1, 1)] := by decide +kernel

/-- A window opened at word 0 with one unit executed, the strand now at word 3. -/
def windowed : State :=
  let st := (strand0.openWindow)
  { withText [0, 0, 0, 0x0904C000] with st := { st with pc := textVA 3, wp := 30, win := st.win.map fun w => { w with units := 1 } } }

/-- A rollback decided for poison in tile 1, its fill record naming a far address, at one of its steps. -/
def refetching (far : Word) (step : Refetch) : State :=
  { base with
    st := { strand0.openWindow with
      tiles := [(1, ⟨.ready, 0, 1, 0, 3, some ⟨far, 0x10004, 0, 1⟩⟩)],
      rollback := some (.poison 1 0 0 ⟨far, 0x10004, 0, 1⟩ ⟨.ready, 0, 1, 0, 3, some ⟨far, 0x10004, 0, 1⟩⟩ step) },
    mem := [(towerPA 0 4096, 0x5A)] }

/-- The state in which a re-fetch checks and moves: its tile is to be filled. -/
def refetchFrom (s : State) : State :=
  { s with st := s.st.setTile 1 ⟨.empty, 0, 1, 0, 3, some ⟨tower 4096, 0x10004, 0, 1⟩⟩ }

theorem witness_windows : base.nextWord = none ∧ windowed.nextWord = some (.st 0 19 0 0) ∧ isCompared (.st 0 19 0 0) = true ∧
    windowed.marksWindow (.st 0 19 0 0) = false ∧ windowed.st.inReplay = false ∧ windowed.st.win.isSome = true ∧ windowed.st.awaiting = false ∧
    (let s := withText [0x80844000]
     s.nextWord = some (.dot 0 0 2 2 0 0 0) ∧ (withText [0x82844000]).marksWindow (.dot 0 1 2 2 0 0 0) = true ∧
       (withText [0x82844000]).nextWord = some (.dot 0 1 2 2 0 0 0) ∧ s.st.again = false ∧
       (after .checkerMismatch (withText [0x82844000])).st.win.isSome = true) ∧
    ((after .checkerMismatch { windowed with st := { windowed.st with win := none } }).st = Strand.idle) ∧
    (let t := after .windowRollback (after .checkerTimeout windowed)
     t.st.pc = textVA 0 ∧ t.st.wp = 0 ∧ (t.st.reexec.map (·.left)) = some 1 ∧ t.st.rollback = none) ∧
    (after .windowRollback { windowed with st := { windowed.st with rollback := some (.differs (textVA 1)) } }).st = Strand.idle ∧
    (let s := refetching (tower 4096) .found
     s.st.live = true ∧ s.st.begunCopy = none ∧ s.st.win.isSome = true ∧
       (after .windowRollback s).st.rollback.isSome = true) ∧
    (let s := refetching (tower 4096) .restored
     let u := refetchFrom s
     s.st.cheld = none ∧ s.st.saving = false ∧ s.resume = [] ∧ s.sOpen s.st = false ∧
     (match u.copyCheck ((⟨tower 4096, 0x10004, 0, 1⟩ : FillRec).copy 1) with
      | .begins p => !u.touchesS p false
      | _ => false) = true ∧
     (let v := after .tileRefetch s
      let t := after .tileRefetch v
      (t.st.tile 1).st = .ready ∧ t.st.rollback = none ∧ t.homeByte (towerPA 0 0) = 0x5A)) ∧
    (let s := refetching (tower 4096) .begun
     let u := refetchFrom s
     (match u.begunPlan ((⟨tower 4096, 0x10004, 0, 1⟩ : FillRec).copy 1) with
      | some p => decide ((u.moveImages p p.images).2 = none ∧ (u.moveImages p p.images).1.st = u.st) &&
          !State.refetchPoison { (u.moveImages p p.images).1 with freeCtr := (u.moveImages p p.images).1.freeCtr + 1 } p
      | none => false) = true ∧ s.st.begunCopy = none ∧ (after (.copyDataFault .error 0) s).st = Strand.idle ∧
     (let w := { u with poison := [(towerPA 0 4096, true)] }
      (match w.begunPlan ((⟨tower 4096, 0x10004, 0, 1⟩ : FillRec).copy 1) with
       | some p => decide ((w.moveImages p p.images).2 = none ∧ (w.moveImages p p.images).1.st = w.st) &&
          State.refetchPoison { (w.moveImages p p.images).1 with freeCtr := (w.moveImages p p.images).1.freeCtr + 1 } p
       | none => false) = true)) ∧
    (match (refetchFrom (refetching (tower (2 ^ 21)) .restored)).copyCheck ((⟨tower (2 ^ 21), 0x10004, 0, 1⟩ : FillRec).copy 1) with
     | .fault 0x05 _ => true
     | _ => false) = true ∧
    (after .tileRefetch (refetching (tower (2 ^ 21)) .restored)).st = Strand.idle := by decide +kernel

/-! ### Far faults, registers, die, links, fabric -/

/-- A table walk of three levels to page 2, and none to page 3; a held fault; a fault-queue entry on which strand 2 is parked. -/
def tables : State :=
  { base with
    parts := [(0, { Part.initial with root := hbmPA 0x100000 })],
    mem := (((Memory.putAll [] (hbmPA 0x100000) (natBytes 8 (hbmPA 0x110000 + 25))).putAll (hbmPA 0x110000) (natBytes 8 (hbmPA 0x120000 + 25))).putAll
      (hbmPA 0x120010) (natBytes 8 (leafOf 1).toNat)) }

def heldFault : HeldFault := ⟨0, 2, 0, 2, 0, 0, ⟨1, 0⟩⟩

def entry (claimed : Bool) : FqEntry := ⟨5, 0, 2, claimed, 0, 2, 0, 0, 0, [⟨2, 0⟩]⟩

theorem witness_far_faults : tables.lookup 0 0 0x20008 false = .leaf (leafOf 1) false ∧ tables.lookup 0 0 0x30000 false = .absent 2 ∧
    base.lookup 0 0 0x20008 false = .absent 0 ∧ ((after (.pageWalk 0 0 0x20008) tables).tlb.map (·.1)) = [0] ∧ base.heldOf 0 = [] ∧
    (let s (q : List FqEntry) : State := { base with held := [(0, [heldFault])], fq := if q = [] then [] else [(0, q)], disarmed := [(0, true)] }
     (s []).heldOf 0 = [heldFault] ∧ 0 < (s []).fqFree 0 0 ∧ SMap.get false (s []).disarmed (fqKey 0 0) = true ∧
       (s [entry false]).fqOf 0 = [entry false] ∧ (entry false).vpn = heldFault.vpn ∧
       ((after (.heldFaultPost 0) (s [])).fqOf 0).map (·.vpn) = [2] ∧ ((after (.heldFaultPost 0) (s [entry false])).fqOf 0).map (·.faulters) = [[⟨2, 0⟩, ⟨1, 0⟩]]) ∧
    base.recordAddr (Strand.forPart 0 0) (word (15 * 2 ^ 60 + 1)) = .fault 0x04 ∧ base.recordAddr (Strand.forPart 0 0) (pageVA 0) = .absent 0 ∧
    (atRecord 0).recordAddr (Strand.forPart 0 0) (pageVA 0) = .found (hbmPA 0x20000) ∧
    ((after (.handlerSignal 0) base).part 0).vlog = [⟨0, 0, 0, 0⟩] := by decide +kernel

/-- A privileged strand beside one parked on a claimed entry of cluster 0. -/
def claimed (r : Word) : State :=
  { privileged (withReg base 1 r) with
    others := [{ strand0 with sid := 2, recAddr := pageVA 256, park := some ⟨pageVA 0, 0, 2, 0⟩ }], fq := [(0, [entry true])] }

theorem witness_fault_queue : base.st.live = true ∧ base.st.priv = false ∧ (claimed 0).st.priv = true ∧ ((claimed 0).st.sysv 0x050).toNat = 0 ∧
    (∀ e ∈ (claimed 0).fqOf 0, e.part = 0 → e.claimed = true) ∧ ({ claimed 0 with fq := [(0, [entry false])] } : State).fqOf 0 = [entry false] ∧
    (let v (n : Nat) : Word := word (n * 2 ^ 43 + 5 * 2 ^ 57)
     (∀ n < 3, (v n).toNat / 2 ^ 43 % 4 = n ∧ (v n).toNat / 2 ^ 57 % 2 ^ 6 = 5 ∧ (v n).toNat / 2 ^ 39 % 2 ^ 4 = 0) ∧
       (claimed (v 0)).releaseBlocked (claimed (v 0)).st [0, 1] = false ∧ (claimed (v 0)).heldOf 0 = [] ∧
       ((after (.fqCompleteResume 1) (claimed (v 0))).others.map (·.park)) = [none] ∧
       ((after (.fqCompleteFault 1) (claimed (v 1))).others.map fun t => (t.park, t.pend.length)) = [(none, 1)] ∧
       (after (.fqCompleteKill 1) (claimed (v 2))).others = [] ∧ (after (.fqCompleteKill 1) (claimed (v 2))).fq = []) ∧
    (word (2 ^ 31 + 3 * 2 ^ 56)).toNat / 2 ^ 62 = 0 ∧ (word (2 ^ 31 + 3 * 2 ^ 56)).toNat / 2 ^ 31 % 2 = 1 ∧ (0 : Word).toNat / 2 ^ 31 % 2 = 0 ∧
    (after (.fqheadClaim 2) { claimed 0 with fq := [(0, [entry false])] }).st.rs 2 = word (2 ^ 63 + 5 * 2 ^ 57 + 2 * 2 ^ 52 + 2) := by decide +kernel

theorem witness_unit_registers : base.st.live = true ∧ (privileged base).st.priv = true ∧ ((privileged base).part 0).vlog = [] ∧
    (let s : State := { privileged base with parts := [(0, { Part.initial with vlog := [⟨5, 1, 7, 9⟩], vovf := true })] }
     (s.part 0).vlog = [⟨5, 1, 7, 9⟩] ∧ (after (.vlogClaim 2) s).st.rs 2 = word (3 * 2 ^ 62 + 5 * 2 ^ 48 + 2 ^ 32 + 7) ∧ (after (.vlogClaim 2) s).st.sysv 0x053 = 9) ∧
    (0x200 : Word).toNat % 2 ^ 10 ≠ 0 ∧ (word (2 ^ 55)).toNat / 2 ^ 55 ≠ 0 ∧ (0x20400 : Word).toNat % 2 ^ 10 = 0 ∧
    (privileged base).bankCheck 0x20400 = .error (0x05, pageVA 0x400) ∧ (privileged (paged 1)).bankCheck 0x20400 = .ok (hbmPA 0x20400) ∧
    State.reset.st.live = false ∧ (65535 : BitVec 64).toNat < 2 ^ 16 ∧ (1 : BitVec 64).toNat % 2 ^ 16 ≠ 0 ∧ (0x10000 : BitVec 64).toNat % 2 ^ 16 = 0 ∧
    2 ^ 16 ≤ (0x10001 : BitVec 64).toNat ∧ (after (.controlBlockWrite 0x10008 65535) (privileged base)).cethrOf 0 = 65535 ∧
    (let s : State := { base with banks := [(7, { Bank.initial with creq := true })] }
     (s.bankAt 0 7).creq = true ∧ (s.bankAt 0 6).creq = false ∧ ((after (.creqAck 0 7) s).bankAt 0 7).strong = true) ∧
    base.hub.unisoReq = false ∧
    (after (.uniso true) { base with hub := { Hub.reset with iso := true, unisoReq := true } }).hub.iso = false := by decide +kernel

/-! ### The lehr, links, fabric -/

/-- Bank 3 of cell 5 as given. -/
def bankIs (b : Bank) : State := { base with banks := [(5 * 16 + 3, b)] }

def resting : Bank := Bank.initial

theorem witness_lehr : let late : State := { bankIs resting with time := 2 ^ 40 }
    resting.deferred = false ∧ resting.running = false ∧ late.bankDue 5 3 (late.bankAt 5 3) = true ∧ late.bankAtGuard 5 (late.bankAt 5 3) = true ∧
    base.bankDue 5 3 (base.bankAt 5 3) = false ∧ base.bankAtGuard 5 (base.bankAt 5 3) = false ∧
    (let run (n : Nat) : State := bankIs { resting with running := true, bursts := n, began := 9 }
     ((run 255).bankAt 5 3).running = true ∧ ((run 255).bankAt 5 3).cecnt < (run 255).cethrOf (5 / 16384) ∧ ((run 255).bankAt 5 3).cecnt < 2 ^ 16 ∧ ((run 255).bankAt 5 3).bad < 16 ∧
       ((after (.refreshBurst 5 3 0 []) (run 255)).bankAt 5 3).stamp = 9 ∧ ((after (.refreshBurst 5 3 0 []) (run 0)).bankAt 5 3).bursts = 1) ∧
    (let failed : State := { State.reset with cores := [(0, { CoreState.initial with mpend := true })], banks := [(5 * 16 + 3, { resting with bad := 16 })] }
     (failed.coreAt (coreIndex 0 0)).mpend = true ∧ failed.coreBusy (coreIndex 0 0) = false ∧ failed.cellFailed (cellIndex 0 0 5) = true ∧
       (failed.coreAt (coreIndex 0 0)).remap0 = 0 ∧ (failed.coreAt (coreIndex 0 0)).remap1 ≠ BitVec.ofNat 16 (2 ^ 15 + 5) ∧ ((after (.cellRemap 0 0 5) failed).coreAt 0).remap0 = 0x8005) ∧
    (base.coreAt (coreIndex 0 0)).mpend = false ∧ (∀ k, (State.reset.coreAt k).rpend = false) ∧
    SMap.wf CoreState.initial State.reset.cores = true :=
  ⟨rfl, rfl, by decide +kernel, by decide +kernel, by decide +kernel, by decide +kernel, by decide +kernel, by decide +kernel, by decide +kernel,
    fun _ => rfl, rfl⟩

/-- A burst of core 0 at HBM address 0, since time 0. -/
def burst0 : Burst := ⟨hbmPA 0, false, 0, 0, 1, 0, none, 0, false⟩

def served (n r : Nat) : State := { base with bursts := [{ burst0 with slot := some n, replays := r }], time := 10000 }

/-- A load of strand 1 that waits for the expander. -/
def waiting : PendLoad := { pending 2 with pa := 255 * 2 ^ 48 + 2 * 2 ^ 45, held := true }

def farLoad (t : Nat) : State := { loading waiting with time := t }

/-- The slot of cluster 0 on the channel of HBM address 0, and when it starts. -/
def slot0 : Nat := slotOf (paChannel (hbmPA 0)) 0

def start0 : Nat := 99328 + 32 * slot0

def slotIdle : State := { base with time := 10000 }

def slotServed : State := { slotIdle with bursts := [burst0] }

def slotFine : State := { loading { pending 2 with pa := hbmPA 0 } with bursts := [burst0], time := 10000 }

def slotReplay : State := { slotIdle with bursts := [{ burst0 with slot := some start0, replays := 1, late := true }] }

/-- The channel of HBM address 0. -/
def chan0 (s : State) : Chan := s.chan (paChannel (hbmPA 0))

/-- The slot taken by a replay, by a fine batch, by a burst, by the patrol scrub. -/
theorem witness_slots : slot0 < 32 ∧ paChannel (hbmPA 0) < 256 ∧ slotStart (10 * slotServed.time) slot0 = some start0 ∧
    (chan0 slotServed).retraining = false ∧ (chan0 slotServed).failed = false ∧ SMap.get 0 (chan0 slotServed).taken slot0 ≠ start0 + 1 ∧
    SMap.get 0 (chan0 (after (.calendarSlot (paChannel (hbmPA 0)) slot0) slotServed)).taken slot0 = start0 + 1 ∧ (slotReplay.replayIn (paChannel (hbmPA 0)) start0).isSome = true ∧
    (after (.calendarSlot (paChannel (hbmPA 0)) slot0) slotReplay).bursts = slotReplay.bursts ∧ slotServed.replayIn (paChannel (hbmPA 0)) start0 = none ∧
    slotFine.replayIn (paChannel (hbmPA 0)) start0 = none ∧ slotFine.fineFirst (paChannel (hbmPA 0)) (slotCluster (paChannel (hbmPA 0)) slot0) = some (hbmPA 0) ∧
    SMap.get 0 (chan0 slotFine).fineLast slot0 + 1024 ≠ start0 + 1 ∧ (after (.calendarSlot (paChannel (hbmPA 0)) slot0) slotFine).bursts = slotFine.bursts ∧
    burst0.served (paChannel (hbmPA 0)) (slotCluster (paChannel (hbmPA 0)) slot0) start0 = true ∧
    slotServed.stalled burst0.die burst0.pa = false ∧ slotServed.fineFirst (paChannel (hbmPA 0)) (slotCluster (paChannel (hbmPA 0)) slot0) = none ∧
    ((after (.calendarSlot (paChannel (hbmPA 0)) slot0) slotServed).bursts.map (·.slot)) = [some start0] ∧ ((after (.calendarSlot (paChannel (hbmPA 0)) slot0) slotIdle).bursts.map (·.sid)) = [noStrand] := by decide +kernel

theorem witness_links : ((served 0 0).bursts.map fun b => (b.landsBefore (10 * (served 0 0).time + 1), b.late)) = [(true, false)] ∧
    base.fineReqs = [] ∧ ({ served 0 0 with st := Strand.idle } : State).strand 1 = none ∧ (after (.burstLand 0 []) (served 0 0)).bursts = [] ∧
    (let gone : State := { served 0 0 with st := Strand.idle }
     (after (.burstLand 0 [3]) gone).marked (hbmPA 96) = true ∧ (after (.burstLand 0 [3]) gone).marked (hbmPA 64) = false ∧ gone.banks = []) ∧
    (after (.hbmLinkCrcFail 0) (served 5 2)).bursts.map (·.slot) = [some 1029] ∧ (after (.hbmLinkCrcFail 0) (served 5 3)).bursts.map (·.slot) = [none] := by decide +kernel

theorem witness_link_retries : (let f (k : Nat) : State := { loading { pending 2 with pa := hbmPA 0 } with chans := [(0, { Chan.initial with fineFails := k })] }
     ((f 0).fineReqs.map (·.2)) = [hbmPA 0] ∧ (f 0).bursts = [] ∧ ((f 0).chan 0).retraining = false ∧ ((f 0).chan 0).failed = false ∧
       ((after (.hbmLinkCrcFail 0) (f 2)).chan 0).fineFails = 3 ∧ ((after (.hbmLinkCrcFail 0) (f 3)).chan 0).retraining = true) ∧
    (let c (f : Nat) : State := { served 0 0 with chans := [(7, { Chan.initial with retraining := true, fails := f })] }
     ((c 2).chan 7).retraining = true ∧ ((after (.channelRetrainDone 7 false) (c 1)).chan 7).fails = 2 ∧
       ((after (.channelRetrainDone 7 false) (c 2)).chan 7).failed = true ∧ (base.chan 7).retraining = false ∧ base.hub.coming = [] ∧
       ({ c 0 with hub := { Hub.reset with coming := [3, 7] } } : State).retrainsNow 7 = false) := by decide +kernel

theorem witness_die_link : base.hub.d2dDown = false ∧ base.hub.d2dStreak < 15 ∧
    (let d (k f : Nat) : State := { base with hub := { Hub.reset with d2dStreak := k, d2dDown := decide (f < 9), d2dFails := f % 9 } }
     (d 15 9).hub.d2dDown = false ∧ (after .d2dFlitCrcFail (d 15 9)).hub.d2dDown = true ∧ (d 0 1).hub.d2dDown = true ∧
       (after (.d2dRetrainDone false) (d 0 1)).hub.d2dFails = 2 ∧ (after (.d2dRetrainDone true) (d 0 2)).hub.d2dDown = false) := by decide +kernel

theorem witness_expander : (farLoad 0).expanderReads[0]? = some (255 * 2 ^ 48 + 2 * 2 ^ 45) ∧ (farLoad 0).expanderReads[1]? = none ∧ base.expanderRequests[0]? = none ∧
    waiting.amo = false ∧ waiting.held = true ∧ paIsExpander waiting.pa = true ∧ (farLoad 0).net = [] ∧ (farLoad 0).st.begunCopy = none ∧
    (farLoad 0).st.spawning = [] ∧ (farLoad 0).partOf = [] ∧
    (farLoad 0).hub.iso = false ∧ (farLoad 99999).time < waiting.issued + 1000 * base.hub.tmo ∧ waiting.issued + 1000 * base.hub.tmo ≤ (farLoad 100000).time ∧
    ((after (.expanderTimeout 0) (farLoad 100000)).st.sysv 0x040) = 0x05 := by decide +kernel

/-- The burst of a copy of 12 bytes from HBM. -/
def landing : State :=
  { farCopying 12 0 with bursts := [{ burst0 with pa := hbmPA 0x20000, slot := some 0 }], time := 10000, mem := [(hbmPA 0x20005, 0x5A)] }

theorem witness_landing : CopyAt landing { headCmd (.c (farCopy 12 0) none) with begun := true } (farCopy 12 0) ∧ Memory.wf landing.mem = true :=
  ⟨copy_at (by decide +kernel), by decide +kernel⟩

theorem witness_landing_open : HbmOpen landing 2 0 12 (hbmPA 0x20000) ∧ (∀ cell, TowerOpen landing cell 0 12) ∧
    (∀ cell ∈ landing.st.grid, cell < 32768) :=
  ⟨extent_open (by decide +kernel), fun _ => tower_open rfl (by decide), by decide +kernel⟩

theorem witness_landing_burst :
    (landing.bursts.all fun b => b.landsBefore (10 * landing.time + 1) && !b.late && !b.wr && b.sid == landing.st.sid) = true := by decide +kernel

theorem test_burst_lands : (after (.burstLand 0 []) landing).homeByte (towerPA 0 5) = 0x5A ∧
    (after (.burstLand 0 []) landing).st.arrived = [hbmPA 0x20000] := by decide +kernel

/-- A link of the package in a state, with failures and failed replays in a row. -/
def linkIs (st streak fails : Nat) : State := { base with hub := { Hub.reset with links := [(3, { Link.initial with state := st, streak := streak, fails := fails })] } }

/-- The DOM value of a fabric domain of four members rooted at a package. -/
def fabricDom (root : Nat) : Nat := 4 * 2 ^ 32 + (root * 2 ^ 16 + 7) * 2 ^ 8 + 5

def fabricOf (root arrived : Nat) : State := { base with domains := [⟨5, root * 2 ^ 16 + 7, 0, 4, [], 0, arrived, 0, false, [2], 0⟩] }

theorem witness_fabric : (let r : RemoteReq := ⟨2, 9, hbmPA 64, .read 8⟩
     let s : State := { base with mem := [(hbmPA 64, 7)] }
     let answered := after (.remoteRequest { r with pa := 64 }) s
     s.ownPlace 64 = some (255 * 2 ^ 48 + 64) ∧ paSpace (255 * 2 ^ 48 + 64) ≤ 1 ∧ s.reachable (255 * 2 ^ 48 + 64) = true ∧ s.remembered = [] ∧ s.hub.coming = [] ∧
       ({ s with hub := { s.hub with coming := [3] } } : State).hub.coming ≠ [] ∧
       (∀ j, j < 8 → s.homePoison (255 * 2 ^ 48 + 64 + j) = false) ∧ answered.remembered.map (·.1) = [2] ∧ answered.remembered.map (·.2.1) = [9]) ∧
    (linkIs 2 14 0).link 3 = { Link.initial with state := 2, streak := 14, fails := 0 } ∧ ((after (.scaleupLinkCrcFail 3) (linkIs 2 14 0)).link 3).streak = 15 ∧
    ((after (.scaleupLinkCrcFail 3) (linkIs 2 15 0)).link 3).state = 1 ∧ ((after (.scaleupRetrainDone 3 false) (linkIs 1 0 1)).link 3).fails = 2 ∧
    ((after (.scaleupRetrainDone 3 false) (linkIs 1 0 2)).link 3).state = 3 ∧ ((after (.scaleupRetrainDone 3 true) (linkIs 1 0 2)).link 3).state = 2 ∧
    ((after (.switchFailure 3) (linkIs 2 0 0)).link 3).state = 3 ∧ ((linkIs 3 0 0).link 3).state = 3 ∧
    ({ base with hub := { Hub.reset with coming := [3] } } : State).retrainsNow 257 = false ∧ (linkIs 1 0 1).hub.coming = [] ∧ base.st.rollback = none ∧
    (let s : State := { base with hub := { Hub.reset with unreach := [(5, true)] } }
     5 ≠ s.hub.pkg ∧ SMap.get false s.hub.unreach 5 = true ∧ SMap.get false (after (.reachabilityChange 5 true) s).hub.unreach 5 = false ∧
       SMap.get false s.hub.unreach 6 = !true) ∧
    domLevel (word (fabricDom 0)) = 5 ∧ domIdent (word (fabricDom 0)) / 2 ^ 16 = base.hub.pkg ∧ domMembers (word (fabricDom 0)) = 4 ∧
    ((fabricOf 0 1).domains.map (·.isFabric (word (fabricDom 0)))) = [true] ∧ domIdent (word (fabricDom 1)) / 2 ^ 16 ≠ base.hub.pkg ∧
    ((after (.fabricArrivalMsg (fabricDom 0) 2 2) (fabricOf 0 1)).domains.map fun d => (d.arrived, d.phase)) = [(3, 0)] ∧
    ((after (.fabricArrivalMsg (fabricDom 0) 2 3) (fabricOf 0 1)).domains.map fun d => (d.arrived, d.phase)) = [(0, 1)] ∧
    ((after (.fabricReleaseMsg (fabricDom 1)) (fabricOf 1 2)).domains.map (·.phase)) = [1] ∧
    (let h (st : Nat) : State := { base with hub := { Hub.reset with timeState := st }, time := 4000000000 }
     base.hub.timeState = 0 ∧ (h 1).hub.timeState = 1 ∧ (h 1).now < 5000000000 ∧ (after (.ptpMessage 5000000000 0) (h 1)).now = 5000000000 ∧
       2 ≤ (h 2).hub.timeState ∧ (h 2).hub.timeLast + 4000000000 ≤ (h 2).time ∧ (after .holdover (h 2)).hub.timeState = 3) := by decide +kernel

/-! ### Spills, the scheduler, the press -/

theorem witness_spills : base.st.jobs = [] ∧ HomeQueueOk base (homeOf (towerPA 0 (64 * 4 + 120 * 2))) ∧
    (∀ n, n < 120 → homeOf (towerPA 0 496 + n) = homeOf (towerPA 0 496)) ∧
    (let out : State := { base with st := { strand0 with jobs := [.frameOut 15 2], spBase := 4, sregs := [(16, 0xAB)] } }
     out.st.live = true ∧ (after .spillTransfer out).homeByte (towerPA 0 504) = 0xAB) ∧
    (let inn : State := { base with st := { strand0 with jobs := [.frameIn 15 2], spBase := 4 }, mem := [(towerPA 0 504, 0xAB)] }
     SMap.get 0 (after .spillTransfer inn).st.sregs 16 = 0xAB) ∧
    base.st.pend = [] ∧
    (let p : State := { base with st := { strand0 with pend := [⟨0x0B, 1, 0, 5, 6, 0, 0, ⟨0, 0, 0, 0⟩, false⟩] } }
     p.st.park = none ∧ p.st.atJoin = false ∧ p.st.saving = false ∧ p.st.rollback = none ∧ p.st.afterCall = none ∧ p.st.intrap = false ∧
       p.st.awaiting = false ∧ p.sOpen p.st = false ∧ p.st.resident < 15 ∧ (after .trapEntry p).st.sysv 0x040 = 0x10000000B) :=
  ⟨rfl, queue_ok _ rfl, by decide +kernel, by decide +kernel, by decide +kernel, by decide +kernel, by decide +kernel⟩

/-- A record of partition 0 at page 2, in a state. -/
def record (st : Nat) : RecEntry := ⟨0, 0, pageVA 0, hbmPA 0x20000, st, 0, false, false, 0, none, []⟩

/-- No task runs; core 0 belongs to partition 0; the record's words 0, 1, 2 and 4 name ENTRY, CODE, DEADLINE and GANG of one field. -/
def queued (r : RecEntry) (fields : Nat) : State :=
  { withPage State.reset (leafOf 0) with
    recs := [r], partOf := [(0, 16)], objects := [placeObject 0],
    mem := (((Memory.putAll [] (hbmPA 0x20000) (natBytes 8 0x10000)).putAll (hbmPA 0x20008) (natBytes 8 1)).putAll (hbmPA 0x20010)
      (natBytes 8 100)).putAll (hbmPA 0x20020) (natBytes 8 fields) }

/-- The core's four fields run tasks of late deadlines that may be pre-empted. -/
def crowded : State :=
  let t (n : Nat) : Strand := { strand0 with sid := n + 1, field := n, recAddr := pageVA (128 * (n + 1)), ctxa := 2 ^ 20, deadline := 1000 + n }
  { queued (record 2) 0 with st := t 0, others := [t 1, t 2, t 3] }

/-- The executing task of the record, asked to save, with a mapped save area of three pages at page 16 of kind U. -/
def pressed : State :=
  { queued { record 4 with sid := 1 } 0 with
    st := { strand0 with recAddr := pageVA 0, saveReq := true, boundary := true, ctxa := 2 ^ 20 },
    parts := tables.parts,
    mem := ((List.range 16).foldl (fun m i => m.putAll (hbmPA (0x120080 + 8 * i)) (natBytes 8 (hbmPA (0x200000 + 65536 * i) + 2 * 2 ^ 3 + 3))) tables.mem) }

theorem witness_scheduler : base.readySet 0 0 = [] ∧ (queued (record 2) 0).packageWaits = false ∧ (queued (record 2) 0).missDue (record 2) = false ∧ crowded.missDue (record 2) = false ∧
    ({ base with hub := { Hub.reset with d2dFails := 3 } } : State).packageWaits = true ∧ (queued (record 2) 0).readySet 0 0 = [record 2] ∧
    (queued (record 2) 0).placeFree (record 2) [] = some (0, 0) ∧ crowded.readySet 0 0 = [record 2] ∧ crowded.placeFree (record 2) [] = none ∧
    ((crowded.bestVictims (record 2)).map fun l => l.map (·.sid)) = some [4] ∧
    ({ crowded with st := { crowded.st with ctxa := 0 }, others := [] } : State).placeFree (record 2) [0] = none ∧
    (let none' : State := { queued (record 2) 0 with partOf := [] }
     none'.readySet 0 0 = [record 2] ∧ none'.placeFree (record 2) [] = none ∧ none'.bestVictims (record 2) = none) ∧
    (queued (record 3) 0).recs[0]? = some (record 3) ∧ (queued (record 3) 0).recs[1]? = none ∧ (record 3).pa % 128 = 0 ∧
    ((queued (record 3) 0).recWord (record 3).pa 3).toNat ≤ (queued (record 3) 0).now ∧ ((after (.startReached 0) (queued (record 3) 0)).recs.map (·.state)) = [2] ∧
    (queued (record 2) 0).now < (queued (record 2) 0).recDeadline (record 2) ∧
    (let due (w : Nat) : State := { queued (record 2) w with time := 100 }
     (due 0).missDue (record 2) = true ∧ (due (2 ^ 24)).missDue (record 2) = true ∧ (record 2).hasRun = false ∧ (record 2).staging = none ∧ bf ((due 0).recWord (record 2).pa 4) 24 2 ≠ 1 ∧ bf ((due (2 ^ 24)).recWord (record 2).pa 4) 24 2 = 1 ∧
       ((due 0).part 0).hpend = false ∧ ((after (.deadlineMiss 0) (due 0)).recs.map (·.missed)) = [true] ∧ (after (.deadlineMiss 0) (due (2 ^ 24))).recs = []) := by
  decide +kernel

theorem witness_scheduler_queues : HomeQueueOk (queued (record 3) 0) (homeOf ((record 3).pa + 32)) := queue_ok _ rfl

/-- The record taken for dispatch. -/
def staged : RecEntry := { record 2 with staging := some (0, 0) }

theorem witness_dispatch : (let s := queued staged 0
     s.recs.find? (·.staging.isSome) = some staged ∧ s.packageWaits = false ∧ s.missDue staged = false ∧ s.others = [] ∧
       (s.placements staged).contains (0, 0) = true ∧ staged.staging = some (0, 0) ∧ s.st.live = false ∧
       recordBad staged.part true (fun i => if i == 4 then setBf (s.recWord staged.pa 4) 21 3 0 else s.recWord staged.pa i) = false ∧
       s.tagMismatch staged = false ∧ (s.objects.map fun o => (o.part, o.handle)) = [(0, bf (s.recWord staged.pa 1) 0 32)] ∧
       s.readExtents staged.part (bf (s.recWord staged.pa 5) 6 49 * 64) (bf (s.recWord staged.pa 5) 0 4) = .ok [] ∧ (s.part 0).hpend = false ∧
       (after .dispatchComplete s).st.pc = textVA 0 ∧ (after .dispatchComplete s).st.rs 1 = pageVA 0 ∧
       (after .dispatchComplete { s with objects := [] }).recs = []) := by decide +kernel

theorem witness_press : pressed.st.live = true ∧ pressed.st.saveReq = true ∧ (∀ u ∈ pressed.taskStrands pressed.st, u.quiet = true) ∧
    pressed.recs.find? (fun x => x.part == pressed.st.part && x.va == pressed.st.recAddr) = some { record 4 with sid := 1 } ∧
    (pressed.saveArea 0 pressed.st.ctxa (imageSize (gangFields pressed.st.gang) (pressed.savedBytes { record 4 with sid := 1 }))).isSome = true ∧
    ({ pressed with parts := [] } : State).saveArea 0 pressed.st.ctxa (imageSize 1 (pressed.savedBytes { record 4 with sid := 1 })) = none ∧
    (after .pressSave pressed).st.saving = true ∧ ((after .pressSave pressed).taskStrands (after .pressSave pressed).st).map (·.gidx) = [0] ∧
    pressed.st.ctxa ≠ 0 ∧ pressed.st.saving = false ∧ base.st.ctxa = 0 := by decide +kernel

/-! ### The transport, management, invariants -/

/-- A session of partition 0, at number n, with a request held ahead of it or none, and the reply to request 0. -/
def answer0 : Reply := ⟨⟨1, 2, 0, 0, 3, 0, []⟩, 5, []⟩

def session3 (n : Nat) (held : List (Nat × HubRequest)) : Session := ⟨3, 0, [7], n, [answer0], held, 0⟩

def sessionAt (n : Nat) (held : List (Nat × HubRequest)) : State := { State.reset with sessions := [session3 n held] }

/-- A request of a kind with the tag that the session's key gives. -/
def signed (kind n : Nat) (payload : List Byte) : Header :=
  let h : Header := ⟨1, kind, 0, 0, 3, n, []⟩
  { h with tag := Config.kmac256 [7] (headerBytes h ++ payload) }

theorem witness_tag (k n : Nat) (p : List Byte) : (signed k n p).kind = k ∧ (signed k n p).version = 1 ∧ (signed k n p).partition = 0 ∧
    (signed k n p).tag = Config.kmac256 (session3 n []).key (headerBytes (signed k n p) ++ p) := ⟨rfl, rfl, rfl, rfl⟩

/-- Page 2 of partition 0 by the tables, kind U and writable. -/
def hosted : State := { State.reset with parts := tables.parts, mem := tables.mem }

/-- A strand of the partition whose load from the object's one page is on its way. -/
def unloadWaiting : State := { withPage (loading { pending 1 with pa := hbmPA 0x20000 }) (leafOf 1) with objects := [{ placeObject 0 with pages := [2] }] }

theorem witness_transport : (sessionAt 0 []).session 4 = none ∧ (sessionAt 1 []).session 3 = some (session3 1 []) ∧
    (session3 1 []).replies.find? (fun r => r.header.sequence == 0) = some answer0 ∧ ([] : List Byte).length < fieldBytes 2 ∧
    ((sessionAt 0 []).begun ⟨2, 0, 0, natBytes 8 0x20008 ++ natBytes 8 8⟩).2 = false ∧
    (unloadWaiting.begun ⟨5, 0, 0, natBytes 8 1⟩).2 = true ∧
    (let r : HubRequest := ⟨2, 0, 0, []⟩
     (sessionAt 0 [(2, r)]).session 3 = some (session3 0 [(2, r)]) ∧ 0 + 1000000 ≤ ({ sessionAt 0 [(2, r)] with time := 1000000 } : State).time ∧
       ((after (.sequenceGapTimeout 3) { sessionAt 0 [(2, r)] with time := 1000000 }).sessions.map (·.held)) = [[]]) ∧
    hosted.hostSpan 0 0x20008 8 writePage = .ok [(hbmPA 0x20008, 8)] ∧ hosted.hostSpan 0 0x20008 8 readPage true = .ok [(hbmPA 0x20008, 8)] ∧
    hosted.hostSpan 0 0x30000 8 readPage true = .error 0x30000 ∧ paPackage (hbmPA 0x20008) = 255 ∧ hosted.homeq = [] ∧ hosted.hub.coming = [] ∧
    (∀ j, j < 8 → hosted.homePoison (hbmPA 0x20008 + j) = false) ∧ ({ hosted with poison := [(hbmPA 0x20008, true)] } : State).homePoison (hbmPA 0x20008 + 3) = true ∧
    (hosted.hostWrite 0 0x20008 8 (List.replicate 8 5)).next.homeByte (hbmPA 0x2000F) = 5 ∧ (hosted.hostWrite 0 0x30000 8 (List.replicate 8 5)).status = 5 := by
  decide +kernel

theorem witness_management : base.configure (.core 512 none) = none ∧ base.coreBusy 0 = true ∧ base.coreBusy 1 = false ∧ base.coreHolds 1 = false ∧
    ((base.configure (.core 1 (some 3))).bind fun u => u.ownerOf 1) = some 3 ∧ (List.replicate 32 (0 : Byte)).length = 32 ∧
    base.hub.nextStep ≤ base.time ∧ ({ base with hub := { Hub.reset with nextStep := 9 } } : State).time < 9 ∧ base.st.part = 0 ∧ base.st.gidx = 0 ∧ (after (.partitionReset 0) base).st = Strand.idle ∧
    (after (.partitionReset 1) base).st = base.st ∧ base.homeq = [] ∧ SMap.wf CoreState.initial base.cores = true ∧
    (let off : State := { base with hub := { Hub.reset with powered := false } }
     off.hub.powered = false ∧ off.agenda = [] ∧ ({ off with agenda := [⟨1, .sequencer⟩] } : State).agenda = [⟨1, .sequencer⟩] ∧
       ({ off with agenda := [⟨1, .event .tend⟩] } : State).agenda = [⟨1, .event .tend⟩] ∧ (∀ b, Instr.tend ≠ .coldReset b)) :=
  ⟨by decide, by decide, by decide, by decide, by decide +kernel, by decide, by decide, by decide, rfl, rfl, by decide +kernel, by decide +kernel, rfl, rfl,
    rfl, rfl, rfl, rfl, fun _ h => Instr.noConfusion h⟩

theorem witness_keeps_memory : Memory.wf (withText [0, 1, 2]).mem = true ∧
    (match step { withText [0x00104200] with agenda := [⟨1, .sequencer⟩] } with | .next _ => true | _ => false) = true := by decide +kernel

theorem witness_strand_inv : base.st.inv ∧ (match exec .nop base with | .next _ => true | _ => false) = true :=
  ⟨⟨by decide, by decide, by decide, by decide, rfl, rfl, fun t => by cases t <;> decide, by decide⟩, by decide⟩

/-! ### The translation of chapter 21 -/

/-- The n little-endian bytes of k. -/
def leBytes (n k : Nat) : List Byte := (List.range n).map fun i => BitVec.ofNat 8 (k / 256 ^ i)

/-- The record of `wdot` (Table 21.1 and the header and stream entries under it). -/
def wdot : List Byte :=
  [2, 5, 2, 0] ++ leBytes 4 12 ++ leBytes 4 64 ++ leBytes 4 1 ++ leBytes 4 1 ++ leBytes 44 0 ++
    ((List.range 2).map fun _ => [4, 0, 0, 0, 0, 0, 0, 0] ++ leBytes 4 2 ++ leBytes 20 0).flatten ++
    ([0x05003C00, 0x09140100, 0x09247B00, 0x2134B8E4, 0x19448000, 0x1954C000, 0x05649300, 0x05751500, 0x2F15C004, 0x0985BA00,
      0x0194D800, 0x2F064000].map (leBytes 4)).flatten

/-- How many words a translation has, and those that Table 21.3 shows. -/
def wordsOf : Translation → Option (Nat × List W32)
  | .words ws => some (ws.length,
      [0x40, 0x44, 0x5C, 0x64, 0x6C, 0x74, 0x90, 0x94, 0x98, 0x9C, 0xA0, 0xA4, 0xA8, 0xAC, 0xB0, 0xB4, 0xB8, 0xC0, 0xD8, 0xE0, 0xF4, 0xF8, 0x104,
       0x140, 0x14C, 0x150, 0x158, 0x174].map fun a => ws.getD ((a - 0x40) / 4) 0)
  | _ => none

/-- The translation of `wdot` has 79 words, with the words of Table 21.3 at their addresses. -/
theorem test_translate_wdot : wdot.length = 176 ∧ wordsOf ((waimelRec wdot).translate 2) = some (79,
    [0x18000002, 0x08809800, 0xC00E0090, 0xC00E8090, 0xC00F0090, 0xC00F8090, 0x2A000541, 0x4011000E, 0x2A000041, 0x401020C3, 0xFF800000,
     0x01180002, 0x2C300026, 0x2A000141, 0x401B4C9B, 0x403F0000, 0x403F0000, 0x401C64EC, 0x4020648B, 0x401F668F, 0x40388000, 0x40389010,
     0x4037400C, 0x401A008C, 0x4030001D, 0x4031221D, 0x15080805, 0xC012A000]) := by decide +kernel

/-- R370 accepts `wdot`, and R373 and R375 choose U = 2. -/
theorem test_wdot_accepted : waimelErr wdot = none ∧ waimelGroup wdot = some 2 ∧ waimelSettled wdot 2 = true := by decide +kernel

/-! ### The clauses that need states of their own -/

/-- A load outstanding into s9 of the next frame; one into the frame that a call of fifteen would spill. -/
def linkLoaded : State := loading { pending 1 with dest := 23 }

theorem witness_trap_waits : linkLoaded.st.trapBusy = true ∧ (after (.trap 1) linkLoaded).st.stall = some .spill ∧ base.st.trapBusy = false ∧
    (let s : State := { loading { pending 1 with dest := 16 } with st := { (loading { pending 1 with dest := 16 }).st with jobs := [.frameOut 15 0] } }
     s.st.jobBusy (.frameOut 15 0) = true ∧ (after .spillTransfer s).st.jobs = [.frameOut 15 0]) := by decide

/-- A region that another task holds over the first blocks of the strand's towers (R334). -/
def fenced (s : State) : State := { s with regions := [⟨0, 7, 0, 0, 0, 0, 0, 10, true, some 5⟩] }

theorem witness_spill_faults : let r : State := { base with st := { (strand0.setRs 9 (textVA 3)) with sf := 1 } }
    let c : State := { withText [0x28000002, 0, 0x18000002] with st := { strand0 with resident := 15, moved := 0 } }
    (fenced r).spillFault [.frameIn 225 0] = some (tower 0) ∧ ((after .ret (fenced r)).st.sysv 0x040).toNat % 256 = 5 ∧
    (fenced c).spillFault (callFrame (fenced c).st) = some (tower 0) := by decide +kernel

theorem witness_eret_fills : let h (n sf : Nat) : State := { base with st := { ((inHandler base).st.setSys 0x043 (textVA 4)) with sf := sf, moved := n } }
    (h 0 1).st.resident = 1 ∧ (h 0 1).st.sf ≠ 0 ∧ (after .eretResume (h 0 1)).st.jobs = [.frameIn 225 0] ∧
    (after .eretResume (h 1 1)).st.pc = textVA 4 ∧ (after .eretResume (h 0 0)).st.pc = textVA 4 ∧ (h 0 0).st.sf = 0 := by decide

/-- An unresolved generation with eight held. -/
theorem witness_guards_full : let s : State := { heldGens 7 with st := { (heldGens 7).st with guards := strand0.guards.set 2 ⟨.unresolved, 7, [], true⟩ } }
    s.st.heldOlder 2 = 7 ∧ s.st.heldCurrent 2 = true ∧ (s.st.guardSlot 2).st = .unresolved ∧
    ((after (.gsetUnres 2) s).st.guardSlot 2).st = .no ∧ (after (.gsetUnres 2) s).st.stall = some .guardOpen ∧
    (after (.gset 2 0 0 0) (heldGens 7)).st.stall = some .guardOpen := by decide +kernel

/-- A load half of which the core's buffer holds; one to another package; a store behind a release. -/
theorem witness_access_waits : (let s : State := { paged 1 with outbound := [(0, [{ buffered with line := hbmPA 0x20000, bytes := [(hbmPA 0x20008, 1)] }])] }
      s.outMixed 0 (hbmPA 0x20008) 8 = true ∧ s.outMixed 0 (hbmPA 0x20008) 1 = false ∧
      (after (.ld 2 1 3 0) (withReg s 1 (pageVA 8))).st.stall = some .fence) ∧
    (let s : State := { base with outbound := [(0, [buffered])], st := { strand0 with relPend := some 3 } }
     s.relWait s.st = true ∧ (after (.st 2 1 3 0) (withReg s 1 (tower 8))).st.stall = some .fence ∧ base.relWait base.st = false) ∧
    (let s : State := withReg { withPage base (word (5 * 2 ^ 48 + 0x20000 + 2 * 2 ^ 3 + 3)) with hub := { Hub.reset with pkg := 0 } } 1 (pageVA 8)
     s.check s.st 0 (pageVA 8) 8 .load = .ok (5 * 2 ^ 48 + 0x20008) 2 false false ∧ paPackage (5 * 2 ^ 48 + 0x20008) ≠ 255 ∧
     (after (.ld 2 1 3 0) s).st.stall = some .interlock ∧ (after (.ld 2 1 3 0) s).st.loads.length = 1) := by decide +kernel

/-- The bodies of LOOPB: a fault in it, and none. -/
theorem witness_loopb_parts : let s (w : W32) := withReg (withText [0x2C000000, w]) 1 2
    (s 0).loopbParts 0 0 0 1 = .error (1, textVA 1) ∧ (s 0x4000C120).loopbParts 0 0 0 1 = ((s 0x4000C120).outerBody (textVA 1) 1 1 0 false) ∧
    ((s 0x4000C120).loopbParts 0 0 0 1).toOption.isSome = true ∧ (s 0x4000C120).st.room .D 0 = true ∧ (s 0x4000C120).st.room .C 0 = true := by decide +kernel

/-- FHREC names the record of `atRecord`: none of the scheduler's, a ready one, one that waits for two. -/
def handled (n : Nat) (l : List RecEntry) : State :=
  { atRecord n with parts := [(0, { Part.initial with fhrec := pageVA 0 })], recs := l }

theorem witness_handler_signal : (handled 2 [record 1]).recordAddr (Strand.forPart 0 0) ((handled 2 [record 1]).part 0).fhrec = .found (hbmPA 0x20000) ∧
    (handled 2 [record 1]).recAt (hbmPA 0x20000) = some (record 1) ∧ 2 ≤ ((handled 2 [record 1]).recWord (hbmPA 0x20000) 4).toNat / 2 ^ 32 ∧
    (((after (.handlerSignal 0) (handled 2 [record 1])).recWord (hbmPA 0x20000) 4).toNat / 2 ^ 32 = 1) ∧
    ((after (.handlerSignal 0) (handled 2 [record 2])).part 0).hpend = true ∧
    ((after (.handlerSignal 0) { handled 2 [record 1] with poison := [(hbmPA 0x20020, true)] }).part 0).vlog.length = 1 ∧
    (handled 0 []).recAt (hbmPA 0x20000) = none ∧ (handled 0 []).recPoison (hbmPA 0x20000) spawnWords = none ∧
    (handled 0 []).badRecord 0 0 (hbmPA 0x20000) = false ∧ (after (.handlerSignal 0) (handled 0 [])).recs.map (·.state) = [2] := by decide +kernel

/-- Two held faults of one page join as one. -/
theorem witness_held_joins : let s : State := { base with held := [(0, [heldFault, { heldFault with who := ⟨9, 1⟩ }, { heldFault with vpn := 3 }])], disarmed := [(0, true)] }
    ((after (.heldFaultPost 0) s).fqOf 0).map (·.faulters) = [[⟨1, 0⟩, ⟨9, 1⟩]] ∧ ((after (.heldFaultPost 0) s).heldOf 0).map (·.vpn) = [3] := by decide +kernel

/-- A press already at work on the one placement; a record whose core has come to accept none. -/
theorem witness_pressed : (let s : State := { crowded with st := { crowded.st with saveReq := true }, others := crowded.others.map fun u => { u with saveReq := true } }
      s.pressed (record 2) = true ∧ s.placeFree (record 2) [] = none) ∧ crowded.pressed (record 2) = false ∧
    ((queued staged 0).placements staged).contains (0, 0) = true ∧
    (let s : State := { queued staged 0 with cores := [(0, { CoreState.initial with mpend := true })] }
     (s.placements staged).contains (0, 0) = false ∧ (after .dispatchComplete s).recs.map (·.staging) = [none]) := by decide +kernel

/-- A mismatch at the word that opens a window. -/
theorem witness_marking_mismatch : let s := withText [0x82844000]
    s.nextWord = some (.dot 0 1 2 2 0 0 0) ∧ s.marksWindow (.dot 0 1 2 2 0 0 0) = true ∧ s.st.again = false ∧ s.st.loads = [] ∧
    (after .checkerMismatch s).st.win.isSome = true ∧ (after .checkerMismatch s).st.rollback = some (.mismatch (textVA 0)) := by decide +kernel

/-- A package whose path is lost; a domain that names it. -/
theorem witness_path_lost : let s : State := { base with domains := [⟨5, 7, 0, 4, [], 0, 1, 0, false, [2], 0⟩] }
    SMap.get false s.hub.unreach 2 = false ∧ s.st.loads = [] ∧ s.st.begunCopy = none ∧
    SMap.get false (after (.reachabilityChange 2 false) s).hub.unreach 2 = true ∧
    ((after (.reachabilityChange 2 false) s).domains.map (·.broken)) = [true] := by decide +kernel

/-- YIELD where an earlier deadline waits for the fields. -/
theorem witness_yield : crowded.st.ctxa ≠ 0 ∧ crowded.yieldsTo = true ∧ crowded.st.saving = false ∧ (after .yield crowded).st.saveReq = true := by
  decide +kernel

/-- A limit that comes before the phase completes, at a BARW word; one after. -/
theorem witness_barw_limit : let l (done : Nat) (t : Nat) : State :=
      { withText [0x17085000] with
        time := t,
        st := { (inDomain 1 0 id).st with pendBit := true, stall := some (.barrier (some 5)) }, domains := [⟨1, 7, 0, 2, [1, 2], 0, 0, 1, false, [], done⟩] }
    (l 4 9).st.phase < 1 ∧ (l 4 9).fetch 0 (textVA 0) = .ok (.barw 1 1) ∧ ((l 4 9).domainOf (l 4 9).st).map (·.doneAt) = some 4 ∧
    (after .barwLimitExpiry (l 4 9)).st.rs 1 = 0 ∧ (after .barwLimitExpiry (l 6 9)).st.rs 1 = 1 := by decide +kernel

theorem witness_admitted (kind : Nat) (payload : List Byte) : Admitted (sessionAt 0 []) (signed kind 0 payload) kind payload (session3 0 []) :=
  ⟨rfl, rfl, rfl, rfl, rfl, rfl, rfl, rfl⟩

/-- A machine of the host with session 3 open: page 2 of kind S holds records. -/
def serviced : State :=
  { withPage State.reset (leafOf 0) with sessions := [session3 0 []], partOf := [(0, 16)], parts := [(0, Part.initial)] }

theorem witness_requests_performed : (serviced.hostRecord 0 (hubVA (15 * 2 ^ 60 + 0x20000)) = .found (hbmPA 0x20000)) ∧
    (List.replicate 128 (0 : Byte)).length = 128 ∧
    (let u := serviced.hostStore (hbmPA 0x20000) ((List.replicate 128 (0 : Byte)).take 128)
     u.liveRecords 0 0 < 4096 ∧ u.badRecord 0 0 (hbmPA 0x20000) = false ∧ ({ u with partOf := [] } : State).badRecord 0 0 (hbmPA 0x20000) = true) ∧
    hosted.hostSpan 0 (hubVA (15 * 2 ^ 60 + 0x20000)) 8 readPage = .ok [(hbmPA 0x20000, 8)] ∧ hosted.spanPoison [(hbmPA 0x20000, 8)] = false ∧
    serviced.objects = [] ∧ ({ serviced with objects := [placeObject 0] } : State).taskOn 0 1 = none ∧
    ((placeObject 0).part, (placeObject 0).handle, (placeObject 0).binds) = (0, 1, []) ∧
    (let s : State := { handled 2 [record 1] with sessions := [session3 0 []] }
     s.hostRecord 0 (hubVA (15 * 2 ^ 60 + 0x20000)) = .found (hbmPA 0x20000) ∧ s.recPoison (hbmPA 0x20000) [4] = none) := by decide +kernel

/-- What the statements ask besides of the states above: no value awaited, no S access unperformed, no link that retrains, nothing on its way. -/
theorem witness_quiet : base.st.awaiting = false ∧ base.sOpen base.st = false ∧ base.late = [] ∧ base.stalled base.st.die (towerPA 0 8) = false ∧
    base.netBusy base.st.coreIdx (towerPA 0 8) = false ∧ base.outMixed base.st.coreIdx (towerPA 0 8) 8 = false ∧ base.st.flights = [] ∧ base.net = [] ∧
    base.replies = [] ∧ base.outbound = [] ∧ base.farWrites = [] ∧ base.resume = [] ∧ base.st.vfrozen = false ∧ base.hub.holds = false ∧
    base.st.shadow = [] ∧ base.st.replay = [] ∧ base.reclaimedIn 0 0 1024 = false ∧ base.hub.powered = true ∧ base.st.spawning = [] ∧
    base.spawnsOf base.st.coreIdx = 0 ∧ base.syncedNow 0 = none ∧ base.homeq = [] ∧ (base.chan 0).retraining = false := by decide +kernel

/-- What they ask where it is not so: a link that retrains under a request and under a write, a value awaited, a bit the cycle has
updated, spawns at their limit and one that later words pass, a token that has come, an isolation asked to end. -/
theorem witness_unquiet : (let s : State := { requested with net := [request (hbmPA 0x20000)], chans := [(0, { Chan.initial with retraining := true })] }
      s.stalled 0 (hbmPA 0x20000) = true ∧ (after (.homeAtomic 0) s).net.length = 1 ∧ (s.chan 0).retraining = true) ∧
    (loading (pending 1)).st.awaiting = true ∧
    (after (.syncs 1) base).syncedNow 1 = some 0 ∧ (after (.syncw 1) (after (.syncs 1) base)).st.stall = some .syncw := by decide +kernel

/-- A core at its limit of spawns in flight; a spawn whose answer comes later. -/
def spawnFull : State := { atRecord 0 with st := { (atRecord 0).st with spawning := List.replicate 64 ⟨16, pageVA 128, hbmPA 0x20080, 0, 0⟩ } }

def spawnLate : State := { atRecord 0 with late := [true] }

theorem witness_spawns : spawnFull.spawnsOf spawnFull.st.coreIdx = 64 ∧ (after (.spawn 2 1) spawnFull).st.rs 2 = 2 ∧ spawnFull.st.spawning ≠ [] ∧
    spawnLate.late.head? = some true ∧ (after (.spawn 2 1) spawnLate).st.spawning.length = 1 ∧ (after (.spawn 2 1) spawnLate).recs = [] := by
  decide +kernel

/-- A TKW of counter 5 whose interval has passed, with and without the token. -/
def tokenWait (n : Nat) : State :=
  { withText [0x14A3C001] with
    st := { strand0 with
      stall := some (.token (tokOf 5)), tok := strand0.tok.put (tokOf 5) n, cyc := Config.watchdog } }

theorem witness_token_came : (tokenWait 0).st.stallAt + Config.watchdog ≤ (tokenWait 0).st.cyc ∧ (tokenWait 0).tokenThere = false ∧
    (tokenWait 15).tokenThere = true ∧ (after .tkwWatchdog (tokenWait 0)).st.sysv 0x040 = 0x0E ∧
    (after .tkwWatchdog (tokenWait 15)).st.sysv 0x040 = 0 := by decide +kernel

/-- A tower unit is loaded as the bank at once; an old load to it makes CBASE wait. -/
theorem witness_bank_waits : (let s : State := privileged (paged 1)
      s.bankWait 0x20400 (hbmPA 0x20400) = none ∧
      ({ s with outbound := [(0, [{ buffered with line := hbmPA 0x20400, bytes := [(hbmPA 0x20400, 1)] }])] } : State).bankWait 0x20400 (hbmPA 0x20400) ≠ none ∧
      paPackage (hbmPA 0x20400) = 255) := by decide +kernel

end Sys2Proof.Tests
end

section
/-! ## Scalar register words: division, immediates, constants (R79 to R83) -/

namespace Sys2Proof.Machine

/-- A word whose meaning writes w writes every value that equals w. -/
theorem WritesRd.of_exec_eq {s : State} {i : Instr} {d : BitVec 5} {v w : Word} {n : Nat}
    (h : exec i s = .next (s.writeRd d w n)) (hv : w = v) : WritesRd s i d v n :=
  WritesRd.of_exec (hv ▸ h)

/-! ### Division (R79) -/

theorem truncDiv_eq_tdiv (a b : Int) : truncDiv a b = a.tdiv b := by
  have habs : (a.tdiv b).natAbs = a.natAbs / b.natAbs := Int.natAbs_tdiv a b
  unfold truncDiv
  split
  case isTrue h =>
    have hsign : 0 ≤ a.tdiv b := by
      rcases Int.mul_nonneg_iff.1 h with ⟨ha, hb⟩ | ⟨ha, hb⟩
      · exact Int.tdiv_nonneg ha hb
      · exact Int.tdiv_nonneg_of_nonpos_of_nonpos ha hb
    omega
  case isFalse h =>
    have hsign : a.tdiv b ≤ 0 := by
      rcases mul_neg_iff.1 (not_le.1 h) with ⟨ha, hb⟩ | ⟨ha, hb⟩
      · exact Int.tdiv_nonpos_of_nonneg_of_nonpos ha.le hb.le
      · rw [← Int.neg_neg a, Int.neg_tdiv]
        exact neg_nonpos.2 (Int.tdiv_nonneg (neg_nonneg.2 ha.le) hb.le)
    omega

/-- R79: the one quotient of two registers that no register holds, 2^63, wraps to the dividend, -2^63. -/
theorem ofInt_tdiv_of_overflow {x y : Word} (hx : x.toInt = -2 ^ 63) (hy : y.toInt = -1) :
    BitVec.ofInt 64 (x.toInt.tdiv y.toInt) = x := by
  rw [hy, Int.tdiv_neg, Int.tdiv_one]
  conv_rhs => rw [← BitVec.ofInt_toInt (x := x)]
  rw [hx]
  decide

theorem divide_eq (x y : Word) : divide x y = if y = 0 then 0xFFFFFFFFFFFFFFFF
    else if x.toInt = -2 ^ 63 ∧ y.toInt = -1 then x else BitVec.ofInt 64 (truncDiv x.toInt y.toInt) := by
  unfold divide
  by_cases hy : y = 0
  · simp [hy]
  · rw [if_neg (by simpa using hy), if_neg hy, truncDiv_eq_tdiv]
    split
    case isTrue h => exact ofInt_tdiv_of_overflow h.1 h.2
    case isFalse => rfl

theorem remainder_eq (x y : Word) : remainder x y = if y = 0 then x
    else if x.toInt = -2 ^ 63 ∧ y.toInt = -1 then 0 else BitVec.ofInt 64 (x.toInt - y.toInt * truncDiv x.toInt y.toInt) := by
  unfold remainder
  by_cases hy : y = 0
  · simp [hy]
  · rw [if_neg (by simpa using hy), if_neg hy, truncDiv_eq_tdiv, ← Int.tmod_def]
    split
    case isTrue h => rw [h.2, Int.tmod_neg, Int.tmod_one]; rfl
    case isFalse => rfl

theorem divideN_eq (x y : Word) :
    divideN x y = if y = 0 then 0xFFFFFFFFFFFFFFFF else BitVec.ofNat 64 (x.toNat / y.toNat) := by
  unfold divideN
  by_cases hy : y = 0
  · simp [hy]
  · rw [if_neg (by simpa using hy), if_neg hy, word]

theorem remainderN_eq (x y : Word) :
    remainderN x y = if y = 0 then x else BitVec.ofNat 64 (x.toNat - y.toNat * (x.toNat / y.toNat)) := by
  unfold remainderN
  by_cases hy : y = 0
  · simp [hy]
  · rw [if_neg (by simpa using hy), if_neg hy, word, Nat.mod_def]

/-- Settles O5: each division word writes what `divide` and its kin compute, and these are the quotients of R79. -/
theorem divisionWrites : Obligations.DivisionWrites := by
  unfold Obligations.DivisionWrites
  rintro s d a b x y rfl rfl
  exact ⟨.of_exec_eq rfl (divide_eq _ _), .of_exec_eq rfl (remainder_eq _ _), .of_exec_eq rfl (divideN_eq _ _),
    .of_exec_eq rfl (remainderN_eq _ _)⟩

/-! ### Immediates and constants (R80 to R83) -/

theorem add_imm14 (x : Word) (i : BitVec 14) : x + imm14 i = BitVec.ofInt 64 (x.toInt + i.toInt) := by
  rw [BitVec.ofInt_add, BitVec.ofInt_toInt]
  rfl

theorem shiftLeft_eq_ofNat (x : Word) (n : Nat) : x <<< n = BitVec.ofNat 64 (x.toNat * 2 ^ n) := by
  apply BitVec.eq_of_toNat_eq
  rw [BitVec.toNat_shiftLeft, Nat.shiftLeft_eq, BitVec.toNat_ofNat]

theorem ushiftRight_eq_ofNat (x : Word) (n : Nat) : x >>> n = BitVec.ofNat 64 (x.toNat / 2 ^ n) := by
  have hle : x.toNat / 2 ^ n ≤ x.toNat := Nat.div_le_self _ _
  apply BitVec.eq_of_toNat_eq
  rw [BitVec.toNat_ushiftRight, Nat.shiftRight_eq_div_pow, BitVec.toNat_ofNat, Nat.mod_eq_of_lt (by omega)]

theorem sshiftRight_eq_ofInt (x : Word) (n : Nat) : x.sshiftRight n = BitVec.ofInt 64 (x.toInt / 2 ^ n) := by
  rw [BitVec.sshiftRight, Int.shiftRight_eq_div_pow]
  norm_cast

theorem boolWord_decide (p : Prop) [Decidable p] : boolWord (decide p) = if p then 1 else 0 := by
  simp [boolWord]

theorem slt_imm14 (x : Word) (i : BitVec 14) : boolWord (x.slt (imm14 i)) = if x.toInt < i.toInt then 1 else 0 := by
  rw [BitVec.slt_eq_decide, imm14, BitVec.toInt_signExtend_of_le (by omega), boolWord_decide]

theorem ult_imm14 (x : Word) (i : BitVec 14) :
    boolWord (x.ult (imm14 i)) = if x.toNat < (BitVec.ofInt 64 i.toInt).toNat then 1 else 0 := by
  rw [BitVec.ult_eq_decide, boolWord_decide]
  rfl

theorem imm20_shiftLeft_twelve (j : BitVec 20) : imm20 j <<< 12 = BitVec.ofInt 64 (j.toInt * 2 ^ 12) := by
  rw [BitVec.shiftLeft_eq_mul_twoPow, BitVec.ofInt_mul]
  rfl

/-- R81, R90, R91: a displacement in words, from a sign-extended field of w bits. -/
theorem signExtend_mul_four {w : Nat} (j : BitVec w) : (j.signExtend 64 * 4 : Word) = BitVec.ofInt 64 (j.toInt * 4) := by
  rw [BitVec.ofInt_mul]
  rfl

theorem jumpTarget_eq (pc : Word) (j : BitVec 20) : jumpTarget pc j = pc + BitVec.ofInt 64 (j.toInt * 4) :=
  congrArg (pc + ·) (signExtend_mul_four j)

/-- R82: LITH puts its literal above the low half of the register. -/
theorem zext32_shiftLeft_or_low (l : W32) (r : Word) :
    zext32 l <<< 32 ||| zext32 (low32 r) = BitVec.ofNat 64 (l.toNat * 2 ^ 32 + r.toNat % 2 ^ 32) := by
  have hl : l.toNat < 2 ^ 32 := l.isLt
  have hr : r.toNat % 2 ^ 32 < 2 ^ 32 := Nat.mod_lt _ (by decide)
  apply BitVec.eq_of_toNat_eq
  have hhigh : (zext32 l <<< 32).toNat = l.toNat <<< 32 := by
    simp only [zext32, BitVec.toNat_shiftLeft, BitVec.toNat_setWidth, Nat.shiftLeft_eq]
    omega
  have hlow : (zext32 (low32 r)).toNat = r.toNat % 2 ^ 32 := by
    simp only [zext32, low32, BitVec.toNat_setWidth]
    omega
  rw [BitVec.toNat_or, hhigh, hlow, ← Nat.shiftLeft_add_eq_or_of_lt hr, Nat.shiftLeft_eq, BitVec.toNat_ofNat]
  omega

/-- Settles O6: each form writes one value of its operands, which the lemmas above put in integers. -/
theorem immediatesAndConstantsWrite : Obligations.ImmediatesAndConstantsWrite := by
  unfold Obligations.ImmediatesAndConstantsWrite
  rintro s d a i n j l c x rfl
  exact ⟨.of_exec_eq rfl (add_imm14 _ i), .of_exec rfl, .of_exec rfl, .of_exec rfl,
    .of_exec_eq rfl (shiftLeft_eq_ofNat _ _), .of_exec_eq rfl (ushiftRight_eq_ofNat _ _),
    .of_exec_eq rfl (sshiftRight_eq_ofInt _ _), .of_exec_eq rfl (slt_imm14 _ i), .of_exec_eq rfl (ult_imm14 _ i),
    .of_exec_eq rfl (imm20_shiftLeft_twelve j), .of_exec rfl, .of_exec_eq rfl (jumpTarget_eq _ j), .of_exec rfl,
    .of_exec_eq rfl (BitVec.ofNat_toNat 64 l).symm, .of_exec_eq rfl (zext32_shiftLeft_or_low l _), .of_exec rfl⟩

end Sys2Proof.Machine
end

section
/-! ## Branches and jumps (R52, R90 to R92) -/

namespace Sys2Proof.Machine

variable {s : State} {i : Instr} {target : Word}

/-! ### The conditions of Table 2.4 -/

@[simp] theorem Cond.holds_eq (x y : Word) : Cond.eq.holds x y = true ↔ x = y := beq_iff_eq

@[simp] theorem Cond.holds_ne (x y : Word) : Cond.ne.holds x y = true ↔ x ≠ y := bne_iff_ne

@[simp] theorem Cond.holds_lt (x y : Word) : Cond.lt.holds x y = true ↔ x.toInt < y.toInt := BitVec.slt_iff_toInt_lt

@[simp] theorem Cond.holds_ge (x y : Word) : Cond.ge.holds x y = true ↔ y.toInt ≤ x.toInt := by
  simp [Cond.holds, BitVec.slt_eq_decide]

@[simp] theorem Cond.holds_ltn (x y : Word) : Cond.ltn.holds x y = true ↔ x.toNat < y.toNat := BitVec.ult_iff_toNat_lt

@[simp] theorem Cond.holds_gen (x y : Word) : Cond.gen.holds x y = true ↔ y.toNat ≤ x.toNat := by
  simp [Cond.holds, BitVec.ult_eq_decide]

/-! ### The transfer (R52, R92) -/

theorem branchTarget_eq (pc : Word) (i : BitVec 14) : branchTarget pc i = pc + BitVec.ofInt 64 (i.toInt * 4) :=
  congrArg (pc + ·) (signExtend_mul_four i)

theorem exitLoops_eq_loopsAfter (target : Word) (ls : List LoopLevel) : exitLoops target ls = loopsAfter target ls := by
  cases ls <;> rfl

theorem targetFault_of_unaligned (h : target.toNat % 4 ≠ 0) : s.targetFault target = some 0x04 := by
  simp [State.targetFault, bf, bitsOf, h]

theorem targetFault_of_aligned (h : target.toNat % 4 = 0) : s.targetFault target = s.fetchFault s.st.part target := by
  simp [State.targetFault, bf, bitsOf, h]

theorem fetchFault_of_no_text (h : s.textAt s.st.part target = none) : s.fetchFault s.st.part target = some 0x05 := by
  simp [State.fetchFault, h]

theorem MarkedWord.fetchFault (h : MarkedWord s target) : s.fetchFault s.st.part target = some 0x07 := by
  obtain ⟨o, k, htext, hmark⟩ := h
  simp only [State.fetchFault, htext, hmark, if_true]

theorem TextWord.fetchFault (h : TextWord s target) : s.fetchFault s.st.part target = none := by
  obtain ⟨o, k, htext, hmark⟩ := h
  simp only [State.fetchFault, htext, hmark, Bool.false_eq_true, if_false]

/-- A transfer whose target has a fault takes it, with the target as its address. -/
theorem FaultsAt.of_jumpTo {c : Nat} (h : exec i s = finish s (s.jumpTo target)) (hf : s.targetFault target = some c) :
    FaultsAt s i c target := by
  rw [FaultsAt, h, State.jumpTo, hf]
  rfl

theorem JumpsTo.of_jumpTo (h : exec i s = finish s (s.jumpTo target)) (hf : s.targetFault target = none) :
    JumpsTo s i target := by
  have hnext : exec i s = .next { s with st := { s.st.unitDone with
      pc := target, loops := exitLoops target s.st.loops, afterCall := none } } := by
    rw [h, State.jumpTo, hf]
    rfl
  exact ⟨_, hnext, rfl, rfl, rfl, rfl, exitLoops_eq_loopsAfter target s.st.loops⟩

/-- R92: a word that ends as `State.jumpTo` meets the checks of Table 4.6 in their order. -/
theorem TransferRules.of_jumpTo (h : exec i s = finish s (s.jumpTo target)) : TransferRules s i target :=
  ⟨fun ha => .of_jumpTo h (targetFault_of_unaligned ha),
    fun ha ht => .of_jumpTo h ((targetFault_of_aligned ha).trans (fetchFault_of_no_text ht)),
    fun ha hm => .of_jumpTo h ((targetFault_of_aligned ha).trans hm.fetchFault),
    fun ha ht => .of_jumpTo h ((targetFault_of_aligned ha).trans ht.fetchFault)⟩

/-- R90: a word that ends as `State.branch` falls through or transfers, as its condition says. -/
theorem BranchRules.of_branch {c : Cond} {a b : BitVec 5} {d : BitVec 14} {holds : Prop}
    (h : exec i s = finish s (s.branch c a b d)) (hc : c.holds (s.st.rs a) (s.st.rs b) = true ↔ holds) :
    BranchRules s i holds (s.st.pc + BitVec.ofInt 64 (d.toInt * 4)) := by
  rw [← branchTarget_eq]
  constructor
  · intro hn
    refine Completes.of_advance (h.trans ?_) rfl rfl rfl
    rw [State.branch, if_neg (mt hc.1 hn)]
    rfl
  · intro hy
    refine TransferRules.of_jumpTo (h.trans ?_)
    rw [State.branch, if_pos (hc.2 hy)]

/-- Settles O8: the branches are `State.branch` under their six conditions, J and JR are `State.jumpTo`. -/
theorem branchesTransfer : Obligations.BranchesTransfer := by
  unfold Obligations.BranchesTransfer
  rintro s a b i x y target rfl rfl rfl
  refine ⟨.of_branch rfl (Cond.holds_eq _ _), .of_branch rfl (Cond.holds_ne _ _), .of_branch rfl (Cond.holds_lt _ _),
    .of_branch rfl (Cond.holds_ge _ _), .of_branch rfl (Cond.holds_ltn _ _), .of_branch rfl (Cond.holds_gen _ _),
    fun j => ?_, .of_jumpTo rfl⟩
  rw [← jumpTarget_eq]
  exact .of_jumpTo rfl

end Sys2Proof.Machine
end

section
/-! ## Tokens from the sequencer (R102 to R105, R197) -/

namespace Sys2Proof.Machine

variable {s : State} {st : Strand} {q : EngineQ} {t : Tok} {n : Nat}

/-! ### What the queue heads do leaves the sequencer's place in the text alone -/

/-- The fields that sequential flow reads (R96, R97). -/
def Strand.place (st : Strand) : Word × List LoopLevel × RepState := (st.pc, st.loops, st.rep)

@[simp] theorem Strand.place_setQueue (v : Queue) : (st.setQueue q v).place = st.place := by cases q <;> rfl

@[simp] theorem Strand.place_bumpLoop : (st.bumpLoop n).place = st.place := rfl

@[simp] theorem Strand.place_toHead (c : Cmd) (l : List Item) : (st.toHead q c l).place = st.place := Strand.place_setQueue _

@[simp] theorem Strand.place_setHead (c : Cmd) : (st.setHead q c).place = st.place := Strand.place_setQueue _

@[simp] theorem Strand.place_retire (c : Cmd) : (st.retire q c).place = st.place := Strand.place_setQueue _

@[simp] theorem Strand.place_posted : (st.posted t n).place = st.place := rfl

@[simp] theorem Strand.place_with_tok (k : Tokens) (b : Bool) : ({ st with tok := k, wake := b } : Strand).place = st.place := rfl

@[simp] theorem Strand.place_closeWindow : (st.closeWindow n).place = st.place := by
  unfold Strand.closeWindow
  split <;> rfl

@[simp] theorem Strand.place_closeByGuard (c : Cmd) : (st.closeByGuard c).place = st.place := by
  unfold Strand.closeByGuard
  split
  · dsimp only
    split
    · exact Strand.place_closeWindow
    · rfl
  · rfl

@[simp] theorem Strand.place_headUp1 : (st.headUp1 q).place = st.place := by
  unfold Strand.headUp1
  dsimp only
  repeat' split
  all_goals simp

@[simp] theorem Strand.place_headUp : (st.headUp q).place = st.place := by simp [Strand.headUp]

@[simp] theorem Strand.place_stage : (st.stage q).1.place = st.place := by
  unfold Strand.stage
  dsimp only
  repeat' split
  all_goals simp

@[simp] theorem Strand.place_post (bits : BitVec 4) : (st.post q bits).1.place = st.place := by
  unfold Strand.post
  dsimp only
  repeat' split
  all_goals simp

@[simp] theorem Strand.place_unshadow (c : Cmd) : (st.unshadow c).place = st.place := by
  unfold Strand.unshadow
  split <;> rfl

@[simp] theorem Strand.place_noteDone (c : Cmd) : (st.noteDone q c).place = st.place := by
  unfold Strand.noteDone
  split
  · rfl
  · split
    · exact Strand.place_unshadow c
    · rfl

@[simp] theorem Strand.place_finishHead (c : Cmd) : (st.finishHead q c).place = st.place := by
  unfold Strand.finishHead
  dsimp only
  split <;> simp

@[simp] theorem Strand.place_retryPosts : (st.retryPosts q).place = st.place := by
  unfold Strand.retryPosts
  repeat' split
  all_goals simp

@[simp] theorem Strand.place_postFlights (fs : List Flight) : (st.postFlights fs).1.place = st.place := by
  induction fs generalizing st with
  | nil => rfl
  | cons f fs ih =>
    unfold Strand.postFlights
    dsimp only
    repeat' split
    · rfl
    · exact Strand.place_post f.tok
    · exact ih.trans (Strand.place_post f.tok)

@[simp] theorem Strand.place_settleFlights : st.settleFlights.place = st.place := Strand.place_postFlights st.flights

@[simp] theorem Strand.place_headsFirst : st.headsFirst.place = st.place := by simp [Strand.headsFirst]

/-! ### Empty queues -/

theorem Strand.headUp1_of_empty (h : st.queue q = Queue.empty) : st.headUp1 q = st := by
  simp [Strand.headUp1, h, Queue.empty]

theorem Strand.stage_of_empty (h : st.queue q = Queue.empty) : (st.stage q).1 = st := by
  have hup : st.headUp q = st := by simp only [Strand.headUp, Strand.headUp1_of_empty h]
  simp [Strand.stage, hup, h, Queue.empty]

theorem Strand.retryPosts_of_empty (h : st.queue q = Queue.empty) : st.retryPosts q = st := by
  simp [Strand.retryPosts, h, Queue.empty]

theorem Strand.settleFlights_of_none (h : st.flights = []) : st.settleFlights = st := by
  simp only [Strand.settleFlights, Strand.postFlights, h, keepFlights]
  rw [← h]

theorem Strand.headsFirst_of_empty (hv : st.queue .V = Queue.empty) (hd : st.queue .D = Queue.empty)
    (hc : st.queue .C = Queue.empty) (hf : st.flights = []) : st.headsFirst = st := by
  simp only [Strand.headsFirst, List.foldl_cons, List.foldl_nil, Strand.stage_of_empty hv, Strand.stage_of_empty hd,
    Strand.stage_of_empty hc, Strand.retryPosts_of_empty hd, Strand.retryPosts_of_empty hc,
    Strand.settleFlights_of_none hf]

/-! ### The words -/

theorem Strand.again_of_no_reexec (h : st.reexec = none) : st.again = false := by
  rw [Strand.again, h]

/-- A word that flows on from what the queue heads left completes. -/
theorem Completes.of_advance_headsFirst {i : Instr} {u : Strand} (h : exec i s = .next (State.advance { s with st := u } n))
    (hu : u.place = s.st.headsFirst.place) : Completes s i u n := by
  obtain ⟨hpc, hloops, hrep⟩ : u.pc = s.st.pc ∧ u.loops = s.st.loops ∧ u.rep = s.st.rep := by
    simpa [Strand.place] using hu.trans Strand.place_headsFirst
  exact Completes.of_advance h hpc hloops hrep

theorem WaitsAt.of_wait {i : Instr} {w : Stall} (h : exec i s = finish s (.wait w)) : WaitsAt s i w := ⟨_, h⟩

/-- TKP with no re-execution (R102). -/
theorem exec_tkp {c : BitVec 3} {n : BitVec 5} (h : s.st.reexec = none) : exec (.tkp c n) s =
    finish s (if 15 < s.st.headsFirst.tok.get (tokOf c.toNat) + n.toNat then .wait (.token (tokOf c.toNat))
      else .ok (State.advance { s with st := s.st.headsFirst.posted (tokOf c.toNat) n.toNat } 4)) := by
  show finish s (s.tkpWord _ _) = _
  rw [State.tkpWord, Strand.again_of_no_reexec h]
  rfl

/-- TKW with no re-execution (R102). -/
theorem exec_tkw {c : BitVec 3} {n : BitVec 5} (h : s.st.reexec = none) : exec (.tkw c n) s =
    finish s (if s.st.headsFirst.tok.get (tokOf c.toNat) < n.toNat then .wait (.token (tokOf c.toNat))
      else .ok (State.advance { s with
        st := s.st.headsFirst.setTok (tokOf c.toNat) (s.st.headsFirst.tok.get (tokOf c.toNat) - n.toNat) } 4)) := by
  show finish s (s.tkwWord _ _) = _
  rw [State.tkwWord, Strand.again_of_no_reexec h]
  rfl

section
variable {c : BitVec 3} {n : BitVec 5} (hre : s.st.reexec = none)
include hre

theorem completes_tkp (h : s.st.headsFirst.tok.get (tokOf c.toNat) + n.toNat ≤ 15) :
    Completes s (.tkp c n) (s.st.headsFirst.posted (tokOf c.toNat) n.toNat) 4 := by
  refine .of_advance_headsFirst ?_ rfl
  rw [exec_tkp hre, if_neg (not_lt.2 h)]
  rfl

theorem waits_tkp (h : 15 < s.st.headsFirst.tok.get (tokOf c.toNat) + n.toNat) :
    WaitsAt s (.tkp c n) (.token (tokOf c.toNat)) := by
  refine .of_wait ?_
  rw [exec_tkp hre, if_pos h]

theorem completes_tkw (h : n.toNat ≤ s.st.headsFirst.tok.get (tokOf c.toNat)) :
    Completes s (.tkw c n)
      (s.st.headsFirst.setTok (tokOf c.toNat) (s.st.headsFirst.tok.get (tokOf c.toNat) - n.toNat)) 4 := by
  refine .of_advance_headsFirst ?_ rfl
  rw [exec_tkw hre, if_neg (not_lt.2 h)]
  rfl

theorem waits_tkw (h : s.st.headsFirst.tok.get (tokOf c.toNat) < n.toNat) :
    WaitsAt s (.tkw c n) (.token (tokOf c.toNat)) := by
  refine .of_wait ?_
  rw [exec_tkw hre, if_pos h]

end

/-! ### The watchdog (R105) -/

theorem tokNum_tokOf (h : n < 6) : tokNum (tokOf n) = n := by
  interval_cases n <;> rfl

theorem Strand.watched_of_token (h : st.stall = some (.token t)) : st.watched = some (tokNum t) := by
  rw [Strand.watched, h]

/-- What the watchdog of a token wait comes to. -/
theorem exec_tkwWatchdog (h : s.st.stall = some (.token t)) : exec .tkwWatchdog s =
    .next (if s.st.live && s.st.park.isNone && decide (s.st.stallAt + Config.watchdog ≤ s.st.cyc) && !s.tokenThere then
      s.seqFault ⟨0x0E, word (tokNum t), 0⟩ else s) := by
  show execTkwWatchdog s = _
  rw [execTkwWatchdog, Strand.watched_of_token h]

/-- Settles O15: both words go by the counter as the queue heads leave it, and the watchdog by the wait they note. -/
theorem tokensMove : Obligations.TokensMove := by
  unfold Obligations.TokensMove
  refine ⟨fun st hv hd hc hf => Strand.headsFirst_of_empty hv hd hc hf, ?_⟩
  rintro s c n u x hre hc rfl rfl
  refine ⟨fun h => ⟨_, completes_tkp hre h⟩, waits_tkp hre, completes_tkw hre, waits_tkw hre,
    fun hlive hpark hstall => ⟨?_, ?_⟩⟩
  · intro hdue hgone
    rw [FaultsAt, exec_tkwWatchdog hstall, tokNum_tokOf hc]
    simp [hlive, hpark, hdue, hgone]
  · intro hstays
    rw [exec_tkwWatchdog hstall, if_neg]
    rcases hstays with hearly | hthere
    · simp [hearly]
    · simp [hthere]

end Sys2Proof.Machine
end
